-- ==== Sys2Proof/Word.lean ====
section
/-! DEFINITION. The word types of the Draow Y9 (R3, R98, R118) and the one shape of sparse data the state is made of. -/

namespace Sys2Proof

/-- A scalar register, one lane of a vector register, an instruction word (R98, R118). -/
abbrev Word := BitVec 32

/-- The smallest addressable unit of every address space (R61). -/
abbrev Byte := BitVec 8

/-- A 64-bit pair: addresses, versions, counts (R98). -/
abbrev Dword := BitVec 64

/-- One bit for each of the 96 lanes of a wave: bit 32·b + j is bit j of `em_b` (R17). -/
abbrev Lanes := BitVec 96

/-- A register field of an instruction word (R118, R120). -/
abbrev Reg := BitVec 6

/-- Sparse data by a natural key, keys strictly rising (see `Machine.nmapWf`). -/
abbrev NMap (α : Type) := List (Nat × α)

end Sys2Proof
end

