-- ==== Sys2Proof/Config.lean ====
section
/-! DEFINITION. What the manual fixes as figures of the part (R6 to R12), and the values it leaves open, as constants
without a body: no proof can lean on what they are. -/

namespace Sys2Proof

/-- R6: cores of a die, and of the package. -/
def Config.coresPerDie : Nat := 64

/-- R6: cores of a pavilion. -/
def Config.coresPerPav : Nat := 16

/-- R19: words of a run. -/
def Config.runLength : Nat := 24

/-- R8, R55: cycles of a reference tick at the nominal 2.1 GHz. -/
def Config.cyclesPerTick : Nat := 21

/-- R277: age in cycles at which a result is permanent. -/
def Config.strikeWindow : Nat := 256

/-- R94: cycles after its first write at which an open epoch closes. -/
def Config.epochCycles : Nat := 1024

/-- R38: keys of a die's wait table. -/
def Config.waitKeys : Nat := 8192

/-- The value a core's special-function unit returns for operation n (2 VFEXP2, 3 VFLOG2, 4 VFSIN, 5 VFCOS) and operand x where
R113 leaves the choice within 2 units in the last place open (assumption 10). -/
opaque Config.sfuFree : Nat → Word → Word

/-- The mantissa VQPACK gives an operand of a block whose exponent is 0x00 or 0xFF (R109, R165, assumption 16). -/
opaque Config.pbfFree : Word → Word

/-- R7: lines of 64 bytes of a core's instruction cache of 64 KiB. -/
def Config.icacheLines : Nat := 1024

/-- R7: lines of 64 bytes of a core's L1 data cache of 128 KiB. -/
def Config.l1Lines : Nat := 2048

/-- R66: entries of a core's TLB, and of a die's. -/
def Config.coreTlb : Nat := 512
def Config.dieTlb : Nat := 16384

/-- Whether a relaxed load whose core's L1 holds its line is served from there, by the load's place in program order: R87 leaves it open
(assumption 17). -/
opaque Config.l1Hit : Nat → Bool

/-- The bytes in which the device keeps a spilled parent in its spill area: R33 gives their number only (assumption 80). -/
opaque Config.spillByte : Nat → Byte

/-- What the host reads at the operation window, where R303 gives writes only (assumption 86). -/
opaque Config.windowByte : Nat → Byte

/-- Which entry of a full TLB or cache of a core or die gives way, by a fresh number (R7, R9, R66, assumption 15). -/
opaque Config.victim : Nat → Nat

/-- R9: lines of 64 bytes of a die's L2 cache of 64 MiB. -/
def Config.l2Lines : Nat := 1048576

/-- Cycles that a core has counted since its own reset, when the part, reset at a cycle, comes into service: no two cores' counts are related
(R8, assumption 9). -/
opaque Config.cycleStart : Nat → Nat → Nat

/-- The entry of a contiguous group that is used when software left the group inconsistent (R65, assumption 11). -/
opaque Config.groupPick : Nat → Nat

/-- SHA-512 digests the device reports (R306, assumption 12): of what the list names, its first entry the certificate chain (0) or the
measurement's index (1 to 4), the rest what is measured. -/
opaque Config.digest : List Nat → BitVec 512

/-- The certificate chain of slot 0 (R306, assumption 12). -/
opaque Config.certificate : BitVec 512

/-- The RSA-4096 signature of a challenge with this nonce (R306, assumption 12). -/
opaque Config.signature : Nat → BitVec 4096

/-- The reading of a sensor item at the n-th reading (R307, assumption 13). -/
opaque Config.sensor : Nat → Nat → Nat

/-- What the n-th scrub of a die finds uncorrectable (R276, assumption 23): lines of HBM or the second tier by device physical address,
and offsets of Orangery granules. -/
opaque Config.scrubLines : Nat → List Nat
opaque Config.scrubOrangery : Nat → List Nat

/-- How many errors of a unit (5 Orangery, 6 HBM, 7 second tier) the n-th scrub corrects (R276, assumption 23). -/
opaque Config.scrubCorrected : Nat → Nat → Nat

end Sys2Proof
end

