-- ==== Sys2Proof/Syntax.lean ====
section
/-! DEFINITION. The instructions and device steps of the Draow Y9: one constructor for each row of spec/opcode_table.json.
The first 239 constructors are words (R118 to R132): `e` is the E bit where the table leaves it free, the other arguments are
the fields of R118 that the instruction uses, named as the table names them; reserved fields are ignored (R127) and not kept.
The other 113 are the device's own steps and the actions of the host, the board and the peers: they have no word; a step of
the machine takes them from the state's schedule, or chooses them itself when nothing is scheduled. -/

namespace Sys2Proof

/-- One RINV packet (R227): who sent it, where it goes and its eight arguments. `peer` is the sending chip, `none` for this package. -/
structure Packet where
  peer    : Option Nat
  asid    : Nat
  handler : Nat
  prio    : Nat
  chip    : Nat
  args    : List Word
  ent     : Nat
  wave    : Nat
  lane    : Nat
  reg     : Nat
  serial  : Nat
  target  : Word
  dep     : List Nat
  deriving DecidableEq, Repr

/-- A packet that arrives at this package's receive queues: the k-th packet in flight here, or one from a peer (R248). -/
inductive Arrival where
  | local (k : Nat)
  | peer (p : Packet)
  deriving DecidableEq, Repr

/-- A host access through an aperture (R300): a load of `n` bytes, or a store of bytes. -/
inductive HostAccess where
  | load (off n : Nat)
  | store (off : Nat) (data : List Byte)
  deriving DecidableEq, Repr

/-- A firmware image offered to the boot flash (R305): the verdict of its signature check and its version. -/
structure Firmware where
  signatureOk : Bool
  version     : Nat
  deriving DecidableEq, Repr

/-- The instructions and the device steps (spec/opcode_table.json, one constructor for each row). -/
inductive Instr where
  /-- R133. Scalar add of S[A] and S[B], modulo 2^32. -/
  | add (e : Bool) (d : BitVec 6) (a : BitVec 6) (b : BitVec 6)
  /-- R133. Scalar subtract, modulo 2^32. -/
  | sub (e : Bool) (d : BitVec 6) (a : BitVec 6) (b : BitVec 6)
  /-- R133. Low 32 bits of the scalar product. -/
  | mul (e : Bool) (d : BitVec 6) (a : BitVec 6) (b : BitVec 6)
  /-- R133. High 32 bits of the signed 64-bit product. -/
  | mulh (e : Bool) (d : BitVec 6) (a : BitVec 6) (b : BitVec 6)
  /-- R133. High 32 bits of the unsigned 64-bit product. -/
  | mulhu (e : Bool) (d : BitVec 6) (a : BitVec 6) (b : BitVec 6)
  /-- R134. Signed quotient rounded towards zero, never trapping. -/
  | div (e : Bool) (d : BitVec 6) (a : BitVec 6) (b : BitVec 6)
  /-- R134. Unsigned quotient, never trapping. -/
  | divu (e : Bool) (d : BitVec 6) (a : BitVec 6) (b : BitVec 6)
  /-- R134. Signed remainder with the sign of a. -/
  | rem (e : Bool) (d : BitVec 6) (a : BitVec 6) (b : BitVec 6)
  /-- R134. Unsigned remainder. -/
  | remu (e : Bool) (d : BitVec 6) (a : BitVec 6) (b : BitVec 6)
  /-- R133. Bitwise AND of two scalars. -/
  | andS (e : Bool) (d : BitVec 6) (a : BitVec 6) (b : BitVec 6)
  /-- R133. Bitwise OR of two scalars; MOV is this with s0. -/
  | orS (e : Bool) (d : BitVec 6) (a : BitVec 6) (b : BitVec 6)
  /-- R133. Bitwise XOR of two scalars. -/
  | xorS (e : Bool) (d : BitVec 6) (a : BitVec 6) (b : BitVec 6)
  /-- R135. Shift left by b read unsigned. -/
  | shl (e : Bool) (d : BitVec 6) (a : BitVec 6) (b : BitVec 6)
  /-- R135. Logical shift right by b. -/
  | shr (e : Bool) (d : BitVec 6) (a : BitVec 6) (b : BitVec 6)
  /-- R135. Arithmetic shift right by b. -/
  | sra (e : Bool) (d : BitVec 6) (a : BitVec 6) (b : BitVec 6)
  /-- R133. 1 if a < b signed, else 0. -/
  | slt (e : Bool) (d : BitVec 6) (a : BitVec 6) (b : BitVec 6)
  /-- R133. 1 if a < b unsigned, else 0. -/
  | sltu (e : Bool) (d : BitVec 6) (a : BitVec 6) (b : BitVec 6)
  /-- R133. Signed minimum. -/
  | minS (e : Bool) (d : BitVec 6) (a : BitVec 6) (b : BitVec 6)
  /-- R133. Signed maximum. -/
  | maxS (e : Bool) (d : BitVec 6) (a : BitVec 6) (b : BitVec 6)
  /-- R133. Unsigned minimum. -/
  | minu (e : Bool) (d : BitVec 6) (a : BitVec 6) (b : BitVec 6)
  /-- R133. Unsigned maximum. -/
  | maxu (e : Bool) (d : BitVec 6) (a : BitVec 6) (b : BitVec 6)
  /-- R133. Sign-extend the low 8 bits. -/
  | sextI8 (e : Bool) (d : BitVec 6) (a : BitVec 6)
  /-- R133. Sign-extend the low 16 bits. -/
  | sextI16 (e : Bool) (d : BitVec 6) (a : BitVec 6)
  /-- R133. Zero-extend the low 8 bits. -/
  | zextU8 (e : Bool) (d : BitVec 6) (a : BitVec 6)
  /-- R133. Zero-extend the low 16 bits. -/
  | zextU16 (e : Bool) (d : BitVec 6) (a : BitVec 6)
  /-- R136. Add an immediate to a scalar. -/
  | addi (e : Bool) (d : BitVec 6) (a : BitVec 6) (imm : BitVec 13)
  /-- R136. AND with the sign-extended immediate. -/
  | andi (e : Bool) (d : BitVec 6) (a : BitVec 6) (imm : BitVec 13)
  /-- R136. OR with the sign-extended immediate. -/
  | ori (e : Bool) (d : BitVec 6) (a : BitVec 6) (imm : BitVec 13)
  /-- R136. XOR with the sign-extended immediate. -/
  | xori (e : Bool) (d : BitVec 6) (a : BitVec 6) (imm : BitVec 13)
  /-- R135. Shift left by Imm()[5:0]. -/
  | shli (e : Bool) (d : BitVec 6) (a : BitVec 6) (imm : BitVec 13)
  /-- R135. Logical shift right by Imm()[5:0]. -/
  | shri (e : Bool) (d : BitVec 6) (a : BitVec 6) (imm : BitVec 13)
  /-- R135. Arithmetic shift right by Imm()[5:0]. -/
  | srai (e : Bool) (d : BitVec 6) (a : BitVec 6) (imm : BitVec 13)
  /-- R136. Signed compare with the immediate. -/
  | slti (e : Bool) (d : BitVec 6) (a : BitVec 6) (imm : BitVec 13)
  /-- R136. Unsigned compare with the sign-extended immediate. -/
  | sltiu (e : Bool) (d : BitVec 6) (a : BitVec 6) (imm : BitVec 13)
  /-- R136. Load IMM19 shifted left by 13 into a scalar. -/
  | lih (e : Bool) (d : BitVec 6) (imm : BitVec 19)
  /-- R137. 64-bit pair add modulo 2^64. -/
  | add64 (e : Bool) (d : BitVec 6) (a : BitVec 6) (b : BitVec 6)
  /-- R137. 64-bit pair subtract. -/
  | sub64 (e : Bool) (d : BitVec 6) (a : BitVec 6) (b : BitVec 6)
  /-- R137. 64-bit pair shift left by S[B]. -/
  | shl64 (e : Bool) (d : BitVec 6) (a : BitVec 6) (b : BitVec 6)
  /-- R137. 64-bit pair logical shift right. -/
  | shr64 (e : Bool) (d : BitVec 6) (a : BitVec 6) (b : BitVec 6)
  /-- R137. Count set bits of S[A]. -/
  | popc (e : Bool) (d : BitVec 6) (a : BitVec 6)
  /-- R137. Count leading zeros of S[A]. -/
  | clz (e : Bool) (d : BitVec 6) (a : BitVec 6)
  /-- R137. Count trailing zeros of S[A]. -/
  | ctz (e : Bool) (d : BitVec 6) (a : BitVec 6)
  /-- R137. Position of the set bit with S[B] set bits below it. -/
  | fns (e : Bool) (d : BitVec 6) (a : BitVec 6) (b : BitVec 6)
  /-- R137. Reverse the 32 bits of S[A]. -/
  | brev (e : Bool) (d : BitVec 6) (a : BitVec 6)
  /-- R137. Count set bits of a pair. -/
  | popcI64 (e : Bool) (d : BitVec 6) (a : BitVec 6)
  /-- R137. Leading zeros of a pair. -/
  | clzI64 (e : Bool) (d : BitVec 6) (a : BitVec 6)
  /-- R137. Trailing zeros of a pair. -/
  | ctzI64 (e : Bool) (d : BitVec 6) (a : BitVec 6)
  /-- R137. FNS over a 64-bit pair. -/
  | fnsI64 (e : Bool) (d : BitVec 6) (a : BitVec 6) (b : BitVec 6)
  /-- R137. Reverse the 64 bits of a pair into a pair. -/
  | brevI64 (e : Bool) (d : BitVec 6) (a : BitVec 6)
  /-- R156. Lane-wise 32-bit add. -/
  | vadd (e : Bool) (d : BitVec 6) (a : BitVec 6) (b : BitVec 6) (p : BitVec 3)
  /-- R156. Lane-wise 32-bit subtract. -/
  | vsub (e : Bool) (d : BitVec 6) (a : BitVec 6) (b : BitVec 6) (p : BitVec 3)
  /-- R156. Lane-wise low 32 bits of product. -/
  | vmul (e : Bool) (d : BitVec 6) (a : BitVec 6) (b : BitVec 6) (p : BitVec 3)
  /-- R156. Lane-wise signed high product. -/
  | vmulh (e : Bool) (d : BitVec 6) (a : BitVec 6) (b : BitVec 6) (p : BitVec 3)
  /-- R156. Lane-wise unsigned high product. -/
  | vmulhu (e : Bool) (d : BitVec 6) (a : BitVec 6) (b : BitVec 6) (p : BitVec 3)
  /-- R156. Lane-wise AND. -/
  | vand (e : Bool) (d : BitVec 6) (a : BitVec 6) (b : BitVec 6) (p : BitVec 3)
  /-- R156. Lane-wise OR. -/
  | vor (e : Bool) (d : BitVec 6) (a : BitVec 6) (b : BitVec 6) (p : BitVec 3)
  /-- R156. Lane-wise XOR. -/
  | vxor (e : Bool) (d : BitVec 6) (a : BitVec 6) (b : BitVec 6) (p : BitVec 3)
  /-- R156. Lane-wise shift left. -/
  | vshl (e : Bool) (d : BitVec 6) (a : BitVec 6) (b : BitVec 6) (p : BitVec 3)
  /-- R156. Lane-wise logical shift right. -/
  | vshr (e : Bool) (d : BitVec 6) (a : BitVec 6) (b : BitVec 6) (p : BitVec 3)
  /-- R156. Lane-wise arithmetic shift right. -/
  | vsra (e : Bool) (d : BitVec 6) (a : BitVec 6) (b : BitVec 6) (p : BitVec 3)
  /-- R156. Lane-wise signed minimum. -/
  | vmin (e : Bool) (d : BitVec 6) (a : BitVec 6) (b : BitVec 6) (p : BitVec 3)
  /-- R156. Lane-wise signed maximum. -/
  | vmax (e : Bool) (d : BitVec 6) (a : BitVec 6) (b : BitVec 6) (p : BitVec 3)
  /-- R156. Lane-wise unsigned minimum. -/
  | vminu (e : Bool) (d : BitVec 6) (a : BitVec 6) (b : BitVec 6) (p : BitVec 3)
  /-- R156. Lane-wise unsigned maximum. -/
  | vmaxu (e : Bool) (d : BitVec 6) (a : BitVec 6) (b : BitVec 6) (p : BitVec 3)
  /-- R160. Select va or vb per lane by the predicate. -/
  | vsel (e : Bool) (d : BitVec 6) (a : BitVec 6) (b : BitVec 6) (p : BitVec 3)
  /-- R157. Packed 16-bit add. -/
  | vaddI16x2 (e : Bool) (d : BitVec 6) (a : BitVec 6) (b : BitVec 6) (p : BitVec 3)
  /-- R157. Packed 16-bit subtract. -/
  | vsubI16x2 (e : Bool) (d : BitVec 6) (a : BitVec 6) (b : BitVec 6) (p : BitVec 3)
  /-- R157. Packed 16-bit multiply, low halves. -/
  | vmulI16x2 (e : Bool) (d : BitVec 6) (a : BitVec 6) (b : BitVec 6) (p : BitVec 3)
  /-- R157. Packed 16-bit shift left. -/
  | vshlI16x2 (e : Bool) (d : BitVec 6) (a : BitVec 6) (b : BitVec 6) (p : BitVec 3)
  /-- R157. Packed 16-bit logical shift right. -/
  | vshrI16x2 (e : Bool) (d : BitVec 6) (a : BitVec 6) (b : BitVec 6) (p : BitVec 3)
  /-- R157. Packed 16-bit arithmetic shift right. -/
  | vsraI16x2 (e : Bool) (d : BitVec 6) (a : BitVec 6) (b : BitVec 6) (p : BitVec 3)
  /-- R157. Packed signed minimum. -/
  | vminI16x2 (e : Bool) (d : BitVec 6) (a : BitVec 6) (b : BitVec 6) (p : BitVec 3)
  /-- R157. Packed signed maximum. -/
  | vmaxI16x2 (e : Bool) (d : BitVec 6) (a : BitVec 6) (b : BitVec 6) (p : BitVec 3)
  /-- R157. Packed unsigned minimum. -/
  | vminuU16x2 (e : Bool) (d : BitVec 6) (a : BitVec 6) (b : BitVec 6) (p : BitVec 3)
  /-- R157. Packed unsigned maximum. -/
  | vmaxuU16x2 (e : Bool) (d : BitVec 6) (a : BitVec 6) (b : BitVec 6) (p : BitVec 3)
  /-- R158. Lane-wise multiply-add into vd. -/
  | vmad (e : Bool) (d : BitVec 6) (a : BitVec 6) (b : BitVec 6) (p : BitVec 3)
  /-- R158. Broadcast a scalar to active lanes. -/
  | vbcs (e : Bool) (d : BitVec 6) (a : BitVec 6) (p : BitVec 3)
  /-- R158. Write each lane's index. -/
  | vlane (e : Bool) (d : BitVec 6) (p : BitVec 3)
  /-- R159. Lane-wise population count. -/
  | vpopc (e : Bool) (d : BitVec 6) (a : BitVec 6) (p : BitVec 3)
  /-- R159. Lane-wise leading zeros. -/
  | vclz (e : Bool) (d : BitVec 6) (a : BitVec 6) (p : BitVec 3)
  /-- R159. Lane-wise trailing zeros. -/
  | vctz (e : Bool) (d : BitVec 6) (a : BitVec 6) (p : BitVec 3)
  /-- R159. Lane-wise find n-th set bit. -/
  | vfns (e : Bool) (d : BitVec 6) (a : BitVec 6) (b : BitVec 6) (p : BitVec 3)
  /-- R159. Lane-wise bit reverse. -/
  | vbrev (e : Bool) (d : BitVec 6) (a : BitVec 6) (p : BitVec 3)
  /-- R159. Population count over lane pairs. -/
  | vpopcI64 (e : Bool) (d : BitVec 6) (a : BitVec 6) (p : BitVec 3)
  /-- R159. Leading zeros over lane pairs. -/
  | vclzI64 (e : Bool) (d : BitVec 6) (a : BitVec 6) (p : BitVec 3)
  /-- R159. Trailing zeros over lane pairs. -/
  | vctzI64 (e : Bool) (d : BitVec 6) (a : BitVec 6) (p : BitVec 3)
  /-- R159. Find n-th set bit over lane pairs. -/
  | vfnsI64 (e : Bool) (d : BitVec 6) (a : BitVec 6) (b : BitVec 6) (p : BitVec 3)
  /-- R159. Bit reverse of lane pairs. -/
  | vbrevI64 (e : Bool) (d : BitVec 6) (a : BitVec 6) (p : BitVec 3)
  /-- R160. Lane-wise integer compare into a predicate. -/
  | vcmp (e : Bool) (d : BitVec 3) (a : BitVec 6) (b : BitVec 6) (c : BitVec 4) (p : BitVec 3)
  /-- R161. binary32 add. -/
  | vfadd (e : Bool) (d : BitVec 6) (a : BitVec 6) (b : BitVec 6) (p : BitVec 3)
  /-- R161. binary32 subtract. -/
  | vfsub (e : Bool) (d : BitVec 6) (a : BitVec 6) (b : BitVec 6) (p : BitVec 3)
  /-- R161. binary32 multiply. -/
  | vfmul (e : Bool) (d : BitVec 6) (a : BitVec 6) (b : BitVec 6) (p : BitVec 3)
  /-- R161. binary32 fused multiply-add into vd. -/
  | vfma (e : Bool) (d : BitVec 6) (a : BitVec 6) (b : BitVec 6) (p : BitVec 3)
  /-- R161. binary32 c − a·b, fused. -/
  | vfnma (e : Bool) (d : BitVec 6) (a : BitVec 6) (b : BitVec 6) (p : BitVec 3)
  /-- R161. binary32 minimum. -/
  | vfmin (e : Bool) (d : BitVec 6) (a : BitVec 6) (b : BitVec 6) (p : BitVec 3)
  /-- R161. binary32 maximum. -/
  | vfmax (e : Bool) (d : BitVec 6) (a : BitVec 6) (b : BitVec 6) (p : BitVec 3)
  /-- R161. Packed binary16 add. -/
  | vfaddF16x2 (e : Bool) (d : BitVec 6) (a : BitVec 6) (b : BitVec 6) (p : BitVec 3)
  /-- R161. Packed binary16 subtract. -/
  | vfsubF16x2 (e : Bool) (d : BitVec 6) (a : BitVec 6) (b : BitVec 6) (p : BitVec 3)
  /-- R161. Packed binary16 multiply. -/
  | vfmulF16x2 (e : Bool) (d : BitVec 6) (a : BitVec 6) (b : BitVec 6) (p : BitVec 3)
  /-- R161. Packed binary16 fused multiply-add. -/
  | vfmaF16x2 (e : Bool) (d : BitVec 6) (a : BitVec 6) (b : BitVec 6) (p : BitVec 3)
  /-- R161. Packed binary16 c − a·b. -/
  | vfnmaF16x2 (e : Bool) (d : BitVec 6) (a : BitVec 6) (b : BitVec 6) (p : BitVec 3)
  /-- R161. Packed binary16 minimum. -/
  | vfminF16x2 (e : Bool) (d : BitVec 6) (a : BitVec 6) (b : BitVec 6) (p : BitVec 3)
  /-- R161. Packed binary16 maximum. -/
  | vfmaxF16x2 (e : Bool) (d : BitVec 6) (a : BitVec 6) (b : BitVec 6) (p : BitVec 3)
  /-- R161. binary16 add on element 0. -/
  | vfaddF16 (e : Bool) (d : BitVec 6) (a : BitVec 6) (b : BitVec 6) (p : BitVec 3)
  /-- R161. binary16 subtract on element 0. -/
  | vfsubF16 (e : Bool) (d : BitVec 6) (a : BitVec 6) (b : BitVec 6) (p : BitVec 3)
  /-- R161. binary16 multiply on element 0. -/
  | vfmulF16 (e : Bool) (d : BitVec 6) (a : BitVec 6) (b : BitVec 6) (p : BitVec 3)
  /-- R161. binary16 fused multiply-add on element 0. -/
  | vfmaF16 (e : Bool) (d : BitVec 6) (a : BitVec 6) (b : BitVec 6) (p : BitVec 3)
  /-- R161. binary16 c − a·b on element 0. -/
  | vfnmaF16 (e : Bool) (d : BitVec 6) (a : BitVec 6) (b : BitVec 6) (p : BitVec 3)
  /-- R161. binary16 minimum on element 0. -/
  | vfminF16 (e : Bool) (d : BitVec 6) (a : BitVec 6) (b : BitVec 6) (p : BitVec 3)
  /-- R161. binary16 maximum on element 0. -/
  | vfmaxF16 (e : Bool) (d : BitVec 6) (a : BitVec 6) (b : BitVec 6) (p : BitVec 3)
  /-- R161. Packed BF16 add. -/
  | vfaddBf16x2 (e : Bool) (d : BitVec 6) (a : BitVec 6) (b : BitVec 6) (p : BitVec 3)
  /-- R161. Packed BF16 subtract. -/
  | vfsubBf16x2 (e : Bool) (d : BitVec 6) (a : BitVec 6) (b : BitVec 6) (p : BitVec 3)
  /-- R161. Packed BF16 multiply. -/
  | vfmulBf16x2 (e : Bool) (d : BitVec 6) (a : BitVec 6) (b : BitVec 6) (p : BitVec 3)
  /-- R161. Packed BF16 fused multiply-add. -/
  | vfmaBf16x2 (e : Bool) (d : BitVec 6) (a : BitVec 6) (b : BitVec 6) (p : BitVec 3)
  /-- R161. Packed BF16 c − a·b. -/
  | vfnmaBf16x2 (e : Bool) (d : BitVec 6) (a : BitVec 6) (b : BitVec 6) (p : BitVec 3)
  /-- R161. Packed BF16 minimum. -/
  | vfminBf16x2 (e : Bool) (d : BitVec 6) (a : BitVec 6) (b : BitVec 6) (p : BitVec 3)
  /-- R161. Packed BF16 maximum. -/
  | vfmaxBf16x2 (e : Bool) (d : BitVec 6) (a : BitVec 6) (b : BitVec 6) (p : BitVec 3)
  /-- R161. BF16 add on element 0. -/
  | vfaddBf16 (e : Bool) (d : BitVec 6) (a : BitVec 6) (b : BitVec 6) (p : BitVec 3)
  /-- R161. BF16 subtract on element 0. -/
  | vfsubBf16 (e : Bool) (d : BitVec 6) (a : BitVec 6) (b : BitVec 6) (p : BitVec 3)
  /-- R161. BF16 multiply on element 0. -/
  | vfmulBf16 (e : Bool) (d : BitVec 6) (a : BitVec 6) (b : BitVec 6) (p : BitVec 3)
  /-- R161. BF16 fused multiply-add on element 0. -/
  | vfmaBf16 (e : Bool) (d : BitVec 6) (a : BitVec 6) (b : BitVec 6) (p : BitVec 3)
  /-- R161. BF16 c − a·b on element 0. -/
  | vfnmaBf16 (e : Bool) (d : BitVec 6) (a : BitVec 6) (b : BitVec 6) (p : BitVec 3)
  /-- R161. BF16 minimum on element 0. -/
  | vfminBf16 (e : Bool) (d : BitVec 6) (a : BitVec 6) (b : BitVec 6) (p : BitVec 3)
  /-- R161. BF16 maximum on element 0. -/
  | vfmaxBf16 (e : Bool) (d : BitVec 6) (a : BitVec 6) (b : BitVec 6) (p : BitVec 3)
  /-- R162. binary32 compare into a predicate. -/
  | vfcmpF32 (e : Bool) (d : BitVec 3) (a : BitVec 6) (b : BitVec 6) (c : BitVec 3) (p : BitVec 3)
  /-- R162. binary16 element-0 compare into a predicate. -/
  | vfcmpF16 (e : Bool) (d : BitVec 3) (a : BitVec 6) (b : BitVec 6) (c : BitVec 3) (p : BitVec 3)
  /-- R112. Reciprocal to 8-bit mantissa set S8. -/
  | vfrcp (e : Bool) (d : BitVec 6) (a : BitVec 6) (p : BitVec 3)
  /-- R112. Reciprocal square root to S8. -/
  | vfrsq (e : Bool) (d : BitVec 6) (a : BitVec 6) (p : BitVec 3)
  /-- R113. 2^x within two ulps. -/
  | vfexp2 (e : Bool) (d : BitVec 6) (a : BitVec 6) (p : BitVec 3)
  /-- R113. log2 x within two ulps. -/
  | vflog2 (e : Bool) (d : BitVec 6) (a : BitVec 6) (p : BitVec 3)
  /-- R113. sin x within two ulps. -/
  | vfsin (e : Bool) (d : BitVec 6) (a : BitVec 6) (p : BitVec 3)
  /-- R113. cos x within two ulps. -/
  | vfcos (e : Bool) (d : BitVec 6) (a : BitVec 6) (p : BitVec 3)
  /-- R164. Convert each lane between the formats of FN4 and B[3:0]. -/
  | vcvt (e : Bool) (d : BitVec 6) (a : BitVec 6) (src : BitVec 4) (dst : BitVec 4) (p : BitVec 3)
  /-- R165. Convert binary32 lanes to PBF lane form. -/
  | vqpack (e : Bool) (d : BitVec 6) (a : BitVec 6) (b : BitVec 6) (p : BitVec 3)
  /-- R166. Convert PBF lane form to binary32. -/
  | vqunp (e : Bool) (d : BitVec 6) (a : BitVec 6) (b : BitVec 6) (p : BitVec 3)
  /-- R167. Exchange lanes at a power-of-two distance. -/
  | vxch (e : Bool) (d : BitVec 6) (a : BitVec 6) (g : BitVec 3) (p : BitVec 3)
  /-- R168. Gather from the lane given per lane. -/
  | vshfl (e : Bool) (d : BitVec 6) (a : BitVec 6) (b : BitVec 6) (p : BitVec 3)
  /-- R168. Broadcast one lane selected by a scalar. -/
  | vbcl (e : Bool) (d : BitVec 6) (a : BitVec 6) (b : BitVec 6) (p : BitVec 3)
  /-- R169. Reduce 96 lanes over the fixed tree into a scalar. -/
  | vred (e : Bool) (d : BitVec 6) (a : BitVec 6) (op : BitVec 4) (p : BitVec 3)
  /-- R170. Linear inclusive or exclusive scan. -/
  | vscan (e : Bool) (d : BitVec 6) (a : BitVec 6) (ex : Bool) (op : BitVec 4) (p : BitVec 3)
  /-- R171. Write active-and-predicate bits into three scalars. -/
  | vballot (e : Bool) (d : BitVec 6) (p : BitVec 3)
  /-- R172. Stateless counter-based mix per lane. -/
  | vrand (e : Bool) (d : BitVec 6) (a : BitVec 6) (b : BitVec 6) (p : BitVec 3)
  /-- R173. Set a predicate from three scalars. -/
  | pset (e : Bool) (d : BitVec 3) (a : BitVec 6) (p : BitVec 3)
  /-- R173. Copy a predicate into three scalars. -/
  | pget (e : Bool) (d : BitVec 6) (q : BitVec 3)
  /-- R173. Predicate AND. -/
  | pand (e : Bool) (d : BitVec 3) (a : BitVec 3) (b : BitVec 3) (p : BitVec 3)
  /-- R173. Predicate OR. -/
  | por (e : Bool) (d : BitVec 3) (a : BitVec 3) (b : BitVec 3) (p : BitVec 3)
  /-- R173. Predicate XOR. -/
  | pxor (e : Bool) (d : BitVec 3) (a : BitVec 3) (b : BitVec 3) (p : BitVec 3)
  /-- R173. Predicate NOT. -/
  | pnot (e : Bool) (d : BitVec 3) (a : BitVec 3) (p : BitVec 3)
  /-- R175. Lane-wise global load, optionally acquire. -/
  | vld (e : Bool) (d : BitVec 6) (a : BitVec 6) (b : BitVec 6) (q : Bool) (t : BitVec 3) (p : BitVec 3)
  /-- R175. Lane-wise global store, optionally release. -/
  | vst (e : Bool) (d : BitVec 6) (a : BitVec 6) (b : BitVec 6) (q : Bool) (t : BitVec 3) (p : BitVec 3)
  /-- R175. Lane-wise scratchpad load. -/
  | vlds (e : Bool) (d : BitVec 6) (a : BitVec 6) (b : BitVec 6) (t : BitVec 3) (p : BitVec 3)
  /-- R175. Lane-wise scratchpad store. -/
  | vsts (e : Bool) (d : BitVec 6) (a : BitVec 6) (b : BitVec 6) (t : BitVec 3) (p : BitVec 3)
  /-- R175. Lane-wise gang scratchpad load. -/
  | vldsG (e : Bool) (d : BitVec 6) (a : BitVec 6) (b : BitVec 6) (t : BitVec 3) (p : BitVec 3)
  /-- R175. Lane-wise gang scratchpad store. -/
  | vstsG (e : Bool) (d : BitVec 6) (a : BitVec 6) (b : BitVec 6) (t : BitVec 3) (p : BitVec 3)
  /-- R177. Scalar global load. -/
  | sld (e : Bool) (d : BitVec 6) (a : BitVec 6) (b : BitVec 6) (q : Bool) (t : BitVec 3)
  /-- R177. Scalar global store. -/
  | sst (e : Bool) (d : BitVec 6) (a : BitVec 6) (b : BitVec 6) (q : Bool) (t : BitVec 3)
  /-- R177. Scalar scratchpad load. -/
  | slds (e : Bool) (d : BitVec 6) (a : BitVec 6) (b : BitVec 6) (q : Bool) (t : BitVec 3)
  /-- R177. Scalar scratchpad store. -/
  | ssts (e : Bool) (d : BitVec 6) (a : BitVec 6) (b : BitVec 6) (q : Bool) (t : BitVec 3)
  /-- R177. Scalar gang scratchpad load. -/
  | sldsG (e : Bool) (d : BitVec 6) (a : BitVec 6) (b : BitVec 6) (q : Bool) (t : BitVec 3)
  /-- R177. Scalar gang scratchpad store. -/
  | sstsG (e : Bool) (d : BitVec 6) (a : BitVec 6) (b : BitVec 6) (q : Bool) (t : BitVec 3)
  /-- R179. Lane-wise global atomic at the home. -/
  | vatom (e : Bool) (d : BitVec 6) (a : BitVec 6) (b : BitVec 6) (q : BitVec 2) (c : BitVec 4)
  /-- R179. Scalar global atomic at the home. -/
  | satom (e : Bool) (d : BitVec 6) (a : BitVec 6) (b : BitVec 6) (q : BitVec 2) (c : BitVec 4)
  /-- R181. Lane-wise Orangery load. -/
  | old (e : Bool) (d : BitVec 6) (a : BitVec 6) (b : BitVec 6) (t : BitVec 4)
  /-- R181. Lane-wise Orangery store. -/
  | ost (e : Bool) (d : BitVec 6) (a : BitVec 6) (b : BitVec 6) (t : BitVec 4)
  /-- R181. Lane-wise Orangery atomic returning the old value. -/
  | oatom (e : Bool) (d : BitVec 6) (a : BitVec 6) (b : BitVec 6) (c : BitVec 4)
  /-- R181. Lane-wise Orangery update without return. -/
  | oupd (e : Bool) (d : BitVec 6) (a : BitVec 6) (b : BitVec 6) (c : BitVec 4)
  /-- R182. Fold active lanes into one Orangery word in lane order. -/
  | ored (e : Bool) (d : BitVec 6) (a : BitVec 6) (c : BitVec 4)
  /-- R183. Contribute to an ordered reduction cell. -/
  | ordx (e : Bool) (d : BitVec 6) (a : BitVec 6) (b : BitVec 6) (c : BitVec 4)
  /-- R184. Order the entity's accesses at a scope and kind. -/
  | fence (e : Bool) (kind : BitVec 2) (scope : BitVec 3)
  /-- R93. Package fence that waits until every die applied observed writes. -/
  | gfence (e : Bool)
  /-- R186. Prefetch a range into L2. -/
  | pref (e : Bool) (a : BitVec 6) (b : BitVec 6)
  /-- R188. Issue a copy on a tag. -/
  | cpy (e : Bool) (t : BitVec 6) (a : BitVec 6) (b : BitVec 6)
  /-- R188. Issue an indexed gather copy on a tag. -/
  | cpyg (e : Bool) (t : BitVec 6) (a : BitVec 6) (b : BitVec 6)
  /-- R75. Park until every tag of the mask is idle. -/
  | twait (e : Bool) (a : BitVec 6)
  /-- R75. Park until any tag of the mask is idle. -/
  | tany (e : Bool) (a : BitVec 6)
  /-- R75. Return the lowest idle tag of the mask. -/
  | tfirst (e : Bool) (d : BitVec 6) (a : BitVec 6)
  /-- R201. Enqueue a tile clear, optionally over a grid. -/
  | mzero (e : Bool) (r : BitVec 2) (c : BitVec 2) (z : BitVec 2) (a : BitVec 6)
  /-- R199. Enqueue one matrix step. -/
  | mma (e : Bool) (z : BitVec 2) (a : BitVec 6) (b : BitVec 6)
  /-- R199. Enqueue a multi-step matrix loop. -/
  | mloop (e : Bool) (r : BitVec 2) (c : BitVec 2) (z : BitVec 2) (a : BitVec 6) (b : BitVec 6)
  /-- R199. Enqueue a PBF refinement loop over further planes. -/
  | mref (e : Bool) (r : BitVec 2) (c : BitVec 2) (z : BitVec 2) (a : BitVec 6) (b : BitVec 6)
  /-- R201. Enqueue a tile load from scratchpad. -/
  | mldz (e : Bool) (z : BitVec 2) (a : BitVec 6) (b : BitVec 6)
  /-- R201. Enqueue a tile store with conversion. -/
  | mstore (e : Bool) (z : BitVec 2) (a : BitVec 6) (b : BitVec 6)
  /-- R202. Enqueue a read of tile columns into vector registers. -/
  | mread (e : Bool) (d : BitVec 6) (a : BitVec 6) (z : BitVec 2)
  /-- R203. Enqueue a PBF truncation error bound. -/
  | mbound (e : Bool) (r : BitVec 2) (c : BitVec 2) (z : BitVec 2) (a : BitVec 6) (b : BitVec 6)
  /-- R204. Read a tile's ASN. -/
  | masn (e : Bool) (d : BitVec 6) (z : BitVec 2)
  /-- R204. Hold the entity until a tile's ASN reaches a value. -/
  | mwait (z : BitVec 2) (a : BitVec 6)
  /-- R212. Open or join the pass of a bound object and get the working slot. -/
  | pass (e : Bool) (d : BitVec 6) (a : BitVec 6)
  /-- R213. Contribute a quality and seal the block's share of the pass. -/
  | seal (e : Bool) (a : BitVec 6) (b : BitVec 6)
  /-- R52. Read version, quality and current slot of an object. -/
  | vget (e : Bool) (d : BitVec 6) (a : BitVec 6)
  /-- R53. Read the current version and pin its slot. -/
  | vpin (e : Bool) (d : BitVec 6) (a : BitVec 6)
  /-- R214. Release a pin on a slot. -/
  | vrel (e : Bool) (a : BitVec 6) (b : BitVec 6)
  /-- R215. Wait until quality reaches q or the producer ends. -/
  | qwaitQual (e : Bool) (d : BitVec 6) (a : BitVec 6) (b : BitVec 6)
  /-- R215. Wait until the version passes v or the producer ends. -/
  | qwaitVer (e : Bool) (d : BitVec 6) (a : BitVec 6) (b : BitVec 6)
  /-- R215. Wait until LDONE is set. -/
  | qwaitDone (e : Bool) (d : BitVec 6) (a : BitVec 6)
  /-- R51. Convert a binary32 error bound into a quality number. -/
  | qcvt (e : Bool) (d : BitVec 6) (a : BitVec 6)
  /-- R216. Read remaining time and energy budgets into a pair. -/
  | budget (e : Bool) (d : BitVec 6)
  /-- R218. Set a join object's count. -/
  | jinit (e : Bool) (a : BitVec 6) (b : BitVec 6)
  /-- R219. Park until a join count is zero. -/
  | join (e : Bool) (a : BitVec 6)
  /-- R221. Read future cells, parking while any is empty. -/
  | fld (e : Bool) (d : BitVec 6) (a : BitVec 6) (b : BitVec 6)
  /-- R222. Fill future cells with release and wake waiters. -/
  | fst (e : Bool) (d : BitVec 6) (a : BitVec 6) (b : BitVec 6)
  /-- R225. Append a pending generator entry per active lane. -/
  | yld (e : Bool) (a : BitVec 6) (b : BitVec 6)
  /-- R36. Commit the group and switch to the consumer at threshold. -/
  | gchk (e : Bool)
  /-- R37. Retire consumed entries and rerun the consumer or resume the producer. -/
  | gret
  /-- R37. Drain the ring and end the generator. -/
  | gend
  /-- R227. Send one remote invocation packet per enabled lane. -/
  | rinv (e : Bool) (d : BitVec 6) (a : BitVec 6) (b : BitVec 6)
  /-- R230. Send a block of memory into a peer window. -/
  | wsend (e : Bool) (a : BitVec 6) (b : BitVec 6)
  /-- R232. Park until an Orangery counter reaches a value. -/
  | cwait (e : Bool) (a : BitVec 6) (b : BitVec 6)
  /-- R232. Park until the outstanding invocation count is zero. -/
  | cwaitOut (e : Bool)
  /-- R217. Raise the join count and create one child per enabled lane. -/
  | spawn (e : Bool) (k : BitVec 3) (a : BitVec 6) (o : BitVec 16)
  /-- R223. Start a generator with a pleat buffer and threshold. -/
  | genb (e : Bool) (a : BitVec 6) (o : BitVec 16)
  /-- R140. Unconditional branch. -/
  | br (o : BitVec 16)
  /-- R140. Branch if the scalar is zero. -/
  | beqz (a : BitVec 6) (o : BitVec 16)
  /-- R140. Branch if the scalar is non-zero. -/
  | bnez (a : BitVec 6) (o : BitVec 16)
  /-- R140. Branch if the scalar is negative. -/
  | bltz (a : BitVec 6) (o : BitVec 16)
  /-- R140. Branch if the scalar is non-negative. -/
  | bgez (a : BitVec 6) (o : BitVec 16)
  /-- R140. Branch if the scalar is positive. -/
  | bgtz (a : BitVec 6) (o : BitVec 16)
  /-- R140. Branch if the scalar is at most zero. -/
  | blez (a : BitVec 6) (o : BitVec 16)
  /-- R141. Write lr and branch. -/
  | call (o : BitVec 16)
  /-- R142. Uniform branch if any enabled lane's predicate holds. -/
  | vbany (k : BitVec 3) (o : BitVec 16)
  /-- R142. Uniform branch if every enabled lane's predicate holds. -/
  | vball (k : BitVec 3) (o : BitVec 16)
  /-- R23. Divergent branch creating a pair record, detached or serial. -/
  | vbr (k : BitVec 3) (toff : BitVec 11) (koff : BitVec 11)
  /-- R152. No operation. -/
  | nop (e : Bool)
  /-- R144. Start the entity's drain, closing any open pair. -/
  | exit
  /-- R141. Jump to lr within the 4 GiB region. -/
  | ret
  /-- R141. Jump to the address in a scalar. -/
  | jmpr (a : BitVec 6)
  /-- R25. Reconvergence token: park or merge the sides of a pair. -/
  | rcv (e : Bool)
  /-- R145. Arrive at the block barrier and park until release. -/
  | bar (e : Bool)
  /-- R145. Arrive at the gang barrier and park until release. -/
  | gbar (e : Bool)
  /-- R146. Park for a number of core cycles. -/
  | pause (e : Bool) (a : BitVec 6)
  /-- R147. Read a special register. -/
  | srd (e : Bool) (d : BitVec 6) (b : BitVec 6)
  /-- R147. Write a special register. -/
  | swr (e : Bool) (a : BitVec 6) (b : BitVec 6)
  /-- R149. Raise cause 0x80 + n synchronously. -/
  | trap (n : BitVec 7)
  /-- R150. Leave handler level and resume at TRAP_PC. -/
  | tret
  /-- R151. Invalidate instruction caches for a range. -/
  | icinv (e : Bool) (a : BitVec 6) (b : BitVec 6)
  /-- R152. Refetch only after the entity's ICINVs complete. -/
  | ifence
  /-- R127. Word of majors 0x38 to 0x3B, executed as NOP. -/
  | hintRegionNop (e : Bool) (m : BitVec 2)
  /-- R123. Prefix widening the target's constant. -/
  | ximm (imm : BitVec 25)
  /-- R124. Prefix modifying predicate, rounding, saturation, scope, cache or ordering. -/
  | xmod (pneg : Bool) (rmv : Bool) (rm : BitVec 2) (sat : Bool) (scv : Bool) (scope : BitVec 3) (ch : BitVec 2) (ord : BitVec 2)
  /-- R125. Prefix hinting branch fetch order. -/
  | hint (k : BitVec 5)
  /-- R127. Issue of an illegal or unassigned word, raising ILLEGAL_INSTRUCTION. -/
  | illegalWord (w : BitVec 32)
  /-- R255. Delivery of a held asynchronous cause at a run boundary or park. -/
  | asyncTrapDelivery (ent : Nat)
  /-- R20. At a run boundary the slot chooses the next ready entity round-robin. -/
  | runArbitration (core : Nat) (slot : Nat)
  /-- R140. A run's words arrive from L2 or memory after an instruction cache miss. -/
  | runFetch (ent : Nat)
  /-- R146. A PAUSE count expires and the entity becomes ready. -/
  | pauseExpiry (ent : Nat)
  /-- R178. A load, atomic or store acknowledgement returns from memory. -/
  | globalAccessResponse (k : Nat)
  /-- R304. A waiting fault record is written once the FAULT ring has room. -/
  | faultRecordWrite (die : Nat)
  /-- R41. An exited entity's copies and stores are acknowledged and its resources freed. -/
  | drainComplete (ent : Nat)
  /-- R30. A Bobbin bin launches a wave of its entries. -/
  | binLaunch (pav : Nat) (bin : Nat)
  /-- R30. A bin receives no entry for 2,048 cycles. -/
  | binIdleExpiry (pav : Nat) (bin : Nat)
  /-- R31. The head child of the spill ring moves into a bin that can accept it. -/
  | spillRingDrain (tree : Nat)
  /-- R33. A parent parked on JOIN is spilled to free resources for a child. -/
  | parentSpill (ent : Nat)
  /-- R33. A spilled parent is restored when its count reaches zero. -/
  | parentRestore (k : Nat)
  /-- R38. An entity without a wait-table key tests its condition every 256 cycles. -/
  | waitPoll (ent : Nat)
  /-- R79. An Orangery bank applies one arriving operation atomically. -/
  | bankOperation (k : Nat)
  /-- R47. The home bank opens or joins a pass and returns the working slot. -/
  | bankPass (k : Nat)
  /-- R48. The home bank combines a seal's quality and counts it. -/
  | bankSeal (k : Nat)
  /-- R52. The home bank reads version, quality and current slot. -/
  | bankVget (k : Nat)
  /-- R53. The home bank reads and pins the current slot. -/
  | bankVpin (k : Nat)
  /-- R214. The home bank lowers a slot's pin count. -/
  | bankVrel (k : Nat)
  /-- R211. A home bank's answer returns and its registers are written. -/
  | bankAnswer (k : Nat)
  /-- R59. Close of a bound object after the launch has stopped, setting LDONE. -/
  | objectClose (launch : Nat) (k : Nat)
  /-- R285. Drop of an open pass with POISON before an ANYTIME relaunch. -/
  | objectDrop (launch : Nat) (k : Nat)
  /-- R188. A copy completes, setting its tag and returning its frames. -/
  | copyComplete (core : Nat) (k : Nat)
  /-- R263. A copy touching an unmapped page parks the copy. -/
  | copyPageFaultPark (core : Nat) (k : Nat)
  /-- R194. An engine instruction reaches an engine queue 4 cycles after issue. -/
  | matrixQueueArrival (core : Nat)
  /-- R206. An eligible entry starts when the slew limiter grants its column groups. -/
  | matrixStart (core : Nat)
  /-- R199. A matrix step ends and its update takes effect on every element. -/
  | matrixStepEnd (core : Nat)
  /-- R206. An engine's column-group release fits the slew window. -/
  | matrixRelease (core : Nat)
  /-- R194. An engine instruction completes, raising the ASN and returning frames. -/
  | matrixComplete (core : Nat)
  /-- R151. Every named line is dropped and prior stores applied everywhere. -/
  | icinvComplete (k : Nat)
  /-- R94. An open epoch closes 1,024 cycles after its first write. -/
  | epochTimeout (die : Nat)
  /-- R94. A die applies an arrived epoch once its clock allows. -/
  | epochApply (die : Nat) (src : Nat)
  /-- R309. Ikilink acknowledges an epoch's host writes. -/
  | hostEpochAck (die : Nat)
  /-- R93. Every die has applied the writes a GFENCE waits for. -/
  | gfenceRelease (ent : Nat)
  /-- R248. An invocation packet arrives and is accepted or refused by its queue. -/
  | rinvPacketArrival (src : Arrival)
  /-- R228. A packet's status reaches the sender and is written to V[D]. -/
  | rinvStatusReturn (k : Nat) (status : Nat)
  /-- R39. A waiting packet enters a bin, highest priority first with starvation rule. -/
  | receiveQueueFeed
  /-- R229. A handler lane's retirement acknowledgement returns and lowers the count. -/
  | retirementAck (k : Nat) (failed : Bool)
  /-- R96. A send's bytes are applied at the target and its arrival counter rises. -/
  | wsendArrival (win : Nat) (off : Nat) (data : List (BitVec 8))
  /-- R96. The target's acknowledgement raises the origin completion counter. -/
  | wsendAck (k : Nat)
  /-- R265. A send fails and REMOTE_FAULT or a kind-2 record follows. -/
  | wsendFailure (k : Nat)
  /-- R267. An entity's run count reaches 2^20 and HANG is raised. -/
  | hangRunLimit (ent : Nat)
  /-- R268. A chain stalled 2^22 cycles is abandoned with HANG. -/
  | issueStallWatchdog (ent : Nat)
  /-- R268. A queue entry waiting 2^24 cycles raises HANG or a kind-3 record. -/
  | engineQueueWatchdog (core : Nat) (k : Nat)
  /-- R277. A strike report rolls the core back to its permanent state. -/
  | strikeReport (core : Nat)
  /-- R277. A held write becomes permanent and leaves the strike buffer. -/
  | strikeBufferSend (core : Nat)
  /-- R284. A gang that consumed poison is stopped, reported and relaunched or lost. -/
  | containment (ent : Nat) (cause : Nat) (unit : Nat) (addr : Nat)
  /-- R276. Background scrub of HBM, second tier and Orangery. -/
  | scrub (die : Nat)
  /-- R281. A marked core with no block starts self-test. -/
  | selfTestStart (core : Nat)
  /-- R281. Self-test ends with pass, recorded fail or fence. -/
  | selfTestVerdict (core : Nat) (pass : Bool)
  /-- R289. A pavilion idle 1 ms is measured and its margins re-planned. -/
  | pathDelayMeasure (pav : Nat)
  /-- R56. Every 10 µs pavilion energies are charged to launches. -/
  | energyMeterInterval (mj : List Nat)
  /-- R55. Elapsed reference ticks reach 100 × budget. -/
  | timeBudgetExhausted (launch : Nat)
  /-- R235. A dispatch core takes one launch record, checks, retains and journals it. -/
  | recordTake (queue : Nat)
  /-- R241. The placement arbiter places the first eligible gang on a pavilion. -/
  | gangPlace
  /-- R242. A gang retires, in curve order for DETERMINISTIC launches. -/
  | gangRetire (gang : Nat)
  /-- R244. A pavilion halts and its context is swapped to shadow storage. -/
  | preemption (pav : Nat)
  /-- R244. A context is moved from shadow storage to HBM in the background. -/
  | contextEvict (k : Nat)
  /-- R244. A context is staged back into shadow storage. -/
  | contextStageIn (k : Nat)
  /-- R244. A context is restored onto free cores and gang maps rewritten. -/
  | contextRestore (k : Nat) (pav : Nat)
  /-- R247. A launch meets every completion condition and takes a sequence number. -/
  | launchComplete (launch : Nat)
  /-- R247. A completion entry is written to its completion queue in order. -/
  | completionPost
  /-- R304. A coalesced signal is written to SIGADDR at most every 2 µs per ring. -/
  | signal (ring : Nat)
  /-- R271. An instruction-memory error halts a dispatch core and signals its peer. -/
  | dispatchCoreFailure (dc : Nat)
  /-- R271. A dispatch core writes its heartbeat every 10 µs. -/
  | heartbeat (dc : Nat)
  /-- R271. Three missed heartbeats count as a failure signal. -/
  | heartbeatMiss (dc : Nat)
  /-- R272. The peer replays the journal, rescans queues and posts held completions. -/
  | dispatchTakeover (dc : Nat)
  /-- R234. Command setting up a launch queue. -/
  | queueSet (queue : Nat) (asid : Nat) (prio : Nat) (n : Nat) (cq : Nat) (base : Nat) (headAddr : Nat)
  /-- R62. Command binding an ASID to a root table, function and privilege. -/
  | asidBind (asid : Nat) (fn : Nat) (sys : Bool) (root : Nat)
  /-- R68. Command setting a virtual function's base-and-bound pairs. -/
  | vfBounds (fn : Nat) (hbmBase : Nat) (hbmBound : Nat) (tierBase : Nat) (tierBound : Nat)
  /-- R78. Command granting an Orangery unit code to an ASID. -/
  | ounitGrant (asid : Nat) (unit : Nat) (code : Nat)
  /-- R67. Command invalidating translations of an ASID range. -/
  | tlbInval (asid : Nat) (base : Nat) (length : Nat)
  /-- R67. Every TLB dropped the entries and users of them completed. -/
  | tlbInvalComplete
  /-- R262. Command answering a park with RETRY or DECLINE. -/
  | faultAnswer (die : Nat) (verdict : Nat) (park : Nat)
  /-- R43. Command creating a result object. -/
  | objCreate (asid : Nat) (index : Nat) (slots : Nat) (rule : Nat) (hostVis : Bool) (slotSize : Nat) (slotBase : Nat) (quality : Nat)
  /-- R302. Command destroying a result object. -/
  | objDestroy (asid : Nat) (index : Nat)
  /-- R302. Command writing a handler table entry. -/
  | handlerSet (asid : Nat) (index : Nat) (vregs : Nat) (entry : Nat) (handler : Nat)
  /-- R302. Command setting a receive queue and its reserves. -/
  | rxqSet (prio : Nat) (cres : Nat) (vregs : Nat) (pav : Nat) (entries : Nat) (ring : Nat) (spillSize : Nat) (base : Nat) (spill : Nat)
  /-- R230. Command registering a window or reduce window. -/
  | windowReg (number : Nat) (reduce : Bool) (format : Nat) (contributors : Nat) (base : Nat) (length : Nat) (arrival : Nat) (origin : Nat) (elements : Nat) (expo : Int)
  /-- R302. Command deregistering a window. -/
  | windowDereg (number : Nat)
  /-- R282. Command removing a core from the fence list. -/
  | fenceClear (die : Nat) (core : Nat)
  /-- R271. Command restoring a halted dispatch core. -/
  | dispatchRestore (dc : Nat)
  /-- R302. Command setting up a completion queue. -/
  | cqSet (cq : Nat) (n : Nat) (base : Nat)
  /-- R235. Host write of a launch queue tail setting its pending-kick bit. -/
  | doorbell (queue : Nat) (tail : Nat)
  /-- R302. Host write of a completion queue head freeing room for held completions. -/
  | cqhead (cq : Nat) (head : Nat)
  /-- R305. RESETCTL write or thermal trip starts a warm reset. -/
  | warmReset (word : Nat)
  /-- R301. Host write of CHIPID in STATE 3, starting Draow Fabric training. -/
  | chipid (value : Nat)
  /-- R301. Write-one-to-clear of a ring overflow bit. -/
  | devstatOvfClear (bits : Nat)
  /-- R301. Write of a ring's BASE or SIZE, resetting HEAD and TAIL. -/
  | ringSetupWrite (ring : Nat) (size : Bool) (value : Nat)
  /-- R304. Host advances a device-to-host ring's HEAD, freeing room. -/
  | ringHeadWrite (ring : Nat) (head : Nat)
  /-- R301. Write to a CTL register with no behaviour of its own. -/
  | registerWrite (offset : Nat) (value : Nat)
  /-- R303. Host operation-window VGET on a descriptor. -/
  | orngVget (line : Nat) (gen : Nat) (host : Nat)
  /-- R303. Host operation-window VPIN on a descriptor. -/
  | orngVpin (line : Nat) (gen : Nat) (host : Nat)
  /-- R303. Host operation-window VREL on a descriptor. -/
  | orngVrel (line : Nat) (slot : Nat) (gen : Nat) (host : Nat)
  /-- R300. Host load or store through the DMEM aperture. -/
  | dmemAccess (acc : HostAccess)
  /-- R300. Host load or store to Orangery offsets through ORNG. -/
  | orngAccess (acc : HostAccess)
  /-- R306. SPDM version request. -/
  | getVersion
  /-- R306. SPDM capabilities request. -/
  | getCapabilities
  /-- R306. SPDM algorithm negotiation. -/
  | negotiateAlgorithms
  /-- R306. SPDM certificate digests request. -/
  | getDigests
  /-- R306. SPDM certificate request for slot 0. -/
  | getCertificate (slot : Nat)
  /-- R306. SPDM challenge signed with RSA-4096. -/
  | challenge (slot : Nat) (nonce : Nat)
  /-- R306. SPDM measurement request for indices 1 to 4. -/
  | getMeasurements (index : Nat)
  /-- R305. Write and verify an image into the inactive flash bank. -/
  | pldmFirmwareUpdate (image : Firmware)
  /-- R307. Management read of temperatures, power, counters and drift. -/
  | pldmMonitor (item : Nat)
  /-- R288. Management read of a die counter that clears it. -/
  | counterRead (die : Nat) (counter : Nat)
  /-- R305. Power-good and reference clock start boot, authentication, training and self-test. -/
  | powerOnReset (trainErr : Nat) (failed : List Nat)
  /-- R307. Junction at 105 °C drops pavilions to the lowest operating point. -/
  | thermalThrottle (pavs : List Nat)
  /-- R307. Junction at 115 °C stops cores, faults launches and warm-resets. -/
  | thermalTrip
  /-- R88. A global store, atomic or future operation arrives at the home of its location and is performed there in the location's total order, waking entities keyed on the line. -/
  | homeOperation (k : Nat)
  /-- R228. The Draow Fabric path to a target chip goes down, so packets to it are dropped with status 3. -/
  | pathDown (chip : Nat)
  /-- R289. The up-to-100 µs path-delay measurement of an idle pavilion ends, releasing any gang that waits to be placed there. -/
  | pathDelayMeasurementEnd (pav : Nat) (margins : List Int)
  deriving DecidableEq, Repr

end Sys2Proof
end

