-- ==== Sys2Proof/Machine/State.lean ====
section
/-! DEFINITION. The state of one Draow Y9 package as plain data, the reasons a step may stop, and the state right after
power-on reset. Every piece of state the spec names has one home here; INVENTORY.md lists each with its rule. -/

namespace Sys2Proof.Machine

open Sys2Proof

/-- Memory: (address, byte) pairs in canonical form (`memWf` in Ops.lean): addresses strictly rising, no zero byte listed,
because an unlisted address reads 0 (assumption 2). -/
abbrev Memory := List Host.Cell

/-- A step that stops the machine. -/
inductive Fault where
  /-- Raised by no meaning of this model: every refused access of the spec traps, parks or is reported (R250, R260, R269). Safe. -/
  | none
  deriving DecidableEq, Repr

/-- A step the model gives no meaning. -/
inductive Refusal where
  /-- An instruction of the opcode table whose meaning is not written yet (raised by an arm of `exec` only). Safe. -/
  | notModelled (mnemonic : String)
  /-- Raised by every instruction word when no entity is in focus (assumption 5): an instruction is always executed by an
  entity (R17), so there is nothing it could act on. Safe. -/
  | noEntity
  deriving DecidableEq, Repr

/-- The fields of an XMOD prefix (R124). -/
structure Xmod where
  pneg  : Bool
  rmv   : Bool
  rm    : BitVec 2
  sat   : Bool
  scv   : Bool
  scope : BitVec 3
  ch    : BitVec 2
  ord   : BitVec 2
  deriving DecidableEq, Repr

/-- The prefixes issued so far of an unfinished chain (R122, R126); `first` is the address of the chain's first word. -/
structure Chain where
  first : Option Dword
  hint  : Bool
  xmod  : Option Xmod
  ximm  : Option (BitVec 25)
  deriving DecidableEq, Repr

/-- What a wait-table key names (R38, R54, R219, R232). -/
inductive WaitKey where
  | orangery (line : Nat)
  | global (line : Nat)
  | count (tree : Nat)
  deriving DecidableEq, Repr

/-- Why an entity is not ready (R20): `running` is ready (or issuing). -/
inductive Park where
  | running
  /-- PAUSE: ready once the core has counted so many cycles (R146). -/
  | pause (due : Nat)
  | bar
  | gbar
  /-- TWAIT, or TANY when `any` (R75), on a mask of tags. -/
  | tags (any : Bool) (mask : Dword)
  /-- MWAIT on a tile's ASN (R204). -/
  | tile (z value : Nat)
  /-- IFENCE: until every ICINV of the entity has completed (R152). -/
  | icinv
  /-- GFENCE: until every die's applied clock has reached this clock (R93, R94). -/
  | gfence (clock : List Nat)
  /-- Parked at the token of its innermost detached pair (R25). -/
  | rcv
  /-- In the wait table under these keys (R38, R308); on JOIN, the join object's offset (R33). -/
  | wait (join : Option Nat) (keys : List WaitKey)
  /-- No key was free: it tests again at a cycle (R38, R264). -/
  | poll (join : Option Nat) (due : Nat)
  /-- Waits for a home bank's answer (R211, R217). -/
  | bank
  /-- Parked on a page fault under this park of its die (R260). -/
  | fault (park : Nat)
  /-- Executed EXIT and drains (R41). -/
  | exited
  deriving DecidableEq, Repr

/-- The per-entity state a VBR snapshot covers (R23): s1 to s60, FPCTL, the trap registers, FMASK and HSAVE. -/
structure Snap where
  sregs     : NMap Word
  fpctl     : Word
  trapCause : Word
  trapPc    : Dword
  trapAddr  : Dword
  fmask     : Lanes
  hsave     : NMap Word
  deriving DecidableEq, Repr

/-- How an open pair runs (R23). -/
inductive PairMode where
  /-- Detached: the other side's entity, and whether this entity is the staying side. -/
  | detached (partner : Nat) (stays : Bool)
  /-- Serial, taken side running: the not-taken side's mask, ownership, program counter, and the VBR snapshot. -/
  | serialTaken (takenLarger : Bool) (mask own : Lanes) (pc : Dword) (snap : Snap)
  /-- Serial, not-taken side running: the taken side's ownership, mask and snapshot. -/
  | serialNot (takenLarger : Bool) (mask own : Lanes) (snap : Snap)
  deriving DecidableEq, Repr

/-- A pair record (R23, R24). -/
structure Pair where
  token : Dword
  mode  : PairMode
  deriving DecidableEq, Repr

/-- An asynchronous cause held for an entity (R255): REMOTE_FAULT 0x40 or HANG 0x70, with its TRAP_ADDR. -/
structure AsyncCause where
  cause : BitVec 8
  addr  : Dword
  deriving DecidableEq, Repr

/-- A wave or a fragment (R17): the unit that owns a program counter. Its key in `State.ents` is
32·core + 8·issue slot + fetch slot, with cores numbered 0 to 511 over the package. -/
structure Entity where
  wave      : Nat
  pc        : Dword
  /-- Address after a parked PAUSE, BAR, GBAR or GFENCE, where the entity goes on. -/
  resume    : Dword
  /-- At a run boundary: no run of the entity is under way (R19). -/
  boundary  : Bool
  /-- The run buffer: words fetched and not issued yet, the first at `pc` (R7, R140). -/
  buf       : List Word
  /-- Words issued in the run under way, at most 24 (R19). -/
  words     : Nat
  chain     : Chain
  park      : Park
  mask      : Lanes
  own       : Lanes
  sregs     : NMap Word
  fpctl     : Word
  trapCause : Word
  trapPc    : Dword
  trapAddr  : Dword
  fmask     : Lanes
  hsave     : NMap Word
  level     : Bool
  pairs     : List Pair
  /-- A RETRY verdict replays the chain for the lanes of FMASK only (R262). -/
  replay    : Bool
  pending   : List AsyncCause
  /-- Cycle since which the chain has stalled at issue (R268). -/
  stalled   : Option Nat
  /-- Runs since the hang count's last reset, the fold of this run's loads and of the previous run's (R267). -/
  runs      : Nat
  fold      : Word
  lastFold  : Word
  progress  : Bool
  /-- Places of other entities' held writes of its core that it has read and that are still under way (R86, R277). -/
  seen      : List Nat
  /-- The epoch of its die that holds what its last release at a scope below PKG covered (R91, R94). -/
  released  : Nat
  /-- Clock that every die and the host must reach before its release at SYS scope is over; empty when none is under way (R309). -/
  await     : List Nat
  /-- Its word has finished the lanes of mapped pages; once their values have come it parks with FMASK (R176, R260). -/
  parking   : Bool
  /-- A wait of it has been looked at again: when its condition is still not met, no run is counted (R264, R267). -/
  retest    : Bool
  deriving DecidableEq, Repr

/-- A generator (R35 to R37, R223 to R226). Head, count, T, the consumer's and the producer's program counters and mask
stand in the pleat buffer's header in scratchpad; the rest is control state. -/
structure Gen where
  buf      : Nat
  consumer : Bool
  draining : Bool
  /-- Entity running the consumer. -/
  holder   : Nat
  /-- High words of the producer's and the consumer's program counters (the header holds 32 bits of each). -/
  entry    : Dword
  producer : Dword
  /-- Entries the consumer received (R37). -/
  n        : Nat
  /-- Pending entries of the group, in YLD order: lane and the two words (R36). -/
  group    : List (Nat × Word × Word)
  /-- Ownership set of the entity that switched, and the entities of the wave that its switch holds (R36). -/
  own      : Lanes
  held     : List Nat
  deriving DecidableEq, Repr

/-- Who counts outstanding packets and owns a child: a launch or a handler wave's tree (R229, R39). -/
inductive Owner where
  | launch (id : Nat)
  | tree (id : Nat)
  deriving DecidableEq, Repr

/-- How a wave came to be (R14, R32, R39). -/
inductive WaveKind where
  | block
  | child
  | handler
  deriving DecidableEq, Repr

/-- The retirement acknowledgement a handler lane owes its sender (R39): sending peer or `none`, entity, wave, target word. -/
structure AckTo where
  lane   : Nat
  peer   : Option Nat
  prio   : Nat
  ent    : Nat
  wave   : Nat
  owner  : Option Owner
  target : Word
  deriving DecidableEq, Repr

/-- A spawned child on its way to a bin (R217, R31). -/
structure Child where
  asid    : Nat
  entry   : Dword
  join    : Nat
  payload : List Word
  owner   : Owner
  vlimit  : Nat
  handler : Dword
  /-- Package pavilion whose Bobbin takes the child. -/
  pav     : Nat
  deriving DecidableEq, Repr

/-- A Bobbin bin (R30): its entry point and entries, in order. -/
structure Bin where
  asid    : Nat
  entry   : Dword
  handler : Option Nat
  children : List Child
  packets : List Packet
  firstAt : Nat
  lastAt  : Nat
  /-- No entry has come for 2,048 cycles. -/
  idle    : Bool
  /-- A parent has executed JOIN on an object of its children, or its entries run again. -/
  due     : Bool
  /-- Times the wave of these entries has been run again (R284). -/
  relaunch : Nat
  deriving DecidableEq, Repr

/-- A wave (R17): 96 lanes with their vector registers (96 words each) and predicates p1 to p7, shared by its entities. -/
structure Wave where
  kind     : WaveKind
  block    : Nat
  wib      : Nat
  asid     : Nat
  owner    : Owner
  vlimit   : Nat
  vregs    : NMap (List Word)
  preds    : NMap Lanes
  fpstat   : Word
  passIdx  : Word
  gen      : Option Gen
  handler  : Dword
  entry    : Dword
  /-- Join object of each child lane (R32). -/
  joins    : List (Nat × Nat)
  acks     : List AckTo
  /-- A spawned or handler wave's entries, kept until it drains (R283). -/
  origin   : Option Bin
  /-- Placed in its owner's child reserve (R33). -/
  reserved : Bool
  /-- Gang barriers passed since the wave started (R145, R277). -/
  gbars    : Nat
  ended    : Bool
  deriving DecidableEq, Repr

/-- A block's seal record for one bound object (R212, R213). -/
structure SealRec where
  isSealed : Bool
  pass     : Word
  received : Bool
  deriving DecidableEq, Repr

/-- A block (R28): its core, frames, tags and place in the grid. -/
structure Block where
  core    : Nat
  gang    : Nat
  lin     : Nat
  x       : Nat
  y       : Nat
  z       : Nat
  rank    : Nat
  frame   : Nat
  frames  : Nat
  ntags   : Nat
  tags    : Dword
  nwaves  : Nat
  /-- Waves that have ended (R41). -/
  done    : Nat
  seals   : NMap SealRec
  deriving DecidableEq, Repr

/-- A gang and its map entry (R28, R29, R283). `cores` lists the physical cores within the pavilion by logical index. -/
structure Gang where
  owner    : Owner
  id       : Nat
  pav      : Nat
  valid    : Bool
  cores    : List Nat
  blocks   : List Nat
  ie       : Bool
  iex      : Bool
  relaunch : Nat
  /-- GBAR releases made (R145). -/
  gbars    : Nat
  /-- Barrier releases counted by R246 and the curve position of a DETERMINISTIC gang (R242). -/
  releases : Nat
  position : Nat
  stopped  : Bool
  retired  : Bool
  /-- Order of placement, for R243. -/
  placed   : Nat
  deriving DecidableEq, Repr

/-- A launch record (R236). -/
structure Record where
  objs          : List (Nat × Nat)
  deps          : List Nat
  lid           : Nat
  resume        : Word
  ring          : Nat
  spillSize     : Nat
  spill         : Dword
  handler       : Dword
  ebudget       : Nat
  tbudget       : Nat
  dpav          : Nat
  cres          : Nat
  preemptible   : Bool
  idempotent    : Bool
  deterministic : Bool
  anytime       : Bool
  prio          : Nat
  scratch       : Nat
  tags          : Nat
  vregs         : Nat
  gsize         : Nat
  wpb           : Nat
  gridZ         : Nat
  gridY         : Nat
  gridX         : Nat
  args          : Dword
  entry         : Dword
  deriving DecidableEq, Repr

/-- How a launch ends (R247, R270). -/
inductive Status where
  | done
  | cut
  | faulted
  | lost
  deriving DecidableEq, Repr

/-- A parent spilled to its spill area (R33): its wave, its place there among the parents, and the wave's entities by key. -/
structure Spilled where
  pav    : Nat
  waveId : Nat
  place  : Nat
  ents   : List (Nat × Entity)
  deriving DecidableEq, Repr

/-- Where a launch stands between "record taken" and the posting of its completion (R235 to R247). -/
inductive Phase where
  | taken
  | running
  /-- Cut or stopped: every entity stopped, closes under way (R58, R59). -/
  | stopped
  /-- Stopped for a relaunch of the whole launch: drops under way (R285). -/
  | dropping
  | completed
  | posted
  deriving DecidableEq, Repr

/-- A launch with its retained copy (R235) and what the dispatch core keeps of it. -/
structure Launch where
  record      : Record
  queue       : Nat
  asid        : Nat
  prio        : Nat
  phase       : Phase
  placeable   : Bool
  takenTick   : Nat
  nextGang    : Nat
  retired     : Nat
  startTick   : Option Nat
  outstanding : Nat
  charged     : Nat
  status      : Option Status
  bound       : Bool
  /-- Bound objects closed so far (R59), by index. -/
  closed      : List Nat
  final       : List (Dword × Word)
  seq         : Option Nat
  irrev       : Bool
  elapsed     : Nat
  /-- Package pavilions of a DETERMINISTIC launch (R242). -/
  places      : List Nat
  /-- Gangs to place again (R284), by GANG_ID. -/
  again       : List Nat
  /-- Relaunches of each gang, those of the whole launch among them (R284, R285). -/
  counts      : NMap Nat
  /-- A gang of it that has retired had sent a committing operation other than PASS and SEAL (R286). -/
  exposed     : Bool
  /-- Bound objects dropped so far (R285), by index. -/
  dropped     : List Nat
  spillRing   : List Child
  /-- Records written to its spill ring so far (R31). -/
  ringAt      : Nat
  /-- Barrier releases of its gangs in order: release number and pavilion (R246). -/
  arrivals    : List (Nat × Nat)
  /-- A cut whose entities at handler level have still to stop (R257), with the status it gives. -/
  cutting     : Option Status
  /-- A relaunch of the whole launch whose entities at handler level have still to stop (R257, R285). -/
  redo        : Bool
  /-- What the dies of its handler waves had applied when these drained (R232). -/
  ackClock    : List Nat
  deriving DecidableEq, Repr

/-- The tree of a handler wave (R39): outstanding count and the receive queue whose reserve, spill area and spill ring it uses. -/
structure Tree where
  rxq         : Nat
  asid        : Nat
  outstanding : Nat
  live        : Nat
  vlimit      : Nat
  handler     : Dword
  ackClock    : List Nat
  deriving DecidableEq, Repr

/-- A key of a frame: (core, frame) over the package (R74). -/
abbrev Frame := Nat × Nat

/-- One operand of a copy (R187): space code, base, pitch, rotation, logical core already made physical, frame base of its block
and the allocation in frames. -/
structure CopyOp where
  space : Nat
  base  : Nat
  pitch : Nat
  rot   : Nat
  core  : Nat
  frame : Nat
  frames : Nat
  deriving DecidableEq, Repr

/-- A copy in flight (R188). -/
structure Copy where
  block   : Nat
  ent     : Nat
  wave    : Nat
  asid    : Nat
  tag     : Nat
  gather  : Bool
  index   : Nat
  src     : CopyOp
  dst     : CopyOp
  rows    : Nat
  bytes   : Nat
  /-- First row not finished (R263). -/
  row     : Nat
  reads   : List Frame
  writes  : List Frame
  parked  : Option Nat
  deriving DecidableEq, Repr

/-- One half of a format block (R195). -/
structure OpDesc where
  fmt    : Nat
  vsrc   : Bool
  vbase  : Nat
  m      : Nat
  bl     : Bool
  fp     : Nat
  np     : Nat
  ncol   : Nat
  scl    : Nat
  spitch : Nat
  deriving DecidableEq, Repr

/-- A scratchpad operand of the matrix engine (R73, R197). -/
structure OpBase where
  base  : Nat
  rot   : Nat
  pitch : Nat
  tile  : Nat
  deriving DecidableEq, Repr

/-- What an engine instruction does (R193). -/
inductive EngineKind where
  | zero
  | steps
  | load
  | store
  | read
  | bound
  deriving DecidableEq, Repr

/-- An engine instruction, captured at issue (R194). `cores` lists the driven cores by grid position, `frames` the block frame
base and frame count of each. -/
structure EngineOp where
  kind    : EngineKind
  /-- R268: the launch identifier that a record of the entry carries once its entity has drained. -/
  lid     : Nat
  asid    : Nat
  z       : Nat
  e       : Nat
  ent     : Nat
  wave    : Nat
  serial  : Nat
  rows    : Nat
  cols    : Nat
  cores   : List Nat
  frames  : List (Nat × Nat)
  steps   : Nat
  a       : OpDesc
  b       : OpDesc
  abase   : OpBase
  bbase   : OpBase
  aadv    : Nat
  badv    : Nat
  /-- Operand values taken from vector registers at issue (VSRC = 1, R197): rows of A, columns of B. -/
  vecA    : List (List Word)
  vecB    : List (List Word)
  dest    : OpBase
  conv    : Nat
  rm      : BitVec 2
  sat     : Bool
  /-- MREAD: first register, first column, count, lanes; MBOUND: the scalar that receives the bound. -/
  reg     : Nat
  c0      : Nat
  n       : Nat
  lanes   : Lanes
  reads   : List Frame
  writes  : List Frame
  queuedAt : Nat
  deriving DecidableEq, Repr

/-- The bound store of an engine (R203, R207): whether a NaN or an A exponent of 0xFF, and an infinity, was met, and the exact partial sums T of
its elements, row by row, as (m, e) for m·2^e; none before the first step. -/
structure BoundSum where
  nan  : Bool
  inf  : Bool
  sums : List (Nat × Int)
  deriving DecidableEq, Repr

/-- The instruction an engine runs (R206, R207): steps done, whether its last step has ended, whether the step under way is a
recomputation (R280), the operand bases of that step, the cycle since which it runs, and the bound store of an MBOUND. -/
structure EngineRun where
  op    : EngineOp
  step  : Nat
  done  : Bool
  retry : Bool
  abase : Nat
  bbase : Nat
  since : Nat
  bound : BoundSum
  deriving DecidableEq, Repr

/-- Where a held write goes (R277): physical address, scratchpad of another core, or Orangery. -/
inductive HeldAt where
  | memory (addr : Nat)
  | scratch (core off : Nat)
  | orangery (off : Nat)
  deriving DecidableEq, Repr

/-- A poisoned granule (R274, R275). -/
inductive Poison where
  /-- A 64-byte line of HBM or the second tier. -/
  | memory (addr : Nat)
  /-- Eight bytes of the Orangery, or of a core's scratchpad. -/
  | orangery (off : Nat)
  | scratch (core off : Nat)
  /-- A 32-bit element of a core's tiles, under its key in `CoreData.tiles`. -/
  | tile (core i : Nat)
  /-- 32 bits of a register file: a scalar register of an entity of a wave; a lane of a vector register, and a beat of a predicate, of a wave. -/
  | scalar (wave ent n : Nat)
  | vector (wave n lane : Nat)
  | predicate (wave n beat : Nat)
  deriving DecidableEq, Repr

/-- A write held in a core's strike buffer (R277): who made it, for which lanes (none for the scalar unit), its place in program order, its
cycle and its bytes. -/
structure HeldWrite where
  ent    : Nat
  wave   : Nat
  lanes  : Lanes
  serial : Nat
  time   : Nat
  dst    : HeldAt
  data   : List Byte
  /-- What the bank of an Orangery store must have applied first (R91). -/
  dep    : List Nat
  /-- A copy read the bytes from a poisoned granule (R275). -/
  bad    : Bool := false
  deriving DecidableEq, Repr

/-- A cached 64-byte code line (R81): ASID, virtual line address, its sixteen words. -/
structure ILine where
  asid : Nat
  va   : Nat
  code : List Word
  deriving DecidableEq, Repr

/-- The core-local storage a strike can roll back (R277). -/
structure CoreData where
  scratch : Memory
  /-- Tile elements, key 15,360·z + 160·row + column. -/
  tiles   : NMap Word
  asn     : NMap Nat
  queue   : List EngineOp
  enroute : List EngineOp
  run     : Option EngineRun
  /-- Grid instructions whose part on this engine has ended (R206). -/
  parts   : List EngineOp
  groups  : Nat
  copies  : List Copy
  held    : List HeldWrite
  deriving DecidableEq, Repr

/-- What a core was before an instruction it issued (R277): cycle, serial, core data, its entities, waves and blocks. -/
structure CoreSnap where
  core   : Nat
  time   : Nat
  serial : Nat
  data   : CoreData
  holder : NMap Nat
  lastSlot : NMap Nat
  ents   : NMap Entity
  waves  : NMap Wave
  blocks : NMap Block
  /-- Poison of the core's own arrays (R275). -/
  poison : List Poison
  deriving DecidableEq, Repr

/-- A committing operation a core has issued (R278): entity, place in program order, its gang and the bits of R283 it sets. -/
structure Committing where
  ent    : Nat
  serial : Nat
  gang   : Nat
  ie     : Bool
  iex    : Bool
  deriving DecidableEq, Repr

/-- A cached translation (R66): ASID, base and size of the page, its physical base and permissions. -/
structure TlbEntry where
  asid : Nat
  va   : Nat
  size : Nat
  pa   : Nat
  sys  : Bool
  x    : Bool
  w    : Bool
  r    : Bool
  /-- ATTR lets its lines be cached (R64, R81). -/
  cached : Bool
  deriving DecidableEq, Repr

/-- A line of an L1 data cache: its address and 64 bytes (R81). -/
structure L1Line where
  addr  : Nat
  bytes : List Byte
  deriving DecidableEq, Repr

/-- A lane's store to its own core's scratchpad: who made it, its cycle and beat, where it stands and what stood there (R154). -/
structure YoungStore where
  ent  : Nat
  wave : Nat
  time : Nat
  beat : Nat
  byte : Nat
  old  : List Byte
  deriving DecidableEq, Repr

/-- One core (R7). Cores are numbered 64·die + core within the die, 0 to 511. -/
structure Core where
  data     : CoreData
  icache   : List ILine
  /-- Per issue slot: fetch slot whose run ended last (R20) and the fetch slot whose run is under way. -/
  lastSlot : NMap Nat
  holder   : NMap Nat
  /-- Per issue slot the cycle from which its vector unit is free (R15, R21). -/
  vec      : NMap Nat
  /-- Committing operations issued within the strike window (R278). -/
  crossed  : List Committing
  /-- Scratchpad writes that are still provisional: cycle, first byte, length (R277, R278). -/
  recent   : List (Nat × Nat × Nat)
  /-- Lanes' stores to the core's own scratchpad that a cut could still meet within their instruction (R58, R154). -/
  young    : List YoungStore
  /-- The core's TLB, newest first (R66). -/
  tlb      : List TlbEntry
  /-- The L1 data cache: lines by physical address, newest first (R7, R81, R87). -/
  l1       : List L1Line
  /-- Corrected errors of the last second: unit, address, tick (R281). -/
  corrected : List (Nat × Nat × Nat)
  marked   : Option Nat
  testing  : Bool
  failTick : Option Nat
  /-- Cycles the core had counted when its pavilion's operating point last changed, in 42nds (R8, R246). -/
  cycleAt  : Nat
  deriving DecidableEq, Repr

/-- A write in a die's epoch (R94): who made it and its place in program order, physical address, bytes, place in the home order. -/
structure DieWrite where
  ent   : Nat
  wave  : Nat
  serial : Nat
  addr  : Nat
  data  : List Byte
  stamp : Nat
  deriving DecidableEq, Repr

/-- A closed epoch on its way to a die, or, with its host writes, to the host (R94, R309). -/
structure Epoch where
  src    : Nat
  stamp  : List Nat
  writes : List DieWrite
  deriving DecidableEq, Repr

/-- A page-fault park not yet answered (R260 to R263). -/
structure ParkRec where
  id    : Nat
  ent   : Nat
  /-- A parked copy's block and tag. -/
  copy  : Option (Nat × Nat)
  addrs : List Nat
  /-- Place among the parks of the package (R304). -/
  order : Nat
  /-- Pages, with the KIND of each, whose records are not yet written to the FAULT ring, oldest first (R304). -/
  waiting : List (Nat × Nat)
  asid  : Nat
  core  : Nat
  total : Nat
  deriving DecidableEq, Repr

/-- One die (R6, R94): its view of global memory, clocks, epochs, translations, parks, counters and slew window. -/
structure Die where
  /-- Bytes whose latest write the die has not applied yet: what it still sees, and the home-order place of that. -/
  stale    : NMap (Byte × Nat)
  epoch    : Nat
  clock    : List Nat
  opened   : List DieWrite
  openAt   : Option Nat
  inbox    : List Epoch
  /-- Closed epochs with host writes that Ikilink has not acknowledged, oldest first (R309). -/
  hostOut  : List Epoch
  tlb      : List TlbEntry
  parks    : List ParkRec
  nextPark : Nat
  /-- Column groups granted and released, with their cycles (R206). -/
  ups      : List (Nat × Nat)
  downs    : List (Nat × Nat)
  counters : NMap Nat
  /-- L2 misses of each 2 MiB range (R69 section "Tiers and migration"). -/
  misses   : NMap Nat
  /-- The lines that its L2 holds, newest first; what they hold is what the die sees (R9, R81, R87). -/
  l2       : List Nat
  deriving DecidableEq, Repr

/-- A pavilion's Bobbin, operating point and margins (R30, R246, R289). Points are numbered 0 (1.90 GHz) to 8 (2.30 GHz). -/
structure Pavilion where
  bins      : NMap Bin
  point     : Nat
  /-- When its operating point last changed. -/
  since     : Nat
  lowest    : Nat
  highest   : Nat
  measuring : Bool
  /-- A pre-emption halts its cores, since this cycle (R244). -/
  halting   : Bool
  haltAt    : Nat
  idleAt    : Nat
  margins   : List Int
  deriving DecidableEq, Repr

/-- A launch queue (R234) and its head and tail. -/
structure Queue where
  asid : Nat
  prio : Nat
  n    : Nat
  cq   : Nat
  base : Nat
  headAddr : Nat
  head : Nat
  tail : Nat
  /-- The tail that its dispatch core has read and takes records up to (R235, R272). -/
  upTo : Option Nat
  deriving DecidableEq, Repr

/-- A completion queue (R247, R302). -/
structure Cq where
  n     : Nat
  base  : Nat
  tail  : Nat
  head  : Nat
  phase : Bool
  deriving DecidableEq, Repr

/-- A handler-table entry (R227, R302). -/
structure Handler where
  vregs   : Nat
  entry   : Nat
  handler : Nat
  deriving DecidableEq, Repr

/-- An address space (R62, R64, R78, R44). `objBase` is its descriptor table in the Orangery
(assumption 8), `objs` tells which indices hold an
object, `gens` the last generation of each index. -/
structure Asid where
  bound    : Bool
  root     : Nat
  fn       : Nat
  sys      : Bool
  units    : NMap Nat
  handlers : NMap Handler
  objBase  : Option Nat
  objs     : NMap Bool
  gens     : NMap Nat
  deriving DecidableEq, Repr

/-- A virtual function's bounds in 4 KiB units (R68). -/
structure Vf where
  hbmBase   : Nat
  hbmBound  : Nat
  tierBase  : Nat
  tierBound : Nat
  deriving DecidableEq, Repr

/-- A receive queue (R39, R248). -/
structure Rxq where
  entries : Nat
  pav     : Nat
  cres    : Nat
  vregs   : Nat
  ring    : Nat
  spillSize : Nat
  base    : Nat
  spill   : Nat
  /-- Its spill ring, which all its trees share, oldest child first, and the records written to it so far (R31, R39). -/
  spillRing : List Child
  ringAt  : Nat
  waiting : List Packet
  taken   : Nat
  deriving DecidableEq, Repr

/-- A registered window (R230, R231); `sums` holds a reduce window's exact sums and special values so far. -/
structure Window where
  reduce       : Bool
  format       : Nat
  contributors : Nat
  base         : Nat
  length       : Nat
  arrival      : Nat
  origin       : Nat
  elements     : Nat
  expo         : Int
  arrived      : Nat
  sums         : List Int
  nans         : List Bool
  posInf       : List Bool
  negInf       : List Bool
  saturated    : Bool
  deriving DecidableEq, Repr

/-- A WSEND in flight from this package (R230, R265). -/
structure Send where
  ent    : Nat
  wave   : Nat
  core   : Nat
  serial : Nat
  owner  : Owner
  window : Nat
  offset : Nat
  dest   : Dword
  data   : List Byte
  /-- Its window was deregistered while it was in flight (R302). -/
  failed : Bool
  deriving DecidableEq, Repr

/-- A packet status on its way to the sender (R228); `none` while a peer has still to give it. -/
structure StatusMsg where
  pkt    : Packet
  owner  : Owner
  status : Option Nat
  /-- The cycle in which the packet was tested (R248). -/
  time   : Nat
  deriving DecidableEq, Repr

/-- A retirement acknowledgement on its way to this package's sender (R229, R266). -/
structure AckMsg where
  owner  : Owner
  ent    : Nat
  wave   : Nat
  target : Word
  failed : Option Bool
  /-- What the sender's die must have applied first (R232). -/
  needs  : List Nat
  deriving DecidableEq, Repr

/-- What an agent sends to the home of a global location (R88). -/
inductive HomeKind where
  | store
  /-- An atomic of the given code with operand(s) (R179). -/
  | atom (op : Nat) (v c : Dword)
  /-- A future cell filled (R222). -/
  | fill
  deriving DecidableEq, Repr

/-- A global operation on its way to its home, or its answer on the way back (R88, R310). -/
structure HomeOp where
  core  : Nat
  ent   : Nat
  wave  : Nat
  serial : Nat
  kind  : HomeKind
  addr  : Nat
  data  : List Byte
  /-- Clock of the issuing die's last closed epoch when the operation was sent (R91). -/
  dep   : List Nat
  acq   : Bool
  /-- Lanes it stands for; none for the scalar unit. -/
  lanes : Lanes
  /-- Destination: vector register and lane, or scalar register. -/
  reg   : Option (Nat × Option Nat)
  wide  : Bool
  /-- It writes the bytes of a poisoned granule (R275). -/
  bad   : Bool := false
  deriving DecidableEq, Repr

/-- What a reply brings (R178): the bytes of a load's access to one line, read when it returns, lane by lane (255 the scalar unit) with the
address of each, and whether the line's page lets it be cached (R64, R81); the old value of an atomic; a store's acknowledgement. -/
inductive ReplyKind where
  | load (items : List (Nat × Nat)) (n : Nat) (signed cached : Bool)
  | value (addr : Nat) (v : Dword)
  | ack
  deriving DecidableEq, Repr

/-- A reply from memory (R178, R94). `needs` is what the die's clock must have reached. -/
structure Reply where
  core   : Nat
  ent    : Nat
  wave   : Nat
  serial : Nat
  reg    : Option (Nat × Option Nat)
  wide   : Bool
  kind   : ReplyKind
  needs  : List Nat
  /-- An acquire: later accesses of the entity wait for it (R86). -/
  acq    : Bool
  deriving DecidableEq, Repr

/-- An operation on its way to an Orangery bank (R79, R181 to R183, R218, R217, R32). -/
inductive BankKind where
  | load (n : Nat) (signed : Bool)
  | store (bytes : List Byte)
  | atom (op : Nat) (v c : Dword)
  | update (op : Nat) (v : Dword)
  | fold (op : Nat) (vs : List Dword)
  | ordx (op : Nat) (slot : Nat) (v : Dword)
  | jinit (n : Word)
  | spawn (n : Nat) (children : List Child)
  | decrement (owner : Owner) (count : Nat)
  deriving DecidableEq, Repr

/-- A bank message: sender, offset and operation. -/
structure BankOp where
  ent  : Nat
  wave : Nat
  core : Nat
  serial : Nat
  /-- Lanes it stands for; none for the scalar unit. -/
  lanes : Lanes
  off  : Nat
  kind : BankKind
  reg  : Option (Nat × Option Nat)
  wide : Bool
  acq  : Bool
  /-- What the bank's die must have applied first (R91). -/
  dep  : List Nat
  /-- It writes the bytes of a poisoned granule (R275). -/
  bad  : Bool := false
  deriving DecidableEq, Repr

/-- A pass-group message to a descriptor's home bank (R47 to R53, R211 to R214). -/
inductive PassKind where
  | pass (obj reg : Nat)
  | seal (q : Word)
  | vget (reg : Nat)
  | vpin (reg : Nat)
  | vrel (slot : Nat)
  deriving DecidableEq, Repr

/-- A pass-group message in flight. -/
structure PassMsg where
  ent   : Nat
  wave  : Nat
  core  : Nat
  serial : Nat
  block : Nat
  asid  : Nat
  handle : Word
  kind  : PassKind
  /-- What the bank's die must have applied first (R48, R91). -/
  dep   : List Nat
  deriving DecidableEq, Repr

/-- A home bank's answer to a pass-group message or a SPAWN (R211, R217). -/
inductive AnswerKind where
  | slot (obj reg : Nat) (addr : Dword) (pass : Word)
  | noSlot (obj : Nat)
  | group (reg : Nat) (words : List Word)
  | done
  | refusedObject
  | joinMisuse (off : Nat)
  | children (cs : List (Nat × Child))
  deriving DecidableEq, Repr

/-- An answer on its way to the entity. -/
structure Answer where
  ent   : Nat
  wave  : Nat
  block : Nat
  line  : Nat
  kind  : AnswerKind
  /-- What the entity's die must have applied before the answer returns (R94, R97). -/
  needs : List Nat
  deriving DecidableEq, Repr

/-- An ICINV under way (R151): the clock every die must reach, the lines named. -/
structure Icinv where
  ent   : Nat
  serial : Nat
  wave  : Nat
  asid  : Nat
  base  : Nat
  len   : Nat
  all   : Bool
  clock : List Nat
  deriving DecidableEq, Repr

/-- A journal record (R238). -/
structure Journal where
  tick  : Nat
  gang  : Nat
  lid   : Nat
  queue : Nat
  dc    : Nat
  kind  : Nat
  deriving DecidableEq, Repr

/-- A completion that waits to be posted (R247, R302). -/
structure Completion where
  seq    : Nat
  launch : Nat
  /-- What every die and the host must have applied before the entry is written (R304). -/
  clock  : List Nat
  deriving DecidableEq, Repr

/-- A pavilion context kept out of its pavilion (R244): in shadow storage, or (`evicted`) in the die's HBM. -/
structure Context where
  die     : Nat
  pav     : Nat
  evicted : Bool
  savedAt : Nat
  /-- What its die had applied when it left (R244, R84). -/
  clock   : List Nat
  /-- Poisoned granules of its cores' scratchpads and tiles (R275), by package core where they stood; those of registers stand under their waves. -/
  poison  : List Poison
  gangs   : List Nat
  /-- By core of the pavilion: its data, and per issue slot the run under way and the run that ended last. -/
  cores   : NMap CoreData
  slots   : NMap (NMap Nat × NMap Nat)
  ents    : NMap Entity
  /-- Page-fault parks of its entities, and the driver's verdicts that came while the context was out (R263). -/
  parks   : List ParkRec
  answers : List (Nat × Nat)
  deriving DecidableEq, Repr

/-- A ring of CTL registers (R301). -/
structure Ring where
  base : Nat
  size : Nat
  head : Nat
  tail : Nat
  deriving DecidableEq, Repr

/-- A reply of the SPDM responder to the host (R306). -/
inductive SpdmReply where
  | version (major minor : Nat)
  | capabilities (cert chal meas keyEx sessions : Bool)
  | algorithms (asym hash : String)
  | digest (slot : Nat) (sha512 : BitVec 512)
  | certificate (slot : Nat) (chain : BitVec 512)
  | signature (rsa4096 : BitVec 4096)
  | measurement (index : Nat) (sha512 : BitVec 512)
  | error
  deriving DecidableEq, Repr

/-- A report of the management controller (R307). -/
inductive PldmReport where
  | sensor (item value : Nat)
  | counter (die counter value : Nat)
  | drift (pav point : Nat) (margin : Int)
  | update (staged : Bool)
  deriving DecidableEq, Repr

/-- The control path on die 0 (R234 to R247, R271, R272). -/
structure Dispatch where
  kicks     : List Nat
  journal   : List Journal
  nextSeq   : Nat
  toPost    : List Completion
  /-- Per dispatch core: halted, ticks of its last heartbeat, heartbeats missed, signalled to its peer. -/
  halted    : List Bool
  beats     : List Nat
  missed    : List Nat
  /-- The survivor serves every queue and takeover is still to run. -/
  signalled : List Bool
  /-- The takeover has replayed the journal and rescans the queues (R272). -/
  rescan    : List Bool
  /-- Tick of the last sum of the energy meters (R56). -/
  meterAt   : Nat
  placements : Nat
  starve    : Nat
  starvePrio : Nat
  deriving DecidableEq, Repr

/-- The host interface: CTL registers, rings and signals (R300 to R304). -/
structure Ctl where
  bootState : Nat
  bootErr  : Nat
  staged   : Bool
  ovf      : List Bool
  chipId   : BitVec 12
  cmdDone  : Nat
  /-- Rings: 0 CMD, 1 FAULT, 2 EVENT, 3 ERROR. -/
  rings    : NMap Ring
  sigAddr  : Nat
  /-- Signals owed (ring numbers of R304) and the tick of each ring's last signal. -/
  owed     : List Nat
  /-- What every die and the host must have applied before a ring's signal, once its release has begun (R304). -/
  sigClock : NMap (List Nat)
  lastSig  : NMap Nat
  /-- A TLB invalidation of a command under way (R67): ASID, and the place in program order before which accesses must complete. -/
  inval    : Option (Nat × Nat)
  /-- The Draow Fabric ports have trained (R305). -/
  trained  : Bool
  /-- A thermal trip has stopped every core; the warm reset that follows it is still to come (R307). -/
  tripped  : Bool
  /-- What the host's loads through DMEM and ORNG returned, oldest first (R300). -/
  reads    : List (List Byte)
  deriving DecidableEq, Repr

/-- Management state that outlives reset, and what has been reported (R282, R305 to R307). -/
structure Mgmt where
  fences   : List Nat
  minVersion : Nat
  active   : Firmware
  inactive : Option Firmware
  keptChip : Option (BitVec 12)
  spdm     : List SpdmReply
  pldm     : List PldmReport
  sensors  : NMap Nat
  deriving DecidableEq, Repr

/-- The whole package. -/
structure State where
  /-- The model's clock in nominal cycles (assumption 4); die 0's reference counter is `now / 21`. -/
  now      : Nat
  /-- When the part was last reset (R8, R147, R305). -/
  resetAt  : Nat
  /-- MODEL: device steps and host actions still to come, in order (assumption 3). -/
  sched    : List Instr
  /-- MODEL: cycles that pass in each coming step; one where none is listed (assumption 4). -/
  pace     : List Nat
  /-- MODEL: the entity whose instruction issues next (assumption 3). -/
  focus    : Option Nat
  /-- Provisional states of struck cores to come back to, newest first (R277). -/
  hist     : List CoreSnap
  /-- Provisional scratchpad bytes read from another core: reader, core read, cycle (R278). -/
  links    : List (Nat × Nat × Nat)
  /-- MODEL: counter for fresh identifiers and for the place of accesses in program order. -/
  fresh    : Nat
  /-- Home contents of HBM, second tier and host memory by device physical address (R63). -/
  mem      : Memory
  /-- Home order: place of the last write of each byte and the (die, epoch) that made it (R88, R92). -/
  order    : NMap (Nat × Nat × Nat)
  orangery : Memory
  poison   : List Poison
  ents     : NMap Entity
  waves    : NMap Wave
  blocks   : NMap Block
  gangs    : NMap Gang
  launches : NMap Launch
  trees    : NMap Tree
  spilled  : List Spilled
  cores    : NMap Core
  dies     : NMap Die
  pavs     : NMap Pavilion
  queues   : NMap Queue
  cqs      : NMap Cq
  asids    : NMap Asid
  vfs      : NMap Vf
  rxqs     : NMap Rxq
  windows  : NMap Window
  homeQ    : List HomeOp
  replies  : List Reply
  bankQ    : List BankOp
  passQ    : List PassMsg
  answers  : List Answer
  icinvs   : List Icinv
  packets  : List Packet
  statuses : List StatusMsg
  acks     : List AckMsg
  sends    : List Send
  /-- Packets, and acknowledgements with their FAILED mark (R266), handed to Draow Fabric for peers, oldest first. -/
  fabric   : List Packet
  fabricAcks : List (AckTo × Bool)
  pathsDown : List Nat
  contexts : List Context
  dispatch : Dispatch
  ctl      : Ctl
  mgmt     : Mgmt
  deriving DecidableEq, Repr

/-- The dispatch cores at reset: nothing kicked, journalled or posted. -/
def Dispatch.reset : Dispatch :=
  { kicks := [], journal := [], nextSeq := 0, toPost := [], halted := [false, false], beats := [0, 0], missed := [0, 0],
    signalled := [false, false], rescan := [false, false], meterAt := 0, placements := 0, starve := 0, starvePrio := 0 }

/-- The CTL registers at reset (R301): STATE 0, every ring not set up, CHIPID 0. -/
def Ctl.reset : Ctl :=
  { bootState := 0, bootErr := 0, staged := false, ovf := [false, false, false], chipId := 0, cmdDone := 0, rings := [],
    sigAddr := 0, owed := [], sigClock := [], lastSig := [], inval := none, trained := false, tripped := false, reads := [] }

/-- The management controller of a new part: no core fenced, a valid image in the active bank (assumption 7). -/
def Mgmt.reset : Mgmt :=
  { fences := [], minVersion := 0, active := { signatureOk := true, version := 0 }, inactive := none, keptChip := none,
    spdm := [], pldm := [], sensors := [] }

/-- The package right after power-on reset (R301, R305): STATE 0, nothing placed, nothing listed in any memory. -/
def State.reset : State :=
  { now := 0, resetAt := 0, sched := [], pace := [], focus := none, hist := [], links := [], fresh := 0, mem := [], order := [], orangery := [], poison := [],
    ents := [], waves := [], blocks := [], gangs := [], launches := [], trees := [], spilled := [], cores := [], dies := [],
    pavs := [], queues := [], cqs := [], asids := [], vfs := [], rxqs := [], windows := [], homeQ := [], replies := [],
    bankQ := [], passQ := [], answers := [], icinvs := [], packets := [], statuses := [], acks := [], sends := [], fabric := [],
    fabricAcks := [], pathsDown := [], contexts := [], dispatch := Dispatch.reset, ctl := Ctl.reset,
    mgmt := Mgmt.reset }

end Sys2Proof.Machine
end

