-- ==== Sys2Proof/Machine/Ops.lean ====
section
/-! DEFINITION. The named operations over the state that the meanings share: sparse maps, bytes, memory as each die and each
core sees it, translation, rings and records, taking an exception (R253, R256) and returning from one (R254). -/

namespace Sys2Proof.Machine

open Sys2Proof

/-- What a meaning answers. -/
abbrev Out := Host.Outcome State Fault Refusal

/-! ### Sparse maps -/

/-- The entry of a key. -/
def look {α : Type} : NMap α → Nat → Option α
  | [], _ => none
  | (j, v) :: r, k => if j = k then some v else look r k

/-- The map with the entry of `k` set; rising keys stay rising. -/
def put {α : Type} : NMap α → Nat → α → NMap α
  | [], k, v => [(k, v)]
  | (j, u) :: r, k, v => if k < j then (k, v) :: (j, u) :: r else if k = j then (k, v) :: r else (j, u) :: put r k v

/-- The map without the entry of `k`. -/
def erase {α : Type} (m : NMap α) (k : Nat) : NMap α := m.filter (fun e => decide (e.1 ≠ k))

/-- Every key is above `lo` and keys rise strictly. -/
def keysAbove {α : Type} : Nat → NMap α → Bool
  | _, [] => true
  | lo, (k, _) :: r => decide (lo < k) && keysAbove k r

/-- Keys rise strictly. -/
def nmapWf {α : Type} : NMap α → Bool
  | [] => true
  | (k, _) :: r => keysAbove k r

/-! ### Bytes and memory -/

/-- What memory holds at an address; an unlisted address reads 0 (assumption 2). -/
def rd (m : Memory) (a : Nat) : Byte := (look m a).getD 0

/-- Memory with one byte written; a zero byte is not listed. -/
def wr (m : Memory) (a : Nat) (b : Byte) : Memory := if b = 0 then erase m a else put m a b

/-- Canonical form of a memory: rising addresses, no zero byte listed. -/
def memWf (m : Memory) : Bool := nmapWf m && m.all (fun c => decide (c.2 ≠ 0))

/-- Little-endian value of bytes (R3). -/
def leNat : List Byte → Nat
  | [] => 0
  | b :: r => b.toNat + 256 * leNat r

/-- The low `n` bytes of a value, little-endian (R3). -/
def leBytes : Nat → Nat → List Byte
  | 0, _ => []
  | n + 1, v => BitVec.ofNat 8 v :: leBytes n (v / 256)

/-- `n` bytes from an address. -/
def rdBytes (m : Memory) (a : Nat) : Nat → List Byte
  | 0 => []
  | n + 1 => rd m a :: rdBytes m (a + 1) n

/-- Memory with bytes written from an address up. -/
def wrBytes (m : Memory) (a : Nat) : List Byte → Memory
  | [] => m
  | b :: r => wrBytes (wr m a b) (a + 1) r

/-- `n`-byte little-endian value at an address. -/
def rdN (m : Memory) (a n : Nat) : Nat := leNat (rdBytes m a n)

/-- Memory with the low `n` bytes of a value written. -/
def wrN (m : Memory) (a n v : Nat) : Memory := wrBytes m a (leBytes n v)

/-- The last cut of a list of writes that covers an address: its byte there. -/
def lastByte (ws : List (Nat × List Byte)) (a : Nat) : Option Byte :=
  ws.foldl (fun r w => if w.1 ≤ a ∧ a < w.1 + w.2.length then some ((w.2.drop (a - w.1)).headD 0) else r) none

/-! ### Bit fields of records -/

/-- Bits [lo + n − 1 : lo] of a natural number. -/
def bits (v lo n : Nat) : Nat := v / 2 ^ lo % 2 ^ n

/-- Replace bits [lo + n − 1 : lo] of `v`. -/
def setBits (v lo n x : Nat) : Nat := v - bits v lo n * 2 ^ lo + x % 2 ^ n * 2 ^ lo

/-- A record from fields given as (low bit, width, value). -/
def pack (fs : List (Nat × Nat × Nat)) : Nat := fs.foldl (fun r f => r + f.2.2 % 2 ^ f.2.1 * 2 ^ f.1) 0

/-- Signed value of the low `n` bits. -/
def sext (n v : Nat) : Int := if v % 2 ^ n < 2 ^ (n - 1) then ((v % 2 ^ n : Nat) : Int) else ((v % 2 ^ n : Nat) : Int) - (2 ^ n : Nat)

/-! ### Numbering of the package (R6) -/

/-- Core of an entity key. -/
def coreOfKey (k : Nat) : Nat := k / 32

/-- Issue slot of an entity key. -/
def slotOfKey (k : Nat) : Nat := k / 8 % 4

/-- Fetch slot of an entity key. -/
def fslotOfKey (k : Nat) : Nat := k % 8

/-- Die of a core. -/
def dieOfCore (c : Nat) : Nat := c / 64

/-- Package pavilion of a core. -/
def pavOfCore (c : Nat) : Nat := c / 16

/-! ### Records of the state, with the values of a part where nothing has happened -/

/-- A core after reset: nothing placed, tiles and ASNs zero. -/
def CoreData.fresh : CoreData :=
  { scratch := [], tiles := [], asn := [], queue := [], enroute := [], run := none, parts := [], groups := 0, copies := [], held := [] }

/-- A core after reset. -/
def Core.fresh : Core :=
  { data := CoreData.fresh, icache := [], lastSlot := [], holder := [], vec := [], crossed := [], recent := [], young := [], tlb := [], l1 := [], corrected := [], marked := none,
    testing := false, failTick := none, cycleAt := 0 }

/-- A die after reset: every clock entry 0, no epoch open. -/
def Die.fresh : Die :=
  { stale := [], epoch := 0, clock := [0, 0, 0, 0, 0, 0, 0, 0], opened := [], openAt := none, inbox := [], hostOut := [], tlb := [],
    parks := [], nextPark := 0, ups := [], downs := [], counters := [], misses := [], l2 := [] }

/-- A pavilion after reset: nominal operating point 4 (2.10 GHz) of 0 to 8 (R246). -/
def Pavilion.fresh : Pavilion :=
  { bins := [], point := 4, since := 0, lowest := 0, highest := 8, measuring := false, halting := false, haltAt := 0, idleAt := 0, margins := [0, 0, 0, 0, 0, 0, 0, 0, 0] }

/-- An address space that the driver has not bound. -/
def Asid.fresh : Asid :=
  { bound := false, root := 0, fn := 0, sys := false, units := [], handlers := [], objBase := none, objs := [], gens := [] }

def State.core (s : State) (c : Nat) : Core := (look s.cores c).getD Core.fresh
def State.die (s : State) (d : Nat) : Die := (look s.dies d).getD Die.fresh
def State.pav (s : State) (p : Nat) : Pavilion := (look s.pavs p).getD Pavilion.fresh
def State.asid (s : State) (a : Nat) : Asid := (look s.asids a).getD Asid.fresh

def State.setEnt (s : State) (k : Nat) (e : Entity) : State := { s with ents := put s.ents k e }
def State.setWave (s : State) (w : Nat) (v : Wave) : State := { s with waves := put s.waves w v }
def State.setBlock (s : State) (b : Nat) (v : Block) : State := { s with blocks := put s.blocks b v }
def State.setGang (s : State) (g : Nat) (v : Gang) : State := { s with gangs := put s.gangs g v }
def State.setLaunch (s : State) (l : Nat) (v : Launch) : State := { s with launches := put s.launches l v }
def State.setTree (s : State) (t : Nat) (v : Tree) : State := { s with trees := put s.trees t v }
def State.setCore (s : State) (c : Nat) (v : Core) : State := { s with cores := put s.cores c v }
def State.setDie (s : State) (d : Nat) (v : Die) : State := { s with dies := put s.dies d v }
def State.setPav (s : State) (p : Nat) (v : Pavilion) : State := { s with pavs := put s.pavs p v }
def State.setAsid (s : State) (a : Nat) (v : Asid) : State := { s with asids := put s.asids a v }
def State.setData (s : State) (c : Nat) (v : CoreData) : State := s.setCore c { s.core c with data := v }

def State.modEnt (s : State) (k : Nat) (f : Entity → Entity) : State :=
  match look s.ents k with | some e => s.setEnt k (f e) | none => s
def State.modWave (s : State) (w : Nat) (f : Wave → Wave) : State :=
  match look s.waves w with | some e => s.setWave w (f e) | none => s
def State.modBlock (s : State) (b : Nat) (f : Block → Block) : State :=
  match look s.blocks b with | some e => s.setBlock b (f e) | none => s
def State.modGang (s : State) (g : Nat) (f : Gang → Gang) : State :=
  match look s.gangs g with | some e => s.setGang g (f e) | none => s
def State.modLaunch (s : State) (l : Nat) (f : Launch → Launch) : State :=
  match look s.launches l with | some e => s.setLaunch l (f e) | none => s
def State.modTree (s : State) (t : Nat) (f : Tree → Tree) : State :=
  match look s.trees t with | some e => s.setTree t (f e) | none => s

/-- Reference ticks of die 0 (R8). -/
def State.tick (s : State) : Nat := s.now / Config.cyclesPerTick

/-- The n-th element of a list replaced. -/
def setNth {α : Type} : List α → Nat → α → List α
  | [], _, _ => []
  | _ :: r, 0, v => v :: r
  | a :: r, n + 1, v => a :: setNth r n v

/-- Entry by entry, `a` has reached `b` (R94). -/
def covers (a b : List Nat) : Bool := (a.zip b).all (fun p => decide (p.2 ≤ p.1))

/-! ### Lanes -/

/-- The 96 lane numbers (R17). -/
def laneList : List Nat := List.range 96

/-- A lane set from a test of each lane. -/
def lanesOf (f : Nat → Bool) : Lanes := laneList.foldl (fun r i => if f i then r ||| (1#96 <<< i) else r) 0

/-- Number of lanes of a set. -/
def lanesCount (m : Lanes) : Nat := (laneList.filter (fun i => m.getLsbD i)).length

/-- The lanes of a set, ascending. -/
def lanesIn (m : Lanes) : List Nat := laneList.filter (fun i => m.getLsbD i)

/-- The lowest lane of a set, or 0xFF (R148). -/
def lowestLane (m : Lanes) : Nat := (lanesIn m).headD 255

/-! ### Physical memory (R63) -/

/-- What a device physical address names. -/
inductive Target where
  | hbm (die : Nat)
  | tier (die : Nat)
  | host
  | peer (window off : Nat)
  | none
  deriving DecidableEq, Repr

/-- R63: where the second tier, host memory and the peer windows begin. -/
def tierAt : Nat := 0x1000000000000
def hostAt : Nat := 0x8000000000000
def peerAt : Nat := 0xC000000000000

/-- R63: the target of a device physical address. -/
def target (pa : Nat) : Target :=
  if pa < 0x012A05F20000 then .hbm (pa / 0x2540BE4000)
  else if pa < tierAt then .none
  else if pa < tierAt + 0x01DCD6500000 then .tier ((pa - tierAt) / 0x3B9ACA0000)
  else if pa < hostAt then .none
  else if pa < peerAt then .host
  else if pa < 2 ^ 52 then .peer (pa / 2 ^ 40 % 1024) (pa % 2 ^ 40)
  else .none

/-- The home die of an HBM or second-tier address. -/
def homeDie (pa : Nat) : Option Nat :=
  match target pa with | .hbm d => some d | .tier d => some d | _ => none

/-- R86: an operation is the entity's own, or a write of another entity of its core that it has read before it was coherent. -/
def ownOp (s : State) (k w ent wave serial : Nat) : Bool :=
  (decide (ent = k) && decide (wave = w)) || ((look s.ents k).map (fun e => decide (e.wave = w) && e.seen.contains serial)).getD false

/-- Writes to host memory that no host has acknowledged yet (R309). -/
def hostWrites (s : State) : List DieWrite :=
  s.dies.flatMap (fun d => d.2.hostOut.flatMap (fun e => e.writes) ++ d.2.opened.filter (fun x => decide (target x.addr = .host)))

/-- An entity's writes to host memory that the host has not acknowledged, and those of others that it has read, oldest first (R84, R309). -/
def hostPending (s : State) (k w : Nat) : List (Nat × List Byte) :=
  (((hostWrites s).filter (fun x => ownOp s k w x.ent x.wave x.serial)).foldl (fun (m : NMap (Nat × List Byte)) x =>
    put m x.stamp (x.addr, x.data)) []).map (fun x => x.2)

/-- One byte as the agents of a die see it (R81, R87); of host memory, what the host holds (R309). -/
def dieByte (s : State) (d pa : Nat) : Byte :=
  match target pa with
  | .host => rd s.mem pa
  | _ => match look (s.die d).stale pa with | some e => e.1 | none => rd s.mem pa

/-- A global store of a core that has not reached its home: who made it, its place in program order, address and bytes. -/
structure CoreStore where
  ent    : Nat
  wave   : Nat
  serial : Nat
  addr   : Nat
  data   : List Byte
  /-- It moves poison (R275). -/
  bad    : Bool
  deriving DecidableEq, Repr

/-- A core's global stores that have not reached their homes, oldest first, made before `lim` (R84, R277). -/
def coreStores (s : State) (c lim : Nat) : List CoreStore :=
  (s.homeQ.filterMap (fun o => if o.core = c ∧ o.serial < lim ∧ o.kind = .store then
    some { ent := o.ent, wave := o.wave, serial := o.serial, addr := o.addr, data := o.data, bad := o.bad } else none)) ++
  ((s.core c).data.held.filterMap (fun h =>
    match h.dst with
    | .memory a => if h.serial < lim then some { ent := h.ent, wave := h.wave, serial := h.serial, addr := a, data := h.data, bad := h.bad } else none
    | _ => none))

/-- R275, R277: the poison that `n` bytes from an address meet through earlier stores of their reader's core: a byte on which such a store lies has
the store's; any other what stands under it. -/
def meetsPoison (xs : List CoreStore) (a n : Nat) (under : Nat → Option Nat) : Option Nat :=
  (List.range n).findSome? (fun i =>
    match (xs.filter (fun x => decide (x.addr ≤ a + i) && decide (a + i < x.addr + x.data.length))).getLast? with
    | some x => if x.bad then some ((a + i) / 8 * 8) else none
    | none => under (a + i))

/-- Their addresses and bytes. -/
def ownStores (s : State) (c lim : Nat) : List (Nat × List Byte) := (coreStores s c lim).map (fun x => (x.addr, x.data))

/-- R86, R277: the places of other entities' stores that `n` bytes read by entity `k` of wave `w` meet in its core. -/
def othersSeen (k w a n : Nat) (xs : List CoreStore) : List Nat :=
  (xs.filter (fun x => decide (x.addr < a + n) && decide (a < x.addr + x.data.length) && !(decide (x.ent = k) && decide (x.wave = w)))).map
    (fun x => x.serial)

/-- A core's L1 line of an address (R81). -/
def l1Find (s : State) (core pa : Nat) : Option L1Line := (s.core core).l1.find? (fun l => decide (l.addr = pa / 64 * 64))

/-- One byte as a load that uses its core's L1, where it holds the line, finds it there, else as its die sees it (R87). -/
def cacheByte (s : State) (core : Nat) (cached : Bool) (pa : Nat) : Byte :=
  match l1Find s core pa with
  | some l => if cached then l.bytes.getD (pa % 64) 0 else dieByte s (dieOfCore core) pa
  | none => dieByte s (dieOfCore core) pa

/-- One byte as the loads of entity `k` of wave `w` see it: the stores of its core that came before, its own writes on their way to the host,
then what its L1 or its die shows (R84, R87, R277, R309). -/
def coreByte (s : State) (k w lim : Nat) (cached : Bool) (pa : Nat) : Byte :=
  (lastByte (hostPending s k w ++ ownStores s (coreOfKey k) lim) pa).getD
    (cacheByte s (coreOfKey k) cached pa)

def coreBytes (s : State) (k w lim : Nat) (cached : Bool) (pa : Nat) : Nat → List Byte
  | 0 => []
  | n + 1 => coreByte s k w lim cached pa :: coreBytes s k w lim cached (pa + 1) n

/-- Little-endian value an entity loads. -/
def coreLoad (s : State) (k w lim : Nat) (cached : Bool) (pa n : Nat) : Nat := leNat (coreBytes s k w lim cached pa n)

/-- R86, R87: what a core's L1 holds is given up, so that no later load finds an older value there. -/
def dropL1 (s : State) (core : Nat) : State :=
  if (s.core core).l1.isEmpty then s else s.setCore core { s.core core with l1 := [] }

/-- R81: the lines that hold one of `n` bytes from an address leave the L1 caches of the cores that meet a test. -/
def dropLines (s : State) (cores : Nat → Bool) (a n : Nat) : State :=
  let hit := fun (l : L1Line) => decide (l.addr < a + n) && decide (a < l.addr + 64)
  { s with cores := s.cores.map (fun c => (c.1, if cores c.1 then { c.2 with l1 := c.2.l1.filter (fun l => !(hit l)) } else c.2)) }

/-- Little-endian value in a die's view. -/
def dieLoad (s : State) (d pa n : Nat) : Nat := leNat ((List.range n).map (fun i => dieByte s d (pa + i)))

/-! ### Home order, epochs and clocks (R88, R92, R94) -/

/-- A die comes to see a byte by a write at place `stamp` of the home order; an older write is discarded (R92). -/
def dieSees (d : Die) (a : Nat) (b : Byte) (stamp latest : Nat) : Die :=
  match look d.stale a with
  | none => d
  | some (_, seen) =>
    if stamp ≤ seen then d
    else if latest ≤ stamp then { d with stale := erase d.stale a } else { d with stale := put d.stale a (b, stamp) }

/-- Place in the home order of the last write of a byte. -/
def lastStamp (s : State) (a : Nat) : Nat := ((look s.order a).getD (0, 0, 0)).1

/-- One byte of a write performed at its home by an agent of die `d`: the home's order takes it and the writer's die sees it; every other die,
the home's own among them, sees what it saw until it applies the epoch of the write (R87, R88, R91, R94, assumption 55). -/
def homeByte (d stamp : Nat) (s : State) (a : Nat) (b : Byte) : State :=
  let old := rd s.mem a
  let oldStamp := lastStamp s a
  let sees := fun x => decide (x = d)
  let dies := (List.range 8).foldl (fun m x =>
    let die := s.die x
    if sees x then (if (look die.stale a).isSome then put m x { die with stale := erase die.stale a } else m)
    else if (look die.stale a).isSome then m else put m x { die with stale := put die.stale a (old, oldStamp) }) s.dies
  { s with mem := wr s.mem a b, dies := dies, order := put s.order a (stamp, d, (s.die d).epoch + 1) }

/-- Bytes performed at their home, one after another in address order, as one operation. -/
def homeBytes (d stamp : Nat) (s : State) (a : Nat) : List Byte → State
  | [] => s
  | b :: r => homeBytes d stamp (homeByte d stamp s a b) (a + 1) r

/-- A write joins the open epoch of its agent's die (R94). -/
def joinEpoch (s : State) (d : Nat) (w : DieWrite) : State :=
  let die := s.die d
  s.setDie d { die with opened := die.opened ++ [w], openAt := some (die.openAt.getD s.now) }

/-- A write by entity `k` of wave `w` on die `d`, with its place in program order: at its home and in the die's open epoch; a write to host memory only joins the epoch and
reaches the host when Ikilink delivers it (R309). -/
def agentWrite (s : State) (d k w serial a : Nat) (data : List Byte) : State :=
  let stamp := s.fresh + 1
  let s1 := { s with fresh := stamp }
  let x : DieWrite := { ent := k, wave := w, serial := serial, addr := a, data := data, stamp := stamp }
  match target a with
  | .host => joinEpoch s1 d x
  | _ => joinEpoch (homeBytes d stamp s1 a data) d x

/-- R88, R89, R94: a die has applied the last write of each of `n` bytes, or made it. -/
def hasApplied (s : State) (d a n : Nat) : Bool :=
  (List.range n).all (fun i => match look s.order (a + i) with
    | some (_, x, e) => decide (x = d) || decide (e ≤ (s.die d).clock.getD x 0)
    | none => true)

/-- R94: close the open epoch of a die and send it to every die, and its host writes to the host (R309). -/
def closeEpoch (s : State) (d : Nat) : State :=
  let die := s.die d
  let e := die.epoch + 1
  let clock := setNth die.clock d e
  let isHost := fun (w : DieWrite) => decide (target w.addr = .host)
  let sent : Epoch := { src := d, stamp := clock, writes := die.opened.filter (fun w => !isHost w) }
  let hostW := die.opened.filter isHost
  let s1 := s.setDie d { die with
    epoch := e, clock := clock, opened := [], openAt := none,
    hostOut := if hostW.isEmpty then die.hostOut else die.hostOut ++ [{ src := d, stamp := clock, writes := hostW }] }
  (List.range 8).foldl (fun s x =>
    if x = d then s else s.setDie x { s.die x with inbox := (s.die x).inbox ++ [sent] }) s1

/-- R93, R94, R309: every die, and the host for its writes, has applied what a clock names. -/
def appliedEverywhere (s : State) (clock : List Nat) : Bool :=
  (List.range 8).all (fun d =>
    covers (s.die d).clock clock && (s.die d).hostOut.all (fun h => decide (clock.getD d 0 < h.stamp.getD d 0)))

/-- R91, R94: what a bank must have applied before an operation of an entity: what the entity's die has, and the epoch of what a release of the
entity below PKG scope covered. -/
def depOf (s : State) (core k : Nat) : List Nat :=
  let clock := (s.die (dieOfCore core)).clock
  let d := dieOfCore core
  setNth clock d (max (clock.getD d 0) (((look s.ents k).map (fun e => e.released)).getD 0))

/-- R94: the epoch of a die that holds the last of its agents' writes so far. -/
def lastEpoch (s : State) (d : Nat) : Nat := (s.die d).epoch + (if (s.die d).opened.isEmpty then 0 else 1)

/-- The later of two clocks, entry by entry. -/
def joinClock (a b : List Nat) : List Nat := if a.isEmpty then b else if b.isEmpty then a else (a.zip b).map (fun p => max p.1 p.2)

/-- R94: a die may apply an epoch when it holds every epoch before it. -/
def canApply (die : Die) (e : Epoch) : Bool :=
  (List.range 8).all (fun j =>
    let a := die.clock.getD j 0
    let t := e.stamp.getD j 0
    if j = e.src then decide (a + 1 = t) else decide (t ≤ a))

/-- A die sees one write of another die. -/
def seeWrite (s : State) (d : Nat) (w : DieWrite) : State :=
  (w.data.zipIdx).foldl (fun s p =>
    let a := w.addr + p.2
    s.setDie d (dieSees (s.die d) a p.1 w.stamp (lastStamp s a))) s

/-- R81, R94: a die applies an epoch; its cores' L1 copies of the lines written are dropped. -/
def applyEpoch (s : State) (d : Nat) (e : Epoch) : State :=
  let s1 := e.writes.foldl (fun s w => dropLines (seeWrite s d w) (fun c => decide (dieOfCore c = d)) w.addr w.data.length) s
  s1.setDie d { s1.die d with clock := setNth (s1.die d).clock e.src (e.stamp.getD e.src 0) }

/-- A write by the host: at once in memory and in every die's view (assumption 6). -/
def hostWrite (s : State) (a : Nat) (data : List Byte) : State :=
  let dies := s.dies.map (fun e => (e.1, { e.2 with
    stale := e.2.stale.filter (fun c => decide (c.1 < a) || decide (a + data.length ≤ c.1)) }))
  dropLines { s with mem := wrBytes s.mem a data, dies := dies } (fun _ => true) a data.length

/-! ### Rings, records and signals (R301, R304) -/

/-- The device writes host memory at a host address. -/
def toHost (s : State) (hostAddr : Nat) (data : List Byte) : State := hostWrite s (hostAt + hostAddr) data

def ringOf (s : State) (r : Nat) : Ring := (look s.ctl.rings r).getD { base := 0, size := 0, head := 0, tail := 0 }

/-- A device-to-host ring has no room: not set up, or the entry after its tail would reach its head (R301, R304). -/
def ringFull (s : State) (r : Nat) : Bool :=
  let q := ringOf s r
  decide (q.size = 0) || decide ((q.tail + 1) % q.size = q.head % q.size)

/-- Append a record to a device-to-host ring that has room and owe the host its signal (R304). -/
def ringPush (s : State) (r : Nat) (rec' : List Byte) : State :=
  let q := ringOf s r
  let s1 := toHost s (q.base + rec'.length * q.tail) rec'
  { s1 with ctl := { s1.ctl with
      rings := put s1.ctl.rings r { q with tail := (q.tail + 1) % q.size },
      owed := if s1.ctl.owed.contains (255 + r) then s1.ctl.owed else s1.ctl.owed ++ [255 + r], sigClock := erase s1.ctl.sigClock (255 + r) } }

/-- Append to the EVENT (2) or ERROR (3) ring, or drop and set OVF when it is full (R304). -/
def ringOrDrop (s : State) (r : Nat) (rec' : List Byte) : State :=
  if ringFull s r then { s with ctl := { s.ctl with ovf := setNth s.ctl.ovf (r - 1) true } } else ringPush s r rec'

/-- The launch identifier an owner answers for; 0 when it belongs to no launch (R269). -/
def lidOf (s : State) (o : Owner) : Nat :=
  match o with
  | .launch l => match look s.launches l with | some v => v.record.lid | none => 0
  | .tree _ => 0

/-- R270: the first status event of a launch stands. -/
def setStatus (s : State) (o : Owner) (st : Status) : State :=
  match o with
  | .launch l => s.modLaunch l (fun v => { v with status := some (v.status.getD st) })
  | .tree _ => s

/-- R269: write a launch event record. -/
def eventRecord (s : State) (lid kind cause core addr : Nat) : State :=
  ringOrDrop s 2 (leBytes 16 (pack
    [(96, 32, lid), (88, 8, kind), (80, 8, cause), (77, 3, dieOfCore core), (71, 6, core % 64), (0, 64, addr)]))

/-! ### Owners and waits (R229, R39, R308) -/

/-- The launch an owner is, if it is one. -/
def launchOf (s : State) (o : Owner) : Option Launch := match o with | .launch l => look s.launches l | .tree _ => none

/-- The owner of a wave. -/
def ownerOf (s : State) (w : Nat) : Owner := match look s.waves w with | some v => v.owner | none => .tree 0

/-- R308: every entity waiting under a key is ready to test again; a test that fails is no run (R264, R267, assumption 95). -/
def wake (s : State) (key : WaitKey) : State :=
  { s with ents := s.ents.map (fun e => (e.1, match e.2.park with
      | .wait _ ks => if ks.contains key then { e.2 with park := .running, retest := true } else e.2
      | _ => e.2)) }

/-- The number a wait key and SPILL_RING_DRAIN name an owner by. -/
def ownerKey (o : Owner) : Nat := match o with | .launch l => 2 * l | .tree t => 2 * t + 1

/-- The owner of a number. -/
def ownerOfKey (k : Nat) : Owner := if k % 2 = 0 then .launch (k / 2) else .tree (k / 2)

/-- R229: an owner's outstanding count. -/
def outstanding (s : State) (o : Owner) : Nat :=
  match o with
  | .launch l => ((look s.launches l).map (fun v => v.outstanding)).getD 0
  | .tree t => ((look s.trees t).map (fun v => v.outstanding)).getD 0

/-- R39: a tree is kept until its waves have drained, no child of it is left to start, and its count is zero. -/
def treeBusy (s : State) (t : Nat) (v : Tree) : Bool :=
  decide (v.live ≠ 0) || decide (v.outstanding ≠ 0) || s.rxqs.any (fun q => q.2.spillRing.any (fun c => decide (c.owner = .tree t))) ||
  s.pavs.any (fun p => p.2.bins.any (fun b => b.2.children.any (fun c => decide (c.owner = .tree t))))

/-- R39: trees that nothing is left of are given up. -/
def pruneTrees (s : State) : State := { s with trees := s.trees.filter (fun t => treeBusy s t.1 t.2) }

/-- R229, R232: the count of an owner changes; at zero its waits are looked at again. -/
def countOut (s : State) (o : Owner) (f : Nat → Nat) : State :=
  let s1 := match o with
    | .launch l => s.modLaunch l (fun v => { v with outstanding := f v.outstanding })
    | .tree t => s.modTree t (fun v => { v with outstanding := f v.outstanding })
  if outstanding s1 o = 0 then pruneTrees (wake s1 (.count (ownerKey o))) else s1

/-! ### Operating points (R8, R246) -/

/-- R246: what a core counts since its pavilion's operating point last changed, or since the part's reset, in 42nds of a cycle. -/
def countedSince (s : State) (p : Pavilion) : Nat := (s.now - max p.since s.resetAt) * (38 + p.point)

/-- R8, R246: cycles a core has counted since the part's reset, its pavilion's operating points (1.90 GHz and 50 MHz for each step) among them. -/
def coreCycles (s : State) (core : Nat) : Nat := ((s.core core).cycleAt + countedSince s (s.pav (pavOfCore core))) / 42

/-- R246: a pavilion runs at another operating point; its cores keep the cycles they have counted. -/
def setPoint (s : State) (pav point : Nat) : State :=
  let p := s.pav pav
  if p.point = point then s
  else
    let s1 := (List.range 16).foldl (fun s i =>
      let c := s.core (16 * pav + i)
      s.setCore (16 * pav + i) { c with cycleAt := c.cycleAt + countedSince s p }) s
    s1.setPav pav { p with point := point, since := s.now }

/-- R246: a pavilion that holds no gang of the launch runs at the nominal point again. -/
def restorePoint (l : Nat) (s : State) (pav : Nat) : State :=
  if s.gangs.any (fun g => decide (g.2.owner = .launch l) && decide (g.2.pav = pav) && g.2.valid) then s
  else setPoint s pav (max (s.pav pav).lowest (min (s.pav pav).highest 4))

/-- An entry changed, where there is one. -/
def modMap {α : Type} (m : NMap α) (k : Nat) (f : α → α) : NMap α := match look m k with | some x => put m k (f x) | none => m

/-! ### Poisoned registers (R274, R275) -/

/-- R274: the granule belongs to the registers or predicates of a wave that meets a test. -/
def Poison.ofWave (f : Nat → Bool) : Poison → Bool
  | .scalar w _ _ => f w
  | .vector w _ _ => f w
  | .predicate w _ _ => f w
  | _ => false

/-- R274: the granule is one of a register file or of a predicate. -/
def Poison.inRegisters (p : Poison) : Bool := p.ofWave (fun _ => true)

/-- R274: the granule is one of a core's own scratchpad or tiles. -/
def Poison.ofCore (f : Nat → Bool) : Poison → Bool
  | .scratch c _ => f c
  | .tile c _ => f c
  | _ => false

/-- R287: how the model numbers the granules of arrays without addresses (assumption 83). -/
def Poison.place : Poison → Nat
  | .memory a => a
  | .orangery o => o
  | .scratch _ o => o
  | .tile _ i => 4 * i
  | .scalar _ _ n => 4 * n
  | .vector _ n i => 2 ^ 16 + 384 * n + 4 * i
  | .predicate _ n b => 2 ^ 20 + 12 * n + 4 * b

/-- R275: granules that meet a test are poisoned no more. -/
def State.clean (s : State) (hit : Poison → Bool) : State :=
  if s.poison.isEmpty then s else { s with poison := s.poison.filter (fun p => !(hit p)) }

/-- R274: a granule is poisoned. -/
def State.taint (s : State) (p : Poison) : State := if s.poison.contains p then s else { s with poison := p :: s.poison }

/-! ### Stopping waves (R58, R284, R266) -/

/-- The entities of a wave, by key. -/
def entsOf (s : State) (w : Nat) : List (Nat × Entity) := s.ents.filter (fun e => decide (e.2.wave = w))

/-- The waves of a block. -/
def wavesOfBlock (s : State) (b : Nat) : List Nat := (s.waves.filter (fun w => decide (w.2.block = b))).map (fun w => w.1)

/-- The waves of a gang. -/
def wavesOfGang (s : State) (q : Gang) : List Nat := q.blocks.flatMap (wavesOfBlock s)

/-- A core's data without the copies and engine entries of some waves. -/
def CoreData.without (d : CoreData) (dead : Nat → Bool) : CoreData :=
  { d with
    copies := d.copies.filter (fun c => !(dead c.wave)), queue := d.queue.filter (fun q => !(dead q.wave))
    enroute := d.enroute.filter (fun q => !(dead q.wave)), parts := d.parts.filter (fun q => !(dead q.wave))
    run := match d.run with | some r => if dead r.op.wave then none else some r | none => none }

/-- A provisional state of a core without some waves (R277). -/
def CoreSnap.without (h : CoreSnap) (dead : Nat → Bool) : CoreSnap :=
  { h with data := h.data.without dead, ents := h.ents.filter (fun e => !(dead e.2.wave)), waves := h.waves.filter (fun w => !(dead w.1)) }

/-- A context without some gangs and waves: their entities, copies, engine entries and page-fault parks go (R245, R263). -/
def Context.without (c : Context) (gangs : List Nat) (dead : Nat → Bool) : Context :=
  let keys := (c.ents.filter (fun e => dead e.2.wave)).map (fun e => e.1)
  { c with
    gangs := c.gangs.filter (fun g => !(gangs.contains g)), ents := c.ents.filter (fun e => !(dead e.2.wave))
    cores := c.cores.map (fun d => (d.1, d.2.without dead)), parks := c.parks.filter (fun p => !(keys.contains p.ent)) }

/-- Every wave of a gang is among those that stop, or the gang has gone. -/
def gangGone (s : State) (dead : Nat → Bool) (g : Nat) : Bool := ((look s.gangs g).map (fun q => (wavesOfGang s q).all dead)).getD true

/-- Stop waves: their entities, copies, engine entries and parks go; operations on their way stay on their way (R58, R59). A strike brings
none of it back, and meets none of their committing operations (R278). -/
def stopWaves (s : State) (ws : List Nat) : State :=
  let dead := fun w => ws.contains w
  let keys := (s.ents.filter (fun e => dead e.2.wave)).map (fun e => e.1)
  let cores := s.cores.map (fun e => (e.1, { e.2 with
    holder := e.2.holder.filter (fun h => !(keys.contains (32 * e.1 + 8 * h.1 + h.2))), data := e.2.data.without dead,
    crossed := e.2.crossed.filter (fun x => !(keys.contains x.ent || gangGone s dead x.gang)) }))
  let dies := s.dies.map (fun e => (e.1, { e.2 with parks := e.2.parks.filter (fun p => !(keys.contains p.ent)) }))
  { s with
    poison := s.poison.filter (fun p => !(p.ofWave dead))
    ents := s.ents.filter (fun e => !(dead e.2.wave)), cores := cores, dies := dies,
    waves := s.waves.map (fun e => (e.1, if dead e.1 then { e.2 with ended := true, gen := none } else e.2)),
    spilled := s.spilled.filter (fun p => !(dead p.waveId)),
    icinvs := s.icinvs.filter (fun i => !(dead i.wave)),
    hist := s.hist.map (fun h => h.without dead),
    focus := match s.focus with | some k => if keys.contains k then none else some k | none => none }

/-- R278: the entity's earlier writes have left the strike buffer, so its operation of this place is sent. -/
def sent (s : State) (core ent serial : Nat) : Bool :=
  !((s.core core).data.held.any (fun h => decide (h.ent = ent) && decide (h.serial < serial)))

/-- Packets that have not left their core are not sent, and no longer count (R229). -/
def dropPackets (s : State) (gone : Packet → Bool) : State :=
  let ps := s.packets.filter (fun p => decide (p.peer = none) && gone p)
  let s1 := ps.foldl (fun s p => countOut s (ownerOf s p.wave) (fun n => n - 1)) s
  { s1 with packets := s1.packets.filter (fun p => !(ps.contains p)) }

/-- R284: held writes of stopped waves are dropped, and with them the committing operations that wait behind them (R278). -/
def dropHeld (s : State) (ws : List Nat) : State :=
  let unsent := fun (w core ent serial : Nat) => ws.contains w && !(sent s core ent serial)
  let s1 := dropPackets s (fun p => unsent p.wave (coreOfKey p.ent) p.ent p.serial)
  { s1 with
    homeQ := s1.homeQ.filter (fun o => !(unsent o.wave o.core o.ent o.serial)), bankQ := s1.bankQ.filter (fun o => !(unsent o.wave o.core o.ent o.serial))
    passQ := s1.passQ.filter (fun o => !(unsent o.wave o.core o.ent o.serial)), sends := s1.sends.filter (fun o => !(unsent o.wave o.core o.ent o.serial))
    cores := s1.cores.map (fun e => (e.1, { e.2 with
      data := { e.2.data with held := e.2.data.held.filter (fun h => !(ws.contains h.wave)) } })) }

/-- Blocks of waves that have stopped. -/
def dropBlocks (s : State) (bs : List Nat) : State := { s with blocks := s.blocks.filter (fun b => !(bs.contains b.1)) }

/-- The waves of an owner. -/
def wavesOfOwner (s : State) (o : Owner) : List Nat := (s.waves.filter (fun w => decide (w.2.owner = o))).map (fun w => w.1)

/-- Children of an owner leave the bins of every pavilion and its spill ring (R233). -/
def discardChildren (s : State) (o : Owner) : State :=
  let s1 := { s with pavs := s.pavs.map (fun p => (p.1, { p.2 with
    bins := (p.2.bins.map (fun b => (b.1, { b.2 with children := b.2.children.filter (fun c => decide (c.owner ≠ o)) }))).filter
      (fun b => !(b.2.children.isEmpty && b.2.packets.isEmpty)) })) }
  match o with
  | .launch l => s1.modLaunch l (fun v => { v with spillRing := [] })
  | .tree _ => s1

/-- The gangs of a launch, by number. -/
def gangsOfLaunch (s : State) (l : Nat) : NMap Gang := s.gangs.filter (fun g => decide (g.2.owner = .launch l))

/-- R58, R245, R246, R285: every gang and wave of a launch stops, in its pavilion or out of it, and nothing is saved. -/
def stopLaunch (s : State) (l : Nat) : State :=
  let ws := wavesOfOwner s (.launch l)
  let gs := gangsOfLaunch s l
  let s1 := dropBlocks (stopWaves (discardChildren s (.launch l)) ws) (gs.flatMap (fun g => g.2.blocks))
  let s2 := { s1 with
    gangs := s1.gangs.filter (fun g => decide (g.2.owner ≠ .launch l))
    contexts := (s1.contexts.map (fun c => c.without (gs.map (fun g => g.1)) (fun w => ws.contains w))).filter (fun c => !c.gangs.isEmpty) }
  ((gs.map (fun g => g.2.pav)).eraseDups).foldl (restorePoint l) s2

/-- R257: a handler entity runs on to its next run boundary or its first stall before a halt or a cut stops it. -/
def Entity.lingers (e : Entity) : Bool := e.level && !e.boundary && e.stalled.isNone && decide (e.park = .running)

/-- R15: the beat of a write's lanes; the scalar unit has one. -/
def writeBeat (lanes : Lanes) : Nat := if lanes = 0 then 0 else lowestLane lanes / 32

/-- The cycle in which the word of a place in program order issued, as long as a strike could undo it (R277). -/
def issuedAt (s : State) (core serial : Nat) : Nat :=
  ((s.hist.find? (fun h => decide (h.core = core) && decide (h.serial ≤ serial))).map (fun h => h.time)).getD 0

/-- R154: what stood before the lanes' stores that a core's own scratchpad is not to hold, the youngest taken back first. -/
def takeBack (dead : Nat → Nat → Bool) (now : Nat) (c : Core) : Core :=
  let undo := c.young.filter (fun y => dead y.ent y.wave && decide (now ≤ y.time + y.beat))
  { c with
    data := { c.data with scratch := undo.foldl (fun m y => wrBytes m y.byte y.old) c.data.scratch }
    young := c.young.filter (fun y => !(dead y.ent y.wave)) }

/-- R58, R154: an instruction that a cut meets in a beat has made only the writes and operations of its beats before. `dead` tells the entities
that the cut stops now; a handler entity that runs on finishes its instructions (R257). -/
def cutBeats (s : State) (dead : Nat → Nat → Bool) : State :=
  let done := fun (time : Nat) (lanes : Lanes) => decide (time + writeBeat lanes < s.now)
  let keeps := fun (ent wave core serial : Nat) (lanes : Lanes) => !(dead ent wave) || done (issuedAt s core serial) lanes
  { s with
    homeQ := s.homeQ.filter (fun o => keeps o.ent o.wave o.core o.serial o.lanes)
    bankQ := s.bankQ.filter (fun o => keeps o.ent o.wave o.core o.serial o.lanes)
    cores := s.cores.map (fun c =>
      let d := takeBack dead s.now c.2
      (c.1, { d with data := { d.data with held := d.data.held.filter (fun h => !(dead h.ent h.wave) || done h.time h.lanes) } })) }

/-- R58, R257, R285: the launch is being stopped, for a cut or to be relaunched, and an entity of it still runs in its handler. -/
def Launch.stopping (v : Launch) : Bool := v.cutting.isSome || v.redo

/-- R58, R257, R285: the stop takes hold: a launch that is cut waits for its closes; one that is relaunched drops its objects. -/
def cutDone (s : State) (l : Nat) : State :=
  (stopLaunch s l).modLaunch l (fun v =>
    if v.redo && v.cutting.isNone then { v with phase := .dropping, dropped := [], again := [], redo := false }
    else { v with
      phase := if v.phase = .taken ∨ v.phase = .running ∨ v.phase = .dropping then .stopped else v.phase, again := [], cutting := none, redo := false })

/-- R58, R154, R245, R257: every gang of a launch stops, noted by `f`, and what of it is out of its pavilion is discarded. Waves with an entity that
runs in its handler stop once it has come to a run boundary or a stall. -/
def stopGangs (s0 : State) (l : Nat) (f : Launch → Launch) : State :=
  let ws := wavesOfOwner s0 (.launch l)
  let s1 := cutBeats s0 (fun k w => ws.contains w && !(((look s0.ents k).map (fun e => decide (e.wave = w) && e.lingers)).getD false))
  let stays := ws.filter (fun w => (entsOf s1 w).any (fun e => e.2.lingers))
  if stays.isEmpty then cutDone (s1.modLaunch l f) l
  else
    let dead := ws.filter (fun w => !(stays.contains w))
    let s2 := stopWaves (discardChildren s1 (.launch l)) dead
    let out := ((gangsOfLaunch s0 l).filter (fun g => !g.2.valid)).map (fun g => g.1)
    { s2 with contexts := (s2.contexts.map (fun (c : Context) => c.without out (fun w => dead.contains w))).filter (fun (c : Context) => !c.gangs.isEmpty) }.modLaunch l
      (fun v => { f v with again := [] })

/-- R58, R256: a launch is cut. -/
def cutLaunch (s : State) (l : Nat) (st : Status) : State :=
  stopGangs (setStatus s (.launch l) st) l (fun v => { v with cutting := some st, redo := false })

/-- R257: the last handler entity that a stop waits for has come to its boundary or its stall. -/
def settleCut (s : State) (l : Nat) : State :=
  match look s.launches l with
  | none => s
  | some v =>
    if v.stopping && !((wavesOfOwner s (.launch l)).any (fun w => (entsOf s w).any (fun e => e.2.lingers))) then cutDone s l else s

/-- R244, R257, R285, R126: an entity's pavilion is being halted, or its launch stopped: it issues nothing more, unless it runs in its handler, or within a
chain. -/
def haltedEnt (s : State) (k : Nat) (e : Entity) : Bool :=
  ((s.pav (pavOfCore (coreOfKey k))).halting ||
    (((launchOf s (ownerOf s e.wave)).map Launch.stopping).getD false)) && !e.lingers && e.chain.first.isNone

/-- The gang of a wave. -/
def gangOfWave (s : State) (w : Nat) : Option Nat :=
  (look s.waves w).bind (fun v => (look s.blocks v.block).map (fun b => b.gang))

/-- R287: write a containment report; ADDR is 0 for a strike and for SUSPECT. -/
def containmentReport (s : State) (lid gang cause unit core action rcount : Nat) (ie iex : Bool) (addr : Nat) : State :=
  ringOrDrop s 3 (leBytes 32 (pack
    [(208, 48, s.tick), (176, 32, lid), (144, 32, gang), (136, 8, cause), (132, 4, unit), (129, 3, dieOfCore core), (123, 6, core % 64),
     (120, 3, action), (118, 2, rcount), (117, 1, ie.toNat), (116, 1, iex.toNat), (0, 64, if unit = 9 ∨ cause = 0x61 then 0 else addr)]))

/-- R32: decrements of the join objects of a wave's child lanes, one bank operation for each object. -/
def joinDecrements (s : State) (w : Nat) (v : Wave) (core : Nat) : List BankOp :=
  (v.joins.map (fun j => j.2)).eraseDups.map (fun off =>
    { ent := 0, wave := w, core := core, serial := s.fresh, off := off,
      kind := .decrement v.owner ((v.joins.filter (fun j => decide (j.2 = off))).length), lanes := 0, reg := none, wide := false, acq := false,
      dep := (s.die (dieOfCore core)).clock })

/-- R248: an entry of a receive queue is freed; a packet that was refused in this cycle finds it. -/
def freeEntry (s : State) (prio : Nat) : State :=
  match look s.rxqs prio with
  | none => s
  | some q =>
    let late := fun (m : StatusMsg) => decide (m.pkt.prio = prio) && decide (m.status = some 1) && decide (m.time = s.now)
    match s.statuses.find? late with
    | none => { s with rxqs := put s.rxqs prio { q with taken := q.taken - 1 } }
    | some m =>
      { s with
        rxqs := put s.rxqs prio { q with waiting := q.waiting ++ [m.pkt] }
        statuses := s.statuses.takeWhile (fun x => !(late x)) ++ { m with status := some 0 } :: (s.statuses.dropWhile (fun x => !(late x))).tail }

/-- R39, R248: retirement acknowledgements of a handler wave's lanes leave for their senders and free their queue entries. -/
def sendAcks (s : State) (v : Wave) (needs : List Nat) (failed : Bool) : State :=
  v.acks.foldl (fun s a =>
    let s1 := freeEntry s a.prio
    match a.peer, a.owner with
    | some _, _ => { s1 with fabricAcks := s1.fabricAcks ++ [(a, failed)] }
    | none, some o => { s1 with acks := s1.acks ++
        [{ owner := o, ent := a.ent, wave := a.wave, target := a.target, failed := some failed, needs := needs }] }
    | none, none => s1) s

/-- A wave has ended: its join objects are decremented, its acknowledgements leave, its block counts it (R32, R39, R41). -/
def endWave (s : State) (w : Nat) (failed : Bool) : State :=
  match look s.waves w with
  | none => s
  | some v =>
    let core := match look s.blocks v.block with | some b => b.core | none => 0
    let s0 := if v.joins.isEmpty && v.acks.isEmpty then s else closeEpoch s (dieOfCore core)
    let s1 := { s0 with bankQ := s0.bankQ ++ joinDecrements s0 w v core, fresh := s0.fresh + 1 }
    let s2 := sendAcks s1 v (s1.die (dieOfCore core)).clock failed
    let s3 := s2.setWave w { v with ended := true, joins := [], acks := [] }
    let s4 := s3.modBlock v.block (fun b => { b with done := b.done + 1 })
    match v.kind with
    | .block => s4
    | _ =>
      let gs := match look s4.blocks v.block with | some b => erase s4.gangs b.gang | none => s4.gangs
      let s5 := { s4 with gangs := gs, blocks := erase s4.blocks v.block }
      match v.owner with
      | .tree t => s5.modTree t (fun x => { x with live := x.live - 1 })
      | .launch l => restorePoint l s5 (pavOfCore core)

/-- R266, R284: a handler wave, or a wave descended from one, that is lost stops alone, its held writes dropped and its lanes treated as drained. -/
def loseTreeWave (s : State) (core w cause addr : Nat) : State :=
  eventRecord (endWave (dropHeld (stopWaves s [w]) [w]) w true) 0 7 cause core addr

/-- R256, R266: such a wave fails: containment stops it, with a report of unit 11 (program) that it is lost, since no launch is its own
(assumption 94). -/
def stopTreeWave (s : State) (k w report cause addr : Nat) : State :=
  let g := (gangOfWave s w).bind (fun g => look s.gangs g)
  let s1 := containmentReport s 0 0xFFFFFFFF report 11 (coreOfKey k) 3 ((g.map (fun g => g.relaunch)).getD 0)
    ((g.map (fun g => g.ie)).getD false) ((g.map (fun g => g.iex)).getD false) 0
  loseTreeWave s1 (coreOfKey k) w cause addr

/-! ### Taking an exception and returning from one -/

/-- A cause to raise (R250): its code, the lane and the address. -/
structure Trap where
  cause : Nat
  lane  : Nat
  addr  : Nat
  deriving DecidableEq, Repr

/-- R252: the place of a cause in the order of checks. -/
def Trap.rank (t : Trap) : Nat :=
  match t.cause with
  | 0x01 => 1 | 0x04 => 2 | 0x02 => 3 | 0x20 => 4 | 0x03 => 5 | 0x10 => 6 | 0x12 => 7 | 0x11 => 8 | 0x50 => 9 | 0x32 => 10 | 0x31 => 11
  | 0x30 => 12 | _ => 13

/-- R252: the trap taken of those a chain raises: the first cause in order, then its lowest lane (lists are in lane order). -/
def firstTrap : List Trap → Option Trap
  | [] => none
  | t :: r => match firstTrap r with | none => some t | some u => some (if u.rank < t.rank then u else t)

/-- R122, R126: no prefix issued. -/
def Chain.empty : Chain := { first := none, hint := false, xmod := none, ximm := none }

/-- R126: address of the first word of the executing chain. -/
def Entity.chainPc (e : Entity) : Dword := e.chain.first.getD e.pc

/-- R19, R267: a run ends; it counts for the hang detector unless something in it resets the count. -/
def Entity.endRun (e : Entity) : Entity :=
  if e.boundary then { e with words := 0, buf := [] }
  else { e with
    boundary := true, words := 0, buf := [], progress := false, fold := 0, lastFold := e.fold,
    runs := if e.progress ∨ e.fold ≠ e.lastFold then 0 else e.runs + 1 }

/-- R264, R267: a wait whose condition is still not met is no run: the entity stays parked. -/
def Entity.uncounted (e : Entity) : Entity := if e.retest then { e with boundary := true } else e

/-- The entity goes on at an address with a new run: a control transfer, a trap, a park or a release (R139, R19). -/
def Entity.jump (e : Entity) (pc : Dword) : Entity :=
  { e.endRun with pc := pc, chain := Chain.empty, replay := false, stalled := none, await := [], parking := false, retest := false }

/-- The entity goes on after the word it has executed; the run ends at an E bit, a parking word or its 24th word (R19). -/
def Entity.retire (e : Entity) (last : Bool) : Entity :=
  let e1 := { e with pc := e.pc + 4, chain := Chain.empty, buf := e.buf.tail, words := e.words + 1, replay := false, stalled := none,
                      await := [], parking := false, retest := false }
  if last ∨ e.words + 1 ≥ Config.runLength then e1.endRun else e1

/-- R253: the entity's state as the handler's first instruction meets it. -/
def enterHandler (e : Entity) (handler : Dword) (t : Trap) (async : Bool) (pc : Dword) : Entity :=
  { e.jump (BitVec.ofNat 64 (pc.toNat / 2 ^ 32 * 2 ^ 32 + handler.toNat % 2 ^ 32)) with
    park := .running
    trapCause := BitVec.ofNat 32 (t.lane % 256 * 2 ^ 16 + async.toNat * 2 ^ 8 + t.cause % 256)
    trapPc := pc &&& 0x00FFFFFFFFFFFFFF
    trapAddr := BitVec.ofNat 64 t.addr
    level := true }

/-- R256, R268, R264: the path on which a launch ends FAULTED: the gang of the wave stops by containment, its held writes dropped (R284), with
a report of ACTION 4 and unit 11 (program), and the launch is cut. -/
def faultPath (s : State) (l w core cause : Nat) : State :=
  let g := (gangOfWave s w).bind (fun g => look s.gangs g)
  let s1 := containmentReport s (lidOf s (.launch l)) ((g.map (fun g => g.id)).getD 0xFFFFFFFF) cause 11 core 4 ((g.map (fun g => g.relaunch)).getD 0)
    ((g.map (fun g => g.ie)).getD false) ((g.map (fun g => g.iex)).getD false) 0
  let ws := (g.map (wavesOfGang s1)).getD [w]
  cutLaunch (dropHeld (stopWaves s1 ws) ws) l .faulted

/-- R256: an unhandled trap or a double fault ends the entity's launch FAULTED; a wave of a handler's tree stops alone (R266). -/
def faultStop (s : State) (k : Nat) (e : Entity) (v : Wave) (t : Trap) : State :=
  match v.owner with
  | .tree _ => stopTreeWave s k e.wave (if e.level then 0x7F else t.cause) t.cause t.addr
  | .launch l => faultPath s l e.wave (coreOfKey k) (if e.level then 0x7F else t.cause)

/-- R253, R256: TAKE A TRAP. The entity enters its handler with TRAP_CAUSE, TRAP_PC and TRAP_ADDR written, or, without a handler
or at handler level, is stopped. -/
def raise (s : State) (k : Nat) (t : Trap) (async : Bool) (pc : Dword) : State :=
  match look s.ents k with
  | none => s
  | some e =>
    match look s.waves e.wave with
    | none => s
    | some v =>
      if v.handler = 0 ∨ e.level = true then faultStop s k e v t
      else s.setEnt k (enterHandler e v.handler t async pc)

/-- R150, R254: RETURN from the handler: the next run begins at TRAP_PC and nothing else is restored. -/
def Entity.leaveHandler (e : Entity) : Entity := { e.jump e.trapPc with level := false }

end Sys2Proof.Machine
end

