-- ==== Sys2Proof/Machine/Contain.lean ====
section
/-! DEFINITION. Containment of a gang (R283 to R287) and the error counters of a die (R288), as operations the engines, strikes and
errors share. -/

namespace Sys2Proof.Machine

open Sys2Proof

/-! ### Counters (R288) -/

/-- R288: keys of a die's counters: CORR[u] is u, UNCORR[u] is 16 + u. -/
def ctrCorr (u : Nat) : Nat := u
def ctrUncorr (u : Nat) : Nat := 16 + u
def ctrStrikes : Nat := 32
def ctrRollbacks : Nat := 33
def ctrCrossed : Nat := 34
def ctrSuspect : Nat := 35
def ctrSuspect2 : Nat := 36
def ctrTestPass : Nat := 37
def ctrTestFail : Nat := 38
def ctrFenced : Nat := 39

/-- R264: what a die counts of entities that found the wait table full; no counter of R288. -/
def ctrPolls : Nat := 40

/-- R288: the largest value of a counter. -/
def ctrMax (k : Nat) : Nat :=
  if k = ctrFenced then 255 else if k = ctrCrossed ∨ k = ctrSuspect2 ∨ k = ctrTestPass ∨ k = ctrTestFail then 65535 else 2 ^ 32 - 1

/-- R288: one more; counters saturate. -/
def countUp (s : State) (die k : Nat) : State :=
  let d := s.die die
  s.setDie die { d with counters := put d.counters k (min (ctrMax k) ((look d.counters k).getD 0 + 1)) }

/-- R281: a core is marked for self-test of a unit. -/
def markCore (s : State) (core unit : Nat) : State :=
  let c := s.core core
  s.setCore core { c with marked := some (c.marked.getD unit) }

/-! ### Acquires (R86, R87) -/

/-- R86, R87: after an acquire at GANG scope or wider no load finds an older value in the core's L1. -/
def afterAcquire (s : State) (core scope : Nat) : State := if 2 ≤ scope then dropL1 s core else s

/-! ### Causes held for an entity (R255) -/

/-- R255: a cause is held for an entity that has not executed EXIT, wherever it stands: on its core, in a spill area (R33), or out of its
pavilion (R244), and in every state that a strike may bring back (R277). None where there is no such entity. -/
def holdCause (s : State) (k w : Nat) (c : AsyncCause) : Option State :=
  let mine := fun (e : Entity) => decide (e.wave = w) && decide (e.park ≠ .exited)
  let add := fun (e : Entity) => { e with pending := e.pending ++ [c] }
  let s0 : State := { s with hist := s.hist.map (fun h => { h with ents := modMap h.ents k (fun e => if mine e then add e else e) }) }
  if ((look s.ents k).map mine).getD false then some (s0.modEnt k add)
  else if s.spilled.any (fun p => p.ents.any (fun e => decide (e.1 = k) && mine e.2)) then
    some { s0 with spilled := s.spilled.map (fun p =>
      if p.waveId = w then { p with ents := p.ents.map (fun e => if e.1 = k then (k, add e.2) else e) } else p) }
  else if s.contexts.any (fun x => ((look x.ents k).map mine).getD false) then
    some { s0 with contexts := s.contexts.map (fun x =>
      if ((look x.ents k).map mine).getD false then { x with ents := x.ents.map (fun e => if e.1 = k then (k, add e.2) else e) } else x) }
  else none

/-! ### Gangs of a launch in their order (R237, R242) -/

/-- R237: gangs of a launch's grid. -/
def gangTotal (r : Record) : Nat := (r.gridX * r.gridY * r.gridZ + r.gsize - 1) / r.gsize

/-- R242: the curve index of a point of a square of side 2^k, the inverse of HilbertXY. -/
def hilbertD : Nat → Nat → Nat → Nat
  | 0, _, _ => 0
  | k + 1, x, y =>
    let h := 2 ^ k
    let rx := x / h % 2
    let ry := y / h % 2
    let u := x % h
    let v := y % h
    let d := h * h * (if rx = 1 then 3 - ry else ry)
    if ry = 0 then (if rx = 1 then d + hilbertD k (h - 1 - v) (h - 1 - u) else d + hilbertD k v u) else d + hilbertD k u v

/-- R242: HilbertXY with 2^k for N; the loop's s doubles from 1. -/
def hilbertXY : Nat → Nat → Nat → Nat → Nat → Nat × Nat
  | 0, _, _, x, y => (x, y)
  | k + 1, h, t, x, y =>
    let rx := t / 2 % 2
    let ry := (t + rx) % 2
    let p := if ry = 0 then (if rx = 1 then (h - 1 - y, h - 1 - x) else (y, x)) else (x, y)
    hilbertXY k (2 * h) (t / 4) (p.1 + h * rx) (p.2 + h * ry)

/-- The smallest k with n ≤ 2^k. -/
def log2Up (n : Nat) : Nat := if n ≤ 1 then 0 else Nat.log2 (n - 1) + 1

/-- R242: gang identifiers in curve order. -/
def curveOrder (r : Record) : List Nat :=
  let k := log2Up (max r.gridX r.gridY)
  let key := fun (j : Nat) =>
    let b := j * r.gsize
    b / (r.gridX * r.gridY) * 4 ^ k + hilbertD k (b % r.gridX) (b / r.gridX % r.gridY)
  ((List.range (gangTotal r)).foldl (fun (m : NMap Nat) j => put m (key j) j) []).map (fun e => e.2)

/-- R242: curve position of a gang; its own number outside deterministic mode. -/
def positionOf (r : Record) (j : Nat) : Nat := if r.deterministic then (curveOrder r).idxOf j else j

/-- The first `n` gangs of a launch in the order they are placed. -/
def gangOrder (r : Record) (n : Nat) : List Nat := if r.deterministic then (curveOrder r).take n else List.range n

/-! ### Containment -/

/-- R285, R284: once the launch is quiet and its objects are dropped, every gang that had been placed is to be placed again. -/
def restartLaunch (s : State) (l : Nat) : State :=
  s.modLaunch l (fun v =>
    let again := gangOrder v.record v.nextGang
    { v with
      phase := .running, retired := 0, again := again, dropped := [], arrivals := [], exposed := false
      counts := again.foldl (fun m j => put m j ((look m j).getD 0 + 1)) v.counts })

/-- R285, step 1: every gang stops as in R58, R257 and R279 give it, and the launch waits for its operations and its drops. -/
def relaunchAll (s : State) (l : Nat) : State := stopGangs s l (fun v => { v with redo := true })

/-- R286: a gang of the launch that a relaunch of the whole launch takes back had IEX set: one that has retired, or one that stands. -/
def anyExposed (s : State) (l : Nat) (v : Launch) : Bool := v.exposed || (gangsOfLaunch s l).any (fun g => g.2.iex)

/-- R284: what happens to a contained gang. -/
inductive ContainAction where
  | faulted
  | lost
  | whole
  | again
  deriving DecidableEq, Repr

/-- R284: the first row of the table that applies. -/
def containAction (q : Gang) (v : Option Launch) : ContainAction :=
  if 3 ≤ q.relaunch then .lost
  else
    match v with
    | some l =>
      if l.record.anytime then .whole
      else if q.ie = false ∨ l.record.idempotent = true then .again else .lost
    | none => if q.ie = false then .again else .lost

/-- R287: ACTION codes. -/
def ContainAction.code : ContainAction → Nat
  | .again => 1 | .whole => 2 | .lost => 3 | .faulted => 4

/-- R283: a spawned or handler wave is run again from its entries: they stand as a bin of their own, due to launch. -/
def rerunWave (s : State) (pav : Nat) (v : Wave) (n : Nat) : State :=
  match v.origin with
  | none => s
  | some b =>
    let p := s.pav pav
    let key := ((p.bins.map (fun e => e.1)).foldl max 31) + 1
    s.setPav pav { p with bins := put p.bins key { b with due := true, idle := false, relaunch := n } }

/-- R284: containment of a gang: its blocks stop, provisional results and held writes are dropped, a report is written, and the
action of the table is taken. -/
def containGang (s : State) (g core cause unit addr : Nat) : State :=
  match look s.gangs g with
  | none => s
  | some q =>
    let v := launchOf s q.owner
    let act := containAction q v
    let ws := wavesOfGang s q
    let isChild := decide (q.id = 0xFFFFFFFF)
    let first := (ws.head?).bind (fun w => look s.waves w)
    let s1 := containmentReport s (lidOf s q.owner) q.id cause unit core act.code q.relaunch q.ie q.iex addr
    match act with
    | .whole =>
      (match q.owner with
        | .launch l => (relaunchAll (dropHeld (stopWaves s1 ws) ws) l).modLaunch l (fun v => { v with irrev := v.irrev || (match launchOf s q.owner with
            | some x => anyExposed s l x
            | none => false) })
        | .tree _ => s1)
    | .faulted => s1
    | .lost =>
      (match q.owner with
        | .tree _ => ws.foldl (fun s w => loseTreeWave s core w cause addr) s1
        | .launch l =>
          let s2 := dropHeld (stopWaves s1 ws) ws
          let s3 := (setStatus s2 q.owner .lost).modLaunch l (fun v => { v with irrev := v.irrev || q.ie })
          if isChild then { (dropBlocks s3 q.blocks) with gangs := erase s3.gangs g }
          else (dropBlocks s3 q.blocks).setGang g { q with stopped := true })
    | .again =>
      let s2 := dropBlocks (dropHeld (stopWaves s1 ws) ws) q.blocks
      let s3 := { s2 with gangs := erase s2.gangs g }
      let s4 := match q.owner with
        | .launch l => restorePoint l (s3.modLaunch l (fun v => { v with irrev := v.irrev || q.iex })) q.pav
        | .tree _ => s3
      if isChild then
        let s5 := match q.owner with | .tree t => s4.modTree t (fun x => { x with live := x.live - 1 }) | .launch _ => s4
        (match first with | some w => rerunWave s5 q.pav w (q.relaunch + 1) | none => s5)
      else
        match q.owner with
        | .launch l => s4.modLaunch l (fun v => { v with
            again := v.again ++ [q.id], counts := put v.counts q.id ((look v.counts q.id).getD 0 + 1) })
        | .tree _ => s4

/-- R275, R280: containment of the gang of a wave. -/
def containWave (s : State) (w core cause unit addr : Nat) : State :=
  match gangOfWave s w with
  | some g => containGang s g core cause unit addr
  | none => s

/-- R275, R281, R284: a wave consumes a poisoned granule, named by its address, of a unit; its core is marked for self-test (assumption 68). -/
def consume (s : State) (w core unit addr : Nat) : State := containWave (markCore s core unit) w core 0x60 unit addr

/-- R287: the unit of a poisoned line of memory. -/
def memUnit (a : Nat) : Nat := if a < tierAt then 6 else 7

/-- R268, R263: an engine fault that the driver declined: a record of kind 4, and the gang stops on the path of R256. -/
def engineFault (s : State) (w core addr : Nat) : State :=
  let o := ownerOf s w
  let s1 := eventRecord s (lidOf s o) 4 0x10 core addr
  match o with
  | .launch l => faultPath s1 l w core 0x10
  | .tree _ => stopTreeWave s1 (32 * core) w 0x10 0x10 addr

end Sys2Proof.Machine
end

