-- ==== Sys2Proof/Machine/Flags.lean ====
section
/-! DEFINITION. Numbers to the bit (chapter 07): floating-point formats, exact values, rounding with its flags, conversions and
the special-function unit. Flag sets are FPSTAT words (R110): NX 1, UF 2, OF 4, DZ 8, NV 16. -/

namespace Sys2Proof.Machine

open Sys2Proof

/-! ### Formats (R100) -/

/-- A floating-point format: exponent bits, fraction bits, and whether it has infinities (E4M3 has none). -/
structure Fmt where
  eb  : Nat
  fb  : Nat
  inf : Bool
  deriving DecidableEq, Repr

def Fmt.f32 : Fmt := { eb := 8, fb := 23, inf := true }
def Fmt.f16 : Fmt := { eb := 5, fb := 10, inf := true }
def Fmt.bf16 : Fmt := { eb := 8, fb := 7, inf := true }
def Fmt.e4m3 : Fmt := { eb := 4, fb := 3, inf := false }
def Fmt.e5m2 : Fmt := { eb := 5, fb := 2, inf := true }

def Fmt.width (f : Fmt) : Nat := 1 + f.eb + f.fb
def Fmt.bias (f : Fmt) : Int := (2 ^ (f.eb - 1) : Nat) - 1
/-- Exponent of the smallest normal number. -/
def Fmt.emin (f : Fmt) : Int := 1 - f.bias
/-- Largest biased exponent of a finite number. -/
def Fmt.etop (f : Fmt) : Nat := if f.inf then 2 ^ f.eb - 2 else 2 ^ f.eb - 1
/-- Encoding of the largest finite magnitude. -/
def Fmt.maxCode (f : Fmt) : Nat := f.etop * 2 ^ f.fb + (if f.inf then 2 ^ f.fb - 1 else 2 ^ f.fb - 2)
/-- Encoding of +∞, where the format has one. -/
def Fmt.infCode (f : Fmt) : Nat := (2 ^ f.eb - 1) * 2 ^ f.fb
/-- The canonical NaN (R100). -/
def Fmt.canon (f : Fmt) : Nat :=
  if f.inf then f.infCode + 2 ^ (f.fb - 1) else f.infCode + 2 ^ f.fb - 1
def Fmt.signBit (f : Fmt) : Nat := 2 ^ (f.eb + f.fb)

/-- An exact value: NaN (signalling or not), an infinity, or (−1)^neg × m × 2^e. -/
inductive Val where
  | nan (signalling : Bool)
  | inf (neg : Bool)
  | fin (neg : Bool) (m : Nat) (e : Int)
  deriving DecidableEq, Repr

/-- R100, R105: the value of an encoding; FP8 NaNs are quiet. -/
def Fmt.value (f : Fmt) (code : Nat) : Val :=
  let neg := decide (code / f.signBit % 2 = 1)
  let ex := code / 2 ^ f.fb % 2 ^ f.eb
  let fr := code % 2 ^ f.fb
  if f.inf = true ∧ ex = 2 ^ f.eb - 1 then
    if fr = 0 then .inf neg else .nan (decide (f.fb ≥ 7) && decide (fr < 2 ^ (f.fb - 1)))
  else if f.inf = false ∧ ex = 2 ^ f.eb - 1 ∧ fr = 2 ^ f.fb - 1 then .nan false
  else if ex = 0 then .fin neg fr (f.emin - f.fb)
  else .fin neg (2 ^ f.fb + fr) (ex - f.bias - f.fb)

def Val.isNan : Val → Bool | .nan _ => true | _ => false
def Val.isSnan : Val → Bool | .nan b => b | _ => false
def Val.isZero : Val → Bool | .fin _ m _ => decide (m = 0) | _ => false
def Val.negate : Val → Val | .fin n m e => .fin (!n) m e | .inf n => .inf (!n) | v => v

/-! ### Rounding (R103) -/

/-- ⌊n × 2^k⌋ for a k of either sign, and whether it is exact, above one half, or at one half: (floor, remainder class 0 to 3). -/
def scaleNat (m : Nat) (k : Int) : Nat × Nat :=
  match k with
  | .ofNat n => (m * 2 ^ n, 0)
  | .negSucc j =>
    let d := 2 ^ (j + 1)
    let r := m % d
    (m / d, if r = 0 then 0 else if 2 * r < d then 1 else if 2 * r = d then 2 else 3)

/-- R103: round a floor with its remainder class to an integer under a mode (0 RNE, 1 RTZ, 2 RUP, 3 RDN). -/
def roundStep (rm : Nat) (neg : Bool) (q cls : Nat) : Nat :=
  match rm with
  | 0 => if cls = 3 ∨ (cls = 2 ∧ q % 2 = 1) then q + 1 else q
  | 1 => q
  | 2 => if cls ≠ 0 ∧ neg = false then q + 1 else q
  | _ => if cls ≠ 0 ∧ neg = true then q + 1 else q

/-- Round an exact magnitude m × 2^e to a multiple of 2^q: the multiple and whether it is inexact. -/
def roundTo (rm : Nat) (neg : Bool) (m : Nat) (e q : Int) : Nat × Bool :=
  let r := scaleNat m (e - q)
  (roundStep rm neg r.1 r.2, decide (r.2 ≠ 0))

/-- ⌊log2⌋ of a positive magnitude m × 2^e. -/
def expOf (m : Nat) (e : Int) : Int := (Nat.log2 m : Int) + e

/-- R103, R107: the encoding on overflow. -/
def Fmt.overflow (f : Fmt) (rm : Nat) (neg sat : Bool) : Nat :=
  let s := if neg then f.signBit else 0
  if f.inf = false then (if sat then s + f.maxCode else f.canon)
  else if sat = true ∧ f.fb < 7 then s + f.maxCode
  else
    let toMax := match rm with | 0 => false | 1 => true | 2 => neg | _ => !neg
    s + (if toMax then f.maxCode else f.infCode)

/-- RoundToFormat of a non-zero exact magnitude (R103, R110): encoding and flags. -/
def Fmt.roundFin (f : Fmt) (rm : Nat) (sat : Bool) (neg : Bool) (m : Nat) (e : Int) : Nat × Nat :=
  let s := if neg then f.signBit else 0
  let x := expOf m e
  let q := (if x < f.emin then f.emin else x) - f.fb
  let r := roundTo rm neg m e q
  let q1 := if r.1 = 2 ^ (f.fb + 1) then q + 1 else q
  let n := if r.1 = 2 ^ (f.fb + 1) then 2 ^ f.fb else r.1
  let code := if n < 2 ^ f.fb then n else (q1 + f.fb + f.bias).toNat * 2 ^ f.fb + (n - 2 ^ f.fb)
  if code > f.maxCode then (f.overflow rm neg sat, 5)
  else
    let u := roundTo rm neg m e (x - f.fb)
    let tiny := decide (expOf u.1 (x - f.fb) < f.emin)
    (s + code, (if r.2 then 1 else 0) + (if tiny && r.2 then 2 else 0))

/-- RoundToFormat (R103, R105 to R107) of any value; zeros keep the sign given. -/
def Fmt.round (f : Fmt) (rm : Nat) (sat : Bool) (v : Val) : Nat × Nat :=
  match v with
  | .nan _ => (f.canon, 0)
  | .inf neg => ((if f.inf = false then (if sat then (if neg then f.signBit else 0) + f.maxCode else f.canon)
      else (if neg then f.signBit else 0) + (if sat = true ∧ f.fb < 7 then f.maxCode else f.infCode)), 0)
  | .fin neg m e => if m = 0 then ((if neg then f.signBit else 0), 0) else f.roundFin rm sat neg m e

/-! ### Exact sums and products -/

/-- Signed integer of a finite value at exponent q ≤ e. -/
def atExp (neg : Bool) (m : Nat) (e q : Int) : Int :=
  let n : Int := (m * 2 ^ (e - q).toNat : Nat)
  if neg then -n else n

/-- Exact sum of two finite values; the sign of an exact zero follows R104. -/
def addFin (rm : Nat) (na : Bool) (ma : Nat) (ea : Int) (nb : Bool) (mb : Nat) (eb : Int) : Val :=
  let q := if ea < eb then ea else eb
  let t := atExp na ma ea q + atExp nb mb eb q
  if t = 0 then .fin (if ma = 0 ∧ mb = 0 ∧ na = nb then na else decide (rm = 3)) 0 0
  else .fin (decide (t < 0)) t.natAbs q

/-- Exact sum with R105's invalid case ∞ − ∞: value and invalid flag. -/
def Val.add (rm : Nat) (a b : Val) : Val × Bool :=
  match a, b with
  | .nan x, b => (.nan false, x || b.isSnan)
  | a, .nan y => (.nan false, a.isSnan || y)
  | .inf x, .inf y => if x = y then (.inf x, false) else (.nan false, true)
  | .inf x, .fin _ _ _ => (.inf x, false)
  | .fin _ _ _, .inf y => (.inf y, false)
  | .fin na ma ea, .fin nb mb eb => (addFin rm na ma ea nb mb eb, false)

/-- Exact product with R105's invalid case 0 × ∞. -/
def Val.mul (a b : Val) : Val × Bool :=
  match a, b with
  | .nan x, b => (.nan false, x || b.isSnan)
  | a, .nan y => (.nan false, a.isSnan || y)
  | .inf x, .inf y => (.inf (x != y), false)
  | .inf x, .fin n m _ => if m = 0 then (.nan false, true) else (.inf (x != n), false)
  | .fin n m _, .inf y => if m = 0 then (.nan false, true) else (.inf (n != y), false)
  | .fin na ma ea, .fin nb mb eb => (.fin (na != nb) (ma * mb) (ea + eb), false)

/-- Exact a × b + c, invalid also for 0 × ∞ beside a NaN addend (R161). -/
def Val.fma (rm : Nat) (a b c : Val) : Val × Bool :=
  let p := Val.mul a b
  let r := Val.add rm p.1 c
  (r.1, p.2 || r.2)

/-- R161: round an exact result, or give the canonical NaN with NV where it is invalid. -/
def Fmt.finish (f : Fmt) (rm : Nat) (r : Val × Bool) : Nat × Nat :=
  let x := f.round rm false r.1
  (x.1, if r.2 then 16 else x.2)

def Fmt.add (f : Fmt) (rm a b : Nat) : Nat × Nat := f.finish rm (Val.add rm (f.value a) (f.value b))
def Fmt.sub (f : Fmt) (rm a b : Nat) : Nat × Nat := f.finish rm (Val.add rm (f.value a) (f.value b).negate)
def Fmt.mul (f : Fmt) (rm a b : Nat) : Nat × Nat := f.finish rm (Val.mul (f.value a) (f.value b))
def Fmt.fma (f : Fmt) (rm a b c : Nat) : Nat × Nat := f.finish rm (Val.fma rm (f.value a) (f.value b) (f.value c))
def Fmt.fnma (f : Fmt) (rm a b c : Nat) : Nat × Nat := f.finish rm (Val.fma rm (f.value a).negate (f.value b) (f.value c))

/-- Order of two values that are not NaN; equal zeros are equal. -/
def Val.lt (a b : Val) : Bool :=
  match a, b with
  | .inf x, .inf y => x && !y
  | .inf x, _ => x
  | _, .inf y => !y
  | .fin na ma ea, .fin nb mb eb =>
    let q := if ea < eb then ea else eb
    decide (atExp na ma ea q < atExp nb mb eb q)
  | _, _ => false

/-- Order with −0 below +0 (R105). -/
def Val.ltTotal (a b : Val) : Bool :=
  if a.isZero && b.isZero then (match a, b with | .fin na _ _, .fin nb _ _ => na && !nb | _, _ => false) else a.lt b

/-- R105, R161: VFMIN (`max` false) and VFMAX, on encodings. -/
def Fmt.minMax (f : Fmt) (max : Bool) (a b : Nat) : Nat × Nat :=
  let x := f.value a
  let y := f.value b
  let flags := if x.isSnan || y.isSnan then 16 else 0
  if x.isNan && y.isNan then (f.canon, flags)
  else if x.isNan then (b, flags)
  else if y.isNan then (a, flags)
  else if (if max then x.ltTotal y else y.ltTotal x) then (b, flags)
  else (a, flags)

/-- R162: a compare: EQ 0, NE 1, LT 2, LE 3, GT 4, GE 5, UN 6; the result and the flags. -/
def Fmt.compare (f : Fmt) (cc a b : Nat) : Bool × Nat :=
  let x := f.value a
  let y := f.value b
  let un := x.isNan || y.isNan
  let snan := x.isSnan || y.isSnan
  let eq := !un && !x.lt y && !y.lt x
  let nv := if cc = 0 ∨ cc = 1 ∨ cc = 6 then snan else un
  let r := match cc with
    | 0 => eq | 1 => !eq | 2 => !un && x.lt y | 3 => !un && !y.lt x | 4 => !un && y.lt x | 5 => !un && !x.lt y | _ => un
  (r, if nv then 16 else 0)

/-! ### Conversions (R107, R108) -/

/-- R108: an exact value rounded to an integer within [lo, hi]: value and flags. -/
def toInt (rm : Nat) (lo hi : Int) (v : Val) : Int × Nat :=
  match v with
  | .nan _ => (0, 16)
  | .inf neg => (if neg then lo else hi, 16)
  | .fin neg m e =>
    let r := roundTo rm neg m e 0
    let n : Int := if neg then -(r.1 : Int) else r.1
    if n < lo then (lo, 16) else if hi < n then (hi, 16) else (n, if r.2 then 1 else 0)

/-- An integer as an exact value. -/
def ofInt (n : Int) : Val := .fin (decide (n < 0)) n.natAbs 0

/-- Kinds of VCVT formats (R130): an integer of `n` bits, signed or not, or a floating format. -/
inductive CvtFmt where
  | int (n : Nat) (signed : Bool)
  | float (f : Fmt)
  deriving DecidableEq, Repr

/-- R130: the format codes of VCVT. -/
def cvtFmt (code : Nat) : CvtFmt :=
  match code with
  | 0 => .int 32 true | 1 => .int 32 false | 2 => .float .f32 | 3 => .float .f16 | 4 => .float .bf16 | 5 => .float .e4m3
  | 6 => .float .e5m2 | 7 => .int 16 true | 8 => .int 16 false | 9 => .int 8 true | 10 => .int 8 false | 11 => .int 64 true
  | _ => .int 64 false

def intLo (n : Nat) (signed : Bool) : Int := if signed then -(2 ^ (n - 1) : Nat) else 0
def intHi (n : Nat) (signed : Bool) : Int := if signed then (2 ^ (n - 1) : Nat) - 1 else (2 ^ n : Nat) - 1

def clampInt (lo hi x : Int) : Int := if x < lo then lo else if hi < x then hi else x

/-- R107, R108: convert an encoding, in the low bits, to another format: encoding of the destination and flags. A NaN that
signals raises invalid (R105); an integer to a narrower one keeps its low bits unless SAT clamps it. -/
def convert (src dst : CvtFmt) (rm : Nat) (sat : Bool) (x : Nat) : Nat × Nat :=
  match src, dst with
  | .int n sg, .int m tg =>
    let v : Int := if sg then sext n x else ((x % 2 ^ n : Nat) : Int)
    let w := if sat = true ∧ m < n then clampInt (intLo m tg) (intHi m tg) v else v
    ((w % (2 ^ m : Nat)).toNat, 0)
  | .int n sg, .float f =>
    let v : Int := if sg then sext n x else ((x % 2 ^ n : Nat) : Int)
    f.round rm sat (ofInt v)
  | .float g, .int m tg =>
    let r := toInt rm (intLo m tg) (intHi m tg) (g.value (x % 2 ^ g.width))
    ((r.1 % (2 ^ m : Nat)).toNat, r.2)
  | .float g, .float f =>
    let v := g.value (x % 2 ^ g.width)
    let r := f.round rm sat v
    (r.1, if v.isSnan then 16 else r.2)

/-! ### PBF blocks (R102, R109) -/

/-- R109: the exponent byte of a block from the values of its elements: 0xFF with a NaN or infinity, 0 when all are zero. -/
def pbfExp (vs : List Val) : Nat :=
  if vs.any (fun v => match v with | .fin _ _ _ => false | _ => true) then 255
  else
    let tops := vs.filterMap (fun v => match v with | .fin _ m e => if m = 0 then none else some (expOf m e) | _ => none)
    match tops with
    | [] => 0
    | t :: r => (clampInt 1 254 ((r.foldl (fun a b => if a < b then b else a) t) + 128)).toNat

/-- R109: the mantissa of one element for block exponent E, with its flags. -/
def pbfMant (E m rm : Nat) (v : Val) : Int × Nat :=
  match v with
  | .fin neg k e =>
    if E = 0 ∨ E = 255 then (0, 0)
    else
      let r := roundTo rm neg k e ((E : Int) - 127 - (m - 1))
      let n : Int := if neg then -(r.1 : Int) else r.1
      let c := clampInt (intLo m true) (intHi m true) n
      (c, (if r.2 ∨ c ≠ n then 1 else 0) + (if c ≠ n then 4 else 0))
  | .nan s => (0, if s then 16 else 0)
  | .inf _ => (0, 0)

/-- R102: the value of a mantissa under block exponent E. -/
def pbfValue (E m : Nat) (mant : Int) : Val :=
  if E = 0 then .fin false 0 0 else if E = 255 then .nan false
  else .fin (decide (mant < 0)) mant.natAbs ((E : Int) - 127 - (m - 1))

/-! ### The special-function unit (R112, R113) -/

/-- binary32 encoding of n × 2^q with n < 256, exact. -/
def enc32 (neg : Bool) (n : Nat) (q : Int) : Nat :=
  if n = 0 then (if neg then 0x80000000 else 0) else (Fmt.f32.roundFin 0 false neg n q).1

/-- R112: the S8 value nearest to 1/x for x = m × 2^e, ties to even. -/
def recipS8 (neg : Bool) (m : Nat) (e : Int) : Nat × Nat :=
  let g := -(expOf m e)
  let pick := fun (q : Int) =>
    -- 2^(−e−q) / m as floor and class
    let t := -e - q
    let num := 2 ^ t.toNat
    let den := m * 2 ^ (-t).toNat
    let n := num / den
    let r := num % den
    (n, if r = 0 then 0 else if 2 * r < den then 1 else if 2 * r = den then 2 else 3)
  let q0 := g - 8
  let a := pick q0
  let q := if a.1 < 128 then q0 - 1 else if a.1 < 256 then q0 else q0 + 1
  let b := pick q
  let n := roundStep 0 false b.1 b.2
  let s := if neg then 0x80000000 else 0
  if n = 256 ∧ q + 8 ≥ 128 ∨ q + 7 ≥ 128 then (s + 0x7F800000, 4) else (enc32 neg n q, 0)

/-- R112: the S8 value nearest to 1/√x for x = m × 2^e > 0. -/
def rsqrtS8 (m : Nat) (e : Int) : Nat :=
  let h := expOf m e / 2
  let fits := fun (q : Int) =>
    let t := -e - 2 * q
    decide (128 * 128 * m * 2 ^ (-t).toNat ≤ 2 ^ t.toNat) && decide (2 ^ t.toNat < 256 * 256 * m * 2 ^ (-t).toNat)
  let q := (([-h - 9, -h - 8, -h - 7, -h - 6].find? fits).getD (-h - 8))
  let t := -e - 2 * q
  let den := m * 2 ^ (-t).toNat
  let num := 2 ^ t.toNat
  let n := ((List.range 256).filter (fun n => decide (n * n * den ≤ num))).length - 1
  let up := decide ((2 * n + 1) * (2 * n + 1) * den < 4 * num) || (decide ((2 * n + 1) * (2 * n + 1) * den = 4 * num) && decide (n % 2 = 1))
  enc32 false (if up then n + 1 else n) q

/-- Scale of the enclosures below: values are integers over 2^400. -/
def sfuP : Nat := 400

/-- ⌊ln 2 × 2^400⌋ and ⌊2π × 2^500⌋. -/
def ln2Scaled : Nat := 0xb17217f7d1cf79abc9e3b39803f2f6af40f343267298b62d8a0d175b8baafa2be7b876206debac98559552fb4afa1b10ed2e
def twoPiScaled : Nat :=
  0x6487ed5110b4611a62633145c06e0e68948127044533e63a0105df531d89cd9128a5043cc71a026ef7ca8cd9e69d218d98158536f92f8a1ba7f09ab6b6a8e0

/-- Partial sum of Σ y^k/k! over 2^400 for 0 ≤ y < 1, `n` more terms from index k with current term t. -/
def expSum (y : Nat) : Nat → Nat → Nat → Nat → Nat
  | 0, _, _, acc => acc
  | n + 1, k, t, acc =>
    let t1 := t * y / 2 ^ sfuP / (k + 1)
    expSum y n (k + 1) t1 (acc + t1)

/-- Alternating partial sum of Σ ± r^(2k+j)/(2k+j)! over 2^400, from term t at power p. -/
def trigSum (r2 : Nat) : Nat → Nat → Nat → Int → Int → Int
  | 0, _, _, _, acc => acc
  | n + 1, p, t, sg, acc =>
    let t1 := t * r2 / 2 ^ sfuP / ((p + 1) * (p + 2))
    trigSum r2 n (p + 2) t1 (-sg) (acc + sg * (t1 : Int))

/-- `n` binary digits of log2 of f, over 2^400, for 1 ≤ f < 2, by repeated squaring. -/
def logDigits : Nat → Nat → Nat → Nat
  | 0, _, acc => acc
  | n + 1, f, acc =>
    let g := f * f / 2 ^ sfuP
    if g ≥ 2 ^ (sfuP + 1) then logDigits n (g / 2) (2 * acc + 1) else logDigits n g (2 * acc)

/-- An integer over 2^400 for the exact value (−1)^neg × m × 2^e, e ≥ −400. -/
def scaled (neg : Bool) (m : Nat) (e : Int) : Int := atExp neg m e (-(sfuP : Int))

/-- Bounds over 2^400 of sin x for 0 < x < 2^−100, x over 2^400: x − x³/6 < sin x < x − x³/6 + x⁵/120, and less than x. -/
def tinySin (x : Nat) : Int × Int :=
  let c : Int := (x * x * x / 2 ^ (2 * sfuP) / 6 : Nat)
  (x - c - 1, min (x : Int) (x - c + 1))

/-- Bounds over 2^400 of the true result of VFEXP2 (2), VFLOG2 (3), VFSIN (4), VFCOS (5) at a finite non-zero x. Results of VFEXP2
from 2^128 up count as 2^128 (R113). -/
def sfuBounds (op : Nat) (neg : Bool) (m : Nat) (e : Int) : Int × Int :=
  match op with
  | 2 =>
    let X := scaled neg m e
    let n := X / (2 ^ sfuP : Nat)
    if n ≥ 128 then ((2 ^ (128 + sfuP) : Nat), (2 ^ (128 + sfuP) : Nat))
    else if n < -300 then (0, 1)
    else
      let r := (X % (2 ^ sfuP : Nat)).toNat
      let y := r * ln2Scaled / 2 ^ sfuP
      let v := expSum y 90 0 (2 ^ sfuP) (2 ^ sfuP)
      let lo : Nat := if n ≥ 0 then v * 2 ^ n.toNat else v / 2 ^ (-n).toNat
      let hi : Nat := if n ≥ 0 then (v + 2 ^ 20) * 2 ^ n.toNat else (v + 2 ^ 20) / 2 ^ (-n).toNat + 1
      ((lo : Int), (hi : Int))
  | 3 =>
    let k := expOf m e
    let f := m * 2 ^ (sfuP - Nat.log2 m)
    let d := logDigits 120 f 0
    let lo : Int := k * (2 ^ sfuP : Nat) + (d * 2 ^ (sfuP - 120) : Nat)
    (lo, lo + (2 ^ (sfuP - 119) : Nat))
  | _ =>
    let X := m * 2 ^ (e + 500).toNat
    if op = 4 ∧ X < 2 ^ 400 then
      let b := tinySin (X / 2 ^ 100)
      if neg then (-b.2, -b.1) else b
    else
      let r := (X % twoPiScaled) / 2 ^ 100
      let r2 := r * r / 2 ^ sfuP
      let v := if op = 4 then trigSum r2 80 1 r (-1) (r : Int) else trigSum r2 80 0 (2 ^ sfuP) (-1) ((2 ^ sfuP : Nat) : Int)
      let w := if op = 4 ∧ neg = true then -v else v
      (w - (2 ^ 40 : Nat), w + (2 ^ 40 : Nat))

/-- 2 × Ulp32 of a value over 2^400 (R117). -/
def twoUlp (t : Int) : Int :=
  let a := t.natAbs
  let x : Int := (Nat.log2 a : Int) - sfuP
  let q : Int := if a = 0 ∨ x < -126 then -149 else x - 23
  (2 ^ (q + 1 + sfuP).toNat : Nat)

/-- R113: a binary32 encoding lies in the accepted set of a result between the bounds. -/
def accepted (op : Nat) (b : Int × Int) (code : Nat) : Bool :=
  let near := fun (y : Int) => decide ((y - b.1).natAbs ≤ (twoUlp b.1).natAbs) && decide ((y - b.2).natAbs ≤ (twoUlp b.2).natAbs)
  match Fmt.f32.value code with
  | .nan _ => false
  | .inf neg => decide (op = 2) && !neg && near ((2 ^ (128 + sfuP) : Nat) : Int)
  | .fin neg m e =>
    let y := scaled neg m e
    near y && (decide (op < 4) || decide (y.natAbs ≤ 2 ^ sfuP))

/-- The binary32 value nearest to a lower bound over 2^400, within [−1, 1] for VFSIN and VFCOS. -/
def nearest32 (op : Nat) (t : Int) : Nat :=
  let c := if op < 4 then t else clampInt (-(2 ^ sfuP : Nat)) (2 ^ sfuP : Nat) t
  if c = 0 then 0 else (Fmt.f32.roundFin 0 false (decide (c < 0)) c.natAbs (-(sfuP : Int))).1

/-- R113: the core's result for an x whose result is not fixed: its free value where that is accepted, else the nearest value. -/
def sfuOpen (op : Nat) (x : Nat) (neg : Bool) (m : Nat) (e : Int) : Nat × Nat :=
  let b := sfuBounds op neg m e
  let free := (Config.sfuFree op (BitVec.ofNat 32 x)).toNat
  let y := if accepted op b free then free else nearest32 op b.1
  (y, if op = 2 ∧ y = 0x7F800000 then 4 else 0)

/-- R112, R113, R163: an operation of the special-function unit on a binary32 encoding (0 VFRCP, 1 VFRSQ, 2 VFEXP2, 3 VFLOG2, 4 VFSIN,
5 VFCOS): encoding and flags. -/
def sfu (op : Nat) (x : Nat) : Nat × Nat :=
  let canon := Fmt.f32.canon
  match Fmt.f32.value x with
  | .nan s => (canon, if s then 16 else 0)
  | .inf neg =>
    match op with
    | 0 => (if neg then 0x80000000 else 0, 0)
    | 1 => if neg then (canon, 16) else (0, 0)
    | 2 => if neg then (0, 0) else (0x7F800000, 0)
    | 3 => if neg then (canon, 16) else (0x7F800000, 0)
    | _ => (canon, 16)
  | .fin neg m e =>
    if m = 0 then
      match op with
      | 0 => ((if neg then 0x80000000 else 0) + 0x7F800000, 8)
      | 1 => ((if neg then 0x80000000 else 0) + 0x7F800000, 8)
      | 2 => (0x3F800000, 0)
      | 3 => (0xFF800000, 8)
      | 4 => (x, 0)
      | _ => (0x3F800000, 0)
    else
      match op with
      | 0 => recipS8 neg m e
      | 1 => if neg then (canon, 16) else (rsqrtS8 m e, 0)
      | 2 =>
        let X := scaled neg m e
        let n := X / (2 ^ sfuP : Nat)
        if X % (2 ^ sfuP : Nat) = 0 ∧ -149 ≤ n ∧ n ≤ 127 then ((Fmt.f32.roundFin 0 false false 1 n).1, 0) else sfuOpen 2 x neg m e
      | 3 =>
        if neg then (canon, 16)
        else if m = 2 ^ Nat.log2 m then
          let k := expOf m e
          (if k = 0 then (0, 0) else ((Fmt.f32.roundFin 0 false (decide (k < 0)) k.natAbs 0).1, 0))
        else sfuOpen 3 x neg m e
      | n => sfuOpen n x neg m e

/-! ### Quality of an error bound (R51) -/

/-- A number squared `n` times: its power 2^n. -/
def squared : Nat → Nat → Nat
  | 0, m => m
  | n + 1, m => squared n (m * m)

/-- R51: QCVT: ⌊65,536 × −log2 |e|⌋ for 0 < |e| < 1. -/
def qcvt (x : Nat) : Nat :=
  match Fmt.f32.value x with
  | .nan _ => 0
  | .inf _ => 0
  | .fin _ m e =>
    if m = 0 then 0xFFFFFFFF
    else if expOf m e ≥ 0 then 0
    else
      -- 65,536 × −log2 |e| = −65,536 × e − log2 (m^65,536), whose logarithm is whole only for a power of two
      (-(65536 * e)).toNat - Nat.log2 (squared 16 m) - (if m = 2 ^ Nat.log2 m then 0 else 1)

end Sys2Proof.Machine
end

