-- ==== Sys2Proof/Machine/Translate.lean ====
section
/-! DEFINITION. Translation of global addresses (R62 to R69): the walk, contiguous groups, the TLBs, permissions, and parking on
a page fault (R260 to R262). -/

namespace Sys2Proof.Machine

open Sys2Proof

/-- What a walk finds (R65, R68). -/
inductive Walk where
  | page (e : TlbEntry)
  | unmapped
  | bound
  deriving DecidableEq, Repr

/-- R68: a physical address lies within its function's bounds; the physical function (0) is not checked. Tier bounds count from the
start of the tier (assumption 14). -/
def inBounds (s : State) (fn pa : Nat) : Bool :=
  if fn = 0 then true
  else
    let v := (look s.vfs fn).getD { hbmBase := 0, hbmBound := 0, tierBase := 0, tierBound := 0 }
    match target pa with
    | .hbm _ => decide (v.hbmBase ≤ pa / 4096) && decide (pa / 4096 < v.hbmBase + v.hbmBound)
    | .tier _ => decide (v.tierBase ≤ (pa - tierAt) / 4096) && decide ((pa - tierAt) / 4096 < v.tierBase + v.tierBound)
    | _ => true

/-- R64: fields of a page table entry. -/
def pteValid (e : Nat) : Bool := decide (bits e 0 1 = 1) && decide (bits e 57 2 < 2)
def pteLeaf (e : Nat) : Bool := decide (bits e 1 1 = 1)
def ptePa (e : Nat) : Nat := bits e 12 40 * 4096

/-- A cached translation from a leaf entry that maps `size` bytes around `va`. A leaf whose PA is not a multiple of its size maps the page that
holds it: R64 does not say (assumption 69). -/
def leafEntry (asid va size e : Nat) : TlbEntry :=
  { asid := asid, va := va / size * size, size := size, pa := ptePa e / size * size, sys := decide (bits e 7 1 = 1),
    x := decide (bits e 6 1 = 1), w := decide (bits e 5 1 = 1), r := decide (bits e 4 1 = 1), cached := decide (bits e 57 2 = 0) }

/-- R65: the entry a contiguous group of `n` entries of `size` bytes is translated by: the one named when the group is as software
must make it, else any one of its entries, the same for every address of the group. -/
def groupEntry (s : State) (d table idx n size group : Nat) : Nat :=
  let first := idx / n * n
  let ent := fun i => dieLoad s d (table + 8 * (first + i)) 8
  let own := ent (idx % n)
  let same := (List.range n).all (fun i =>
    decide (ent i = own - ptePa own + ptePa (ent i)) && decide (ptePa (ent i) + (idx % n) * size = ptePa own + i * size))
  if same then own else ent (Config.groupPick group % n)

/-- R64, R65: one walk from a table at level list (shift, index bits), through die `d`'s view. R64 puts tables in device memory and gives nothing for
a pointer into host memory or a peer window: an entry of the first is read as it stands there, one of the second reads as 0 (assumption 97). -/
def walk (s : State) (d asid fn va : Nat) : List (Nat × Nat) → Nat → Walk
  | [], _ => .unmapped
  | (sh, nb) :: rest, table =>
    let idx := va / 2 ^ sh % 2 ^ nb
    let pa := table + 8 * idx
    if target pa = .none ∨ inBounds s fn pa = false then .bound
    else
      let e := dieLoad s d pa 8
      if pteValid e = false then .unmapped
      else if pteLeaf e then
        if sh > 30 then .unmapped
        else if bits e 11 1 = 1 then
          let n := if sh = 30 then 4 else if sh = 21 then 32 else 16
          let g := groupEntry s d table idx n (2 ^ sh) (va / (n * 2 ^ sh))
          if pteValid g && pteLeaf g then .page (leafEntry asid va (n * 2 ^ sh) g) else .unmapped
        else if sh = 30 then .unmapped
        else .page (leafEntry asid va (2 ^ sh) e)
      else if sh = 12 then .unmapped
      else walk s d asid fn va rest (ptePa e)

/-- R64: the five levels. -/
def levels : List (Nat × Nat) := [(48, 8), (39, 9), (30, 9), (21, 9), (12, 9)]

/-- R66: the entry of a TLB for an address. -/
def tlbFind (l : List TlbEntry) (asid va : Nat) : Option TlbEntry :=
  l.find? (fun t => decide (t.asid = asid) && decide (t.va ≤ va) && decide (va < t.va + t.size))

/-- R66: the translation of an address: an entry of the core's TLB, else of its die's, else a walk. -/
def lookup (s : State) (core asid va : Nat) : Walk :=
  match tlbFind (s.core core).tlb asid va with
  | some t => .page t
  | none => match tlbFind (s.die (dieOfCore core)).tlb asid va with
    | some t => .page t
    | none => walk s (dieOfCore core) asid (s.asid asid).fn va levels (s.asid asid).root

/-- What an access needs of its page. -/
inductive Need where
  | read
  | write
  | atomic
  | fetch
  | future
  | futureWrite
  | copyRead
  | copyWrite
  | sendSource
  | sendTarget
  deriving DecidableEq, Repr

/-- Outcome of translating one address for one need: physical address, or unmapped (no cause), or the causes raised (R252). -/
structure Xl where
  pa     : Option Nat
  causes : List Nat
  entry  : Option TlbEntry
  deriving DecidableEq, Repr

/-- R64: the page allows the access. RD and W do not name WSEND; its source needs RD and its destination W (assumption 69). -/
def permits (t : TlbEntry) (n : Need) : Bool :=
  match n with
  | .read => t.r | .write => t.w | .atomic => t.r && t.w | .fetch => t.x | .future => t.r | .futureWrite => t.w | .copyRead => t.r | .copyWrite => t.w
  | .sendSource => t.r | .sendTarget => t.w

/-- R69, R179, R220, R230: the targets an access may reach. -/
def reaches (tg : Target) (n : Need) : Bool :=
  match n, tg with
  | .sendTarget, .peer _ _ => true
  | .sendTarget, _ => false
  | _, .peer _ _ => false
  | .atomic, .host => false
  | .future, .host => false
  | .futureWrite, .host => false
  | .sendSource, .host => false
  | _, _ => true

/-- R62 to R69: translate an address for an access of an address space from a core. -/
def xlate (s : State) (core asid : Nat) (n : Need) (va : Nat) : Xl :=
  if va ≥ 2 ^ 56 then { pa := none, causes := [0x10], entry := none }
  else
    match lookup s core asid va with
    | .unmapped => { pa := none, causes := [], entry := none }
    | .bound => { pa := none, causes := [0x12], entry := none }
    | .page t =>
      let pa := t.pa + (va - t.va)
      let tg := target pa
      let c1 := if t.sys && !(s.asid asid).sys then [0x04] else []
      let c2 := if tg = .none ∨ inBounds s (s.asid asid).fn pa = false then [0x12] else []
      let c3 := if permits t n && reaches tg n then [] else [0x11]
      { pa := some pa, causes := c1 ++ c2 ++ c3, entry := some t }

/-- R7, R66: a cache of `size` entries with one more: when it is full, one gives way (assumption 15). -/
def cacheAdd {α : Type} [DecidableEq α] (size n : Nat) (l : List α) (e : α) : List α :=
  if l.contains e then l else if l.length < size then e :: l else e :: l.eraseIdx (Config.victim n % size)

/-- R66: a core and its die cache the translations it used. -/
def fillTlb (s : State) (core : Nat) (es : List TlbEntry) : State :=
  let c := s.core core
  let d := s.die (dieOfCore core)
  let coreTlb := es.foldl (cacheAdd Config.coreTlb s.fresh) c.tlb
  let dieTlb := es.foldl (cacheAdd Config.dieTlb s.fresh) d.tlb
  let s1 := if coreTlb = c.tlb then s else s.setCore core { c with tlb := coreTlb }
  if dieTlb = d.tlb then s1 else s1.setDie (dieOfCore core) { d with tlb := dieTlb }

/-! ### Page-fault parks (R260, R261) -/

/-- R261: the KIND of a fault record. -/
def faultKind : Need → Nat
  | .read => 0 | .write => 1 | .atomic => 2 | .future => 2 | .futureWrite => 2 | .fetch => 3 | .copyRead => 4 | .copyWrite => 5 | .sendSource => 4
  | .sendTarget => 5

/-- The distinct unmapped 4 KiB pages of a list of addresses, each with the KIND of its record, ascending (R260). -/
def pagesOf (addrs : List (Nat × Nat)) : List (Nat × Nat) :=
  addrs.foldl (fun (m : NMap Nat) a => put m (a.1 / 4096 * 4096) a.2) []

/-- R260, R263: the parks of a die, those of its contexts that are out of their pavilions among them. -/
def parksOf (s : State) (die : Nat) : List ParkRec :=
  (s.contexts.filter (fun c => decide (c.die = die))).flatMap (fun c => c.parks) ++ (s.die die).parks

/-- R261: the next park identifier of a die that no park not yet answered has. -/
def freePark (s : State) (d : Nat) : Nat :=
  let used := (parksOf s d).map (fun p => p.id)
  (((List.range (used.length + 1)).map (fun i => ((s.die d).nextPark + i) % 65536)).find? (fun i => !(used.contains i))).getD 0

/-- R261: records of one park. -/
def parkPages : Nat := 96

/-- R260: a park is opened on a die, with one record for each page still to be written. Of a send that meets more than 96 unmapped pages the
park names the lowest 96; the others park the replay again (R261, R262, assumption 70). -/
def openPark (s : State) (core ent asid : Nat) (copy : Option (Nat × Nat)) (addrs : List (Nat × Nat)) : State × Nat :=
  let d := dieOfCore core
  let die := s.die d
  let id := freePark s d
  let pages := (pagesOf addrs).take parkPages
  let park : ParkRec :=
    { id := id, ent := ent, copy := copy, addrs := addrs.map (fun a => a.1), order := s.fresh, waiting := pages, asid := asid, core := core,
      total := pages.length }
  ({ (s.setDie d { die with nextPark := (id + 1) % 65536, parks := die.parks ++ [park] }) with fresh := s.fresh + 1 }, id)

/-- An entity parks on unmapped addresses, each with the KIND of its record. -/
def parkOn (s : State) (k asid : Nat) (lanes : Lanes) (addrs : List (Nat × Nat)) : State :=
  let r := openPark s (coreOfKey k) k asid none addrs
  r.1.modEnt k (fun e => { e.jump e.chainPc with fmask := lanes, park := .fault r.2, replay := true })

/-- R260: an entity parks on a page fault with its unfinished lanes; the run ends at the chain, which replays afterwards. -/
def parkEntity (s : State) (k asid : Nat) (n : Need) (lanes : Lanes) (addrs : List Nat) : State :=
  parkOn s k asid lanes (addrs.map (fun a => (a, faultKind n)))

end Sys2Proof.Machine
end

