-- ==== Sys2Proof/Machine/Operands.lean ====
section
/-! DEFINITION. Operand forms (R118 to R126, R131): registers and masks, register fields and their checks, prefixes and what accepts
them, and the one way every instruction word issues: scoreboard, checks in the order of R252, effect, end of the word. -/

namespace Sys2Proof.Machine

open Sys2Proof

/-! ### Registers (R17, R18, R98, R133, R153) -/

/-- 32 lanes of a beat. -/
def beatOf (m : Lanes) (b : Nat) : Word := (m >>> (32 * b)).setWidth 32

/-- A lane set with the 32 lanes of one beat replaced. -/
def setBeat (m : Lanes) (b : Nat) (v : Word) : Lanes :=
  (m &&& ~~~((0xFFFFFFFF#96) <<< (32 * b))) ||| (v.setWidth 96 <<< (32 * b))

/-- Scalar register n: s0 reads zero, s61 to s63 read the entity's mask (R17, R133). -/
def Entity.rS (e : Entity) (n : Nat) : Word :=
  if n = 0 then 0 else if n ≥ 61 then beatOf e.mask (n - 61) else (look e.sregs n).getD 0

/-- Write scalar register n: s0 discards, s61 to s63 set the mask within the ownership set (R18, R133). -/
def Entity.wS (e : Entity) (n : Nat) (v : Word) : Entity :=
  if n = 0 then e
  else if n ≥ 61 then { e with mask := setBeat e.mask (n - 61) (v &&& beatOf e.own (n - 61)) }
  else { e with sregs := put e.sregs n v }

/-- Pair(n) (R131). -/
def Entity.rPair (e : Entity) (n : Nat) : Dword := (e.rS (n + 1)) ++ (e.rS n)

/-- Write a pair: low word to the even register (R98). -/
def Entity.wPair (e : Entity) (n : Nat) (v : Dword) : Entity := (e.wS n (v.setWidth 32)).wS (n + 1) ((v >>> 32).setWidth 32)

/-- Write consecutive scalars from register n up. -/
def Entity.wMany (e : Entity) (n : Nat) : List Word → Entity
  | [] => e
  | v :: r => (e.wS n v).wMany (n + 1) r

/-- Lane i of vector register n (R153: zero until written). -/
def Wave.rV (v : Wave) (n i : Nat) : Word := ((look v.vregs n).getD []).getD i 0

/-- The pair of lane i at vector register n. -/
def Wave.rVPair (v : Wave) (n i : Nat) : Dword := (v.rV (n + 1) i) ++ (v.rV n i)

/-- Vector register n with the lanes of a set written. -/
def Wave.wV (v : Wave) (n : Nat) (act : Lanes) (f : Nat → Word) : Wave :=
  { v with vregs := put v.vregs n (laneList.map (fun i => if act.getLsbD i then f i else v.rV n i)) }

/-- A pair of vector registers with the lanes of a set written. -/
def Wave.wVPair (v : Wave) (n : Nat) (act : Lanes) (f : Nat → Dword) : Wave :=
  (v.wV n act (fun i => (f i).setWidth 32)).wV (n + 1) act (fun i => ((f i) >>> 32).setWidth 32)

/-- Predicate n: p0 reads all ones (R121). -/
def Wave.rP (v : Wave) (n : Nat) : Lanes := if n = 0 then BitVec.allOnes 96 else (look v.preds n).getD 0

/-- Predicate n with the lanes of a set written; a write to p0 is discarded (R153). -/
def Wave.wP (v : Wave) (n : Nat) (act : Lanes) (f : Nat → Bool) : Wave :=
  if n = 0 then v
  else { v with preds := put v.preds n (lanesOf (fun i => if act.getLsbD i then f i else (v.rP n).getLsbD i)) }

/-- RaiseFlags (R110, R117). -/
def Wave.raiseFlags (v : Wave) (f : Nat) : Wave := { v with fpstat := v.fpstat ||| BitVec.ofNat 32 (f % 32) }

/-! ### Register fields of a word (R120) -/

/-- The class of a register field. -/
inductive Cls where
  | s
  | v
  | p
  deriving DecidableEq, Repr

/-- A register field: class, first register, registers used from it up, and the multiple its index must be. -/
structure Operand where
  cls   : Cls
  n     : Nat
  len   : Nat
  align : Nat
  deriving DecidableEq, Repr

def oS (n : Reg) : Operand := { cls := .s, n := n.toNat, len := 1, align := 1 }
def oS2 (n : Reg) : Operand := { cls := .s, n := n.toNat, len := 2, align := 2 }
def oV (n : Reg) : Operand := { cls := .v, n := n.toNat, len := 1, align := 1 }
def oV2 (n : Reg) : Operand := { cls := .v, n := n.toNat, len := 2, align := 2 }
/-- Vector registers from n up. -/
def oVs (n len : Nat) : Operand := { cls := .v, n := n, len := len, align := 1 }
def oP (n : BitVec 3) : Operand := { cls := .p, n := n.toNat, len := 1, align := 1 }
/-- A group of scalar registers that starts at a multiple of its size. -/
def oGroup (n : Reg) (size : Nat) : Operand := { cls := .s, n := n.toNat, len := size, align := size }

/-- R16, R120, R259: a register field is legal in a wave of `vlimit` vector registers. -/
def Operand.ok (o : Operand) (vlimit : Nat) : Bool :=
  decide (o.n % o.align = 0) && (match o.cls with | .v => decide (o.n + o.len ≤ vlimit) | .s => decide (o.n + o.len ≤ 64) | .p => true)

/-! ### Prefixes (R122 to R125) -/

/-- Which non-zero XMOD fields and prefixes an instruction accepts (R123, R124); `ord` lists the ORD codes accepted. -/
structure Accept where
  pneg  : Bool := false
  rm    : Bool := false
  sat   : Bool := false
  scope : Bool := false
  ch    : Bool := false
  ord   : List Nat := []
  ximm  : Bool := false
  deriving DecidableEq, Repr

/-- R82, R124: an XMOD word whose fields the target accepts. -/
def Accept.xmodOk (a : Accept) (x : Xmod) : Bool :=
  (!x.pneg || a.pneg) && ((!x.rmv && decide (x.rm = 0)) || a.rm) && (!x.sat || a.sat) &&
  ((!x.scv && decide (x.scope = 0)) || (a.scope && decide (x.scope.toNat < 6))) &&
  (decide (x.ch = 0) || (a.ch && decide (x.ch ≠ 3))) && (decide (x.ord = 0) || a.ord.contains x.ord.toNat)

/-- R122: the target accepts every prefix of its chain. -/
def Accept.chainOk (a : Accept) (c : Chain) : Bool :=
  (match c.xmod with | none => true | some x => a.xmodOk x) && (match c.ximm with | none => true | some _ => a.ximm)

/-! ### Executing one word -/

/-- What a meaning sees: the state, the executing entity with its key, and its wave. -/
structure Ctx where
  s : State
  k : Nat
  e : Entity
  v : Wave

def Ctx.core (c : Ctx) : Nat := coreOfKey c.k
def Ctx.die (c : Ctx) : Nat := dieOfCore c.core
def Ctx.data (c : Ctx) : CoreData := (c.s.core c.core).data
def Ctx.block (c : Ctx) : Option Block := look c.s.blocks c.v.block
def Ctx.gang (c : Ctx) : Option Gang := c.block.bind (fun b => look c.s.gangs b.gang)
/-- R121, R176: the lanes that take part under the mask; a replay acts for the unfinished lanes only (R262). -/
def Ctx.lanes (c : Ctx) : Lanes := if c.e.replay then c.e.mask &&& c.e.fmask else c.e.mask
/-- PNEG of the chain's XMOD. -/
def Ctx.pneg (c : Ctx) : Bool := match c.e.chain.xmod with | some x => x.pneg | none => false
/-- q(i) of R142: the predicate, complemented under PNEG. -/
def Ctx.pred (c : Ctx) (p : BitVec 3) : Lanes := if c.pneg then ~~~(c.v.rP p.toNat) else c.v.rP p.toNat
/-- Active(i) of a V-format word (R131). -/
def Ctx.active (c : Ctx) (p : BitVec 3) : Lanes := c.lanes &&& c.pred p
/-- RMode() (R131). -/
def Ctx.rm (c : Ctx) : Nat :=
  match c.e.chain.xmod with | some x => if x.rmv then x.rm.toNat else c.e.fpctl.toNat % 4 | none => c.e.fpctl.toNat % 4
def Ctx.sat (c : Ctx) : Bool := match c.e.chain.xmod with | some x => x.sat | none => false
/-- EffScope(d) (R131). -/
def Ctx.scope (c : Ctx) (d : Nat) : Nat := match c.e.chain.xmod with | some x => if x.scv then x.scope.toNat else d | none => d
/-- XMOD ORD: 1 ACQ, 2 REL, 3 ACQREL. -/
def Ctx.ord (c : Ctx) : Nat := match c.e.chain.xmod with | some x => x.ord.toNat | none => 0
/-- Imm() of an I-format word (R123). -/
def Ctx.imm (c : Ctx) (i : BitVec 13) : Word :=
  match c.e.chain.ximm with | some x => BitVec.ofNat 32 (x.toNat % 2 ^ 19 * 2 ^ 13 + i.toNat) | none => i.signExtend 32
/-- The target TPC + 4 × Off() of a J-format word (R119, R123). -/
def Ctx.jtarget (c : Ctx) (o : BitVec 16) : Dword :=
  let off : Dword := match c.e.chain.ximm with
    | some x => (BitVec.ofNat 41 (x.toNat * 2 ^ 16 + o.toNat)).signExtend 64
    | none => o.signExtend 64
  c.e.pc + 4 * off

/-- Scalar registers of an entity that a result is still to be written to (R22). -/
def pendS (s : State) (k : Nat) : List Nat :=
  let reg := fun (ent : Nat) (r : Option (Nat × Option Nat)) (wide : Bool) => match r with
    | some (n, none) => if ent = k then (if wide then [n, n + 1] else [n]) else []
    | _ => []
  let eng := fun (q : EngineOp) => if q.ent = k ∧ q.kind = .bound then [q.reg] else []
  let data := (s.core (coreOfKey k)).data
  s.homeQ.flatMap (fun o => reg o.ent o.reg o.wide) ++ s.replies.flatMap (fun o => reg o.ent o.reg o.wide) ++
  s.bankQ.flatMap (fun o => reg o.ent o.reg o.wide) ++
  (data.queue ++ data.enroute ++ data.parts ++ (match data.run with | some r => [r.op] | none => [])).flatMap eng

/-- The lanes a reply brings values to. -/
def Reply.lanes (r : Reply) : List Nat :=
  match r.kind with
  | .load items _ _ _ => items.map (fun x => x.1)
  | _ => match r.reg with | some (_, some i) => [i] | _ => []

/-- Vector registers that a result for a lane of `own` of a wave is still to be written to (R22); each side of a pair has its own lanes (R23). -/
def pendV (s : State) (core w : Nat) (own : Lanes) : List Nat :=
  let reg := fun (wave : Nat) (r : Option (Nat × Option Nat)) (wide : Bool) (ls : List Nat) => match r with
    | some (n, some i) => if wave = w ∧ (i :: ls).any (fun x => own.getLsbD x) = true then (if wide then [n, n + 1] else [n]) else []
    | _ => []
  let eng := fun (q : EngineOp) => if q.wave = w ∧ q.kind = .read ∧ q.lanes &&& own ≠ 0 then (List.range q.n).map (fun j => q.reg + j) else []
  let pkt := fun (p : Packet) => if p.wave = w ∧ p.peer = none ∧ own.getLsbD p.lane = true then [p.reg] else []
  let data := (s.core core).data
  s.homeQ.flatMap (fun o => reg o.wave o.reg o.wide []) ++ s.replies.flatMap (fun o => reg o.wave o.reg o.wide o.lanes) ++
  s.bankQ.flatMap (fun o => reg o.wave o.reg o.wide []) ++
  (data.queue ++ data.enroute ++ data.parts ++ (match data.run with | some r => [r.op] | none => [])).flatMap eng ++
  s.packets.flatMap pkt ++ s.statuses.flatMap (fun m => pkt m.pkt)

/-- R22: a result for any lane of a wave is still to be written to one of `n` vector registers from `r` up, which a word reads or writes in every
lane (R36, R197). -/
def pendAll (s : State) (core w r n : Nat) : Bool := (pendV s core w (BitVec.allOnes 96)).any (fun x => decide (r ≤ x) && decide (x < r + n))

/-- The lanes an entity owns. -/
def ownLanes (s : State) (k : Nat) : Lanes := ((look s.ents k).map (fun e => e.own)).getD 0

/-- R22: a register field of the word is pending; a lane-wise word also reads the mask registers (R17). -/
def pendingHit (s : State) (k w : Nat) (ops : List Operand) : Bool :=
  let ps := pendS s k
  let pv := pendV s (coreOfKey k) w (ownLanes s k)
  ops.any (fun o => match o.cls with
    | .s => ps.any (fun r => decide (o.n ≤ r) && decide (r < o.n + o.len))
    | .v => pv.any (fun r => decide (o.n ≤ r) && decide (r < o.n + o.len)) || ps.any (fun r => decide (61 ≤ r))
    | .p => ps.any (fun r => decide (61 ≤ r)))

/-- What a word has in common with every other: its E bit (set for a word that always ends its run), its register fields, what it
accepts, whether it resets the hang count (R267); how many of its first fields it only writes, and of which lanes it reads a field, where that is
not of the active ones (R275). -/
structure Shape where
  e     : Bool
  ops   : List Operand
  acc   : Accept := {}
  prog  : Bool := false
  dst   : Nat := 0
  reads : Option (Ctx → Nat → Lanes) := none

/-! ### Poisoned registers (R275) -/

/-- The lanes in which a word acts: those of the mask and of the last predicate field that it reads, if it has one. -/
def Shape.act (sh : Shape) (c : Ctx) : Lanes :=
  match ((sh.ops.drop sh.dst).filter (fun o => decide (o.cls = .p))).getLast? with
  | some o => c.lanes &&& c.pred (BitVec.ofNat 3 o.n)
  | none => c.lanes

/-- R275: a granule that is read, or written, where a register field takes part in some lanes: a scalar register of the entity, those lanes of a vector
register, the beats of a predicate with a lane of the mask, or with all lanes when it is to be written whole. -/
def Operand.holds (o : Operand) (c : Ctx) (lanes : Lanes) (whole : Bool) (p : Poison) : Bool :=
  match o.cls, p with
  | .s, .scalar w k n => decide (w = c.e.wave) && decide (k = c.k) && decide (o.n ≤ n) && decide (n < o.n + o.len)
  | .v, .vector w n i => decide (w = c.e.wave) && decide (o.n ≤ n) && decide (n < o.n + o.len) && lanes.getLsbD i
  | .p, .predicate w n b => decide (w = c.e.wave) && decide (n = o.n) &&
      (if whole then decide (beatOf lanes b = 0xFFFFFFFF) else decide (beatOf c.lanes b ≠ 0))
  | _, _ => false

/-- R275: the first poisoned granule of a register that the word reads as a source. -/
def Shape.poisoned (sh : Shape) (c : Ctx) : Option Nat :=
  if c.s.poison.isEmpty then none
  else
    ((sh.ops.zipIdx).drop sh.dst).findSome? (fun x =>
      let lanes := match sh.reads with | some f => f c x.2 | none => sh.act c
      (c.s.poison.find? (x.1.holds c lanes false)).map Poison.place)

/-- R275: what the word writes whole is poisoned no more. -/
def Shape.cleans (sh : Shape) (c : Ctx) (s : State) : State :=
  s.clean (fun p => (sh.ops.take sh.dst).any (fun o => o.holds c (sh.act c) true p))

/-- What the effect of a word answers: it is done and the entity goes on after it; it has itself said where its entity stands; it
cannot issue yet (R22, R74, R194); or it traps on what only the effect could tell. -/
inductive Res where
  | done (s : State)
  | left (s : State)
  | stall
  | trap (t : Trap)

/-- A cause without lane or address. -/
def bare (cause : Nat) : Trap := { cause := cause, lane := 255, addr := 0 }

/-- R224: the word names a vector register of the generator's other side. -/
def genTraps (v : Wave) (k : Nat) (ops : List Operand) : List Trap :=
  match v.gen with
  | none => []
  | some g =>
    let consumer := g.consumer && !(g.held.contains k)
    if ops.any (fun o => match o.cls with
      | .v => if consumer then decide (o.n < 32) else decide (32 < o.n + o.len)
      | _ => false) then [bare 0x32] else []

/-- The causes that every word checks (R259): prefixes, register fields, generator registers. -/
def commonTraps (sh : Shape) (c : Ctx) : List Trap :=
  (if sh.acc.chainOk c.e.chain then [] else [bare 0x01]) ++
  (if sh.ops.all (fun o => o.ok c.v.vlimit) then [] else [bare 0x02]) ++ genTraps c.v c.k sh.ops

/-- A word that cannot issue yet: nothing happens but that its stall is counted from now (R268). -/
def noteStall (s : State) (k : Nat) : State := s.modEnt k (fun e => { e with stalled := some (e.stalled.getD s.now) })

/-- The entity goes on after its word. -/
def goOn (sh : Shape) (s : State) (k : Nat) : State :=
  s.modEnt k (fun e => ({ e with progress := e.progress || sh.prog }).retire sh.e)

/-- R275: what the registers that a legal word reads bring of poison: its granule, if its gang is to be contained. -/
def Shape.consumes (sh : Shape) (c : Ctx) : Option Nat := if (commonTraps sh c).isEmpty then sh.poisoned c else none

/-- Execute one word in context: scoreboard (R22), poison of its registers (R275), checks (R252), effect. -/
def runWord (sh : Shape) (chk : Ctx → List Trap) (act : Ctx → Res) (c : Ctx) : State :=
  if pendingHit c.s c.k c.e.wave sh.ops then noteStall c.s c.k
  else if let some g := sh.consumes c then consume c.s c.e.wave c.core 0 g
  else
    match firstTrap (commonTraps sh c ++ chk c) with
    | some t => raise c.s c.k t false c.e.chainPc
    | none =>
      match act c with
      | .done s => goOn sh (sh.cleans c s) c.k
      | .left s => s
      | .stall => noteStall c.s c.k
      | .trap t => raise c.s c.k t false c.e.chainPc

/-- The entity in focus executes a word; without one the word has nothing to act on (R17). -/
def issue (sh : Shape) (chk : Ctx → List Trap) (act : Ctx → Res) (s : State) : Out :=
  match s.focus with
  | none => .refused .noEntity
  | some k =>
    match look s.ents k with
    | none => .refused .noEntity
    | some e =>
      match look s.waves e.wave with
      | none => .refused .noEntity
      | some v => .next (runWord sh chk act { s := s, k := k, e := e, v := v })

/-- A word that only reads and writes registers of its entity and wave. -/
def regWord (sh : Shape) (chk : Ctx → List Trap) (f : Ctx → Entity × Wave) : State → Out :=
  issue sh chk (fun c => let r := f c; .done ((c.s.setEnt c.k r.1).setWave c.e.wave r.2))

/-- No check beyond the common ones. -/
def noChk : Ctx → List Trap := fun _ => []

/-- A word that writes scalar registers only, those of its first field. -/
def scalarWord (e : Bool) (ops : List Operand) (acc : Accept) (f : Ctx → Entity) : State → Out :=
  regWord { e := e, ops := ops, acc := acc, dst := 1 } noChk (fun c => (f c, c.v))

/-- A lane-wise word that writes vector registers, predicates or flags of its wave; what its first field holds it only writes. -/
def vectorWord (e : Bool) (ops : List Operand) (acc : Accept) (chk : Ctx → List Trap) (f : Ctx → Wave) : State → Out :=
  regWord { e := e, ops := ops, acc := acc, dst := 1 } chk (fun c => (c.e, f c))

/-- A lane-wise word that reads what it writes over. -/
def updateWord (e : Bool) (ops : List Operand) (acc : Accept) (f : Ctx → Wave) : State → Out :=
  regWord { e := e, ops := ops, acc := acc } noChk (fun c => (c.e, f c))

/-- A lane-wise word that reads its fields in other lanes than it writes. -/
def crossWord (e : Bool) (ops : List Operand) (reads : Ctx → Nat → Lanes) (chk : Ctx → List Trap) (f : Ctx → Wave) : State → Out :=
  regWord { e := e, ops := ops, acc := { pneg := true }, dst := 1, reads := some reads } chk (fun c => (c.e, f c))

/-- The entity is at an address with a new run. -/
def Ctx.goTo (c : Ctx) (pc : Dword) : State := c.s.setEnt c.k (c.e.jump pc)

/-- R267: the run holds something that resets the hang count. -/
def Ctx.progressed (c : Ctx) : Ctx := { c with e := { c.e with progress := true } }

/-- R233, R255: the entity parks at its chain, which it executes again from its start when it is ready. -/
def Ctx.park (c : Ctx) (p : Park) : State := c.s.setEnt c.k { c.e.uncounted.jump c.e.chainPc with park := p }

/-- The entity parks and goes on after its word when released (R145, R146, R93). -/
def Ctx.parkPast (c : Ctx) (p : Park) : State :=
  c.s.setEnt c.k { c.e.jump c.e.chainPc with park := p, resume := c.e.pc + 4 }

end Sys2Proof.Machine
end

