-- ==== Sys2Proof/Machine/Access.lean ====
section
/-! DEFINITION. Access to the four spaces (R61 to R81, R174 to R178): scratchpad frames and their owners, gang scratchpads, lane-wise
global accesses with their checks and parks, the strike buffer, and what orders the accesses of one entity (R83 to R86, R310). -/

namespace Sys2Proof.Machine

open Sys2Proof

/-! ### What an entity has under way -/

/-- The entity number under which the writes of a copy of a block are held (R76, R277). -/
def copyEnt (block tag : Nat) : Nat := 2 ^ 20 + 64 * block + tag

/-- The set of one lane; the scalar unit stands for none. -/
def laneBit (lane : Nat) : Lanes := if lane < 96 then 1#96 <<< lane else 0

/-- A write or operation that meets a test (entity, wave, place) has not reached its point of coherence: held in a core's strike buffer, or on
its way to a home or a bank. -/
def underWay (s : State) (core : Nat) (f : Nat → Nat → Nat → Bool) : Bool :=
  (s.core core).data.held.any (fun h => f h.ent h.wave h.serial) || s.homeQ.any (fun o => f o.ent o.wave o.serial) ||
  s.bankQ.any (fun o => f o.ent o.wave o.serial)

/-- R79, R84, R88: an operation of an entity, with the lanes it acts for, stays behind one of an earlier place: the entity's own, one that acts for
one of its lanes, or one whose writes the entity has behind it. -/
def comesFirst (s : State) (ent wave : Nat) (lanes : Lanes) (serial ent' wave' : Nat) (lanes' : Lanes) (serial' : Nat) : Bool :=
  decide (serial' < serial) &&
  ((decide (wave' = wave) && (decide (ent' = ent) || decide (lanes' &&& lanes ≠ 0))) ||
    ((look s.ents ent).map (fun e => decide (e.wave = wave) && e.seen.contains serial')).getD false)

/-- No load or atomic of the entity is still to be answered. -/
def answeredAll (s : State) (k w : Nat) : Bool := !(s.replies.any (fun o => decide (o.ent = k) && decide (o.wave = w)))

/-- R86, R184: no access of the entity, and no write that it has read on its core, is still on its way to its point of coherence. -/
def quiet (s : State) (k w : Nat) : Bool := !(underWay s (coreOfKey k) (ownOp s k w)) && answeredAll s k w

/-- R86, R277: an entity has read other entities' held writes of its core: they are kept for its releases while they are under way. -/
def observe (s : State) (k w : Nat) (new : List Nat) : State :=
  if new.isEmpty then s
  else
    let still := fun (x : Nat) => underWay s (coreOfKey k) (fun _ _ serial => decide (serial = x)) ||
      (hostWrites s).any (fun o => decide (o.serial = x))
    s.modEnt k (fun e => if e.wave = w then { e with seen := e.seen.filter still ++ new.filter (fun x => !(e.seen.contains x)) } else e)

/-- R86: an acquire of the entity has not returned: its later accesses wait. -/
def acquiring (s : State) (k w : Nat) : Bool :=
  s.homeQ.any (fun o => decide (o.ent = k) && decide (o.wave = w) && o.acq) ||
  s.bankQ.any (fun o => decide (o.ent = k) && decide (o.wave = w) && o.acq) ||
  s.replies.any (fun o => decide (o.ent = k) && decide (o.wave = w) && o.acq)

def Ctx.quiet (c : Ctx) : Bool := Machine.quiet c.s c.k c.e.wave
def Ctx.acquiring (c : Ctx) : Bool := Machine.acquiring c.s c.k c.e.wave

/-- R84: an operation of wave `w` is the entity's own, or acts for a lane that it owns (R23). -/
def forEnt (s : State) (k w ent wave : Nat) (lanes : Lanes) : Bool :=
  decide (wave = w) && (decide (ent = k) || decide (lanes &&& ownLanes s k ≠ 0))

/-- R310, R84: an access of the entity to this address must wait: an atomic or future operation on the line is not answered, or,
for a write, a load of the line has not returned. Loads of one line return in order (`loadTurn`). -/
def lineBusy (s : State) (k w : Nat) (write : Bool) (pa : Nat) : Bool :=
  s.homeQ.any (fun o => forEnt s k w o.ent o.wave o.lanes && decide (o.kind ≠ .store) && decide (o.addr / 64 = pa / 64)) ||
  s.replies.any (fun r => forEnt s k w r.ent r.wave (lanesOf (fun i => r.lanes.contains i)) && (match r.kind with
    | .load items _ _ _ => write && items.any (fun x => decide (x.2 / 64 = pa / 64)) | .value a _ => decide (a / 64 = pa / 64) | .ack => false))

/-- The two ends of a release (R86, R94, R309): it may go on, or it waits. -/
inductive Gate where
  | go (s : State)
  | wait (s : State)

/-- R91, R94: a release of the entity below PKG scope covers what its die's open epoch holds, and closes nothing. -/
def noteReleased (s : State) (k d : Nat) : State := s.modEnt k (fun e => { e with released := lastEpoch s d })

/-- R309: a release at SYS scope has closed its die's epoch at this clock, or waits for what it closed. -/
def awaitClock (s : State) (k : Nat) (clock : List Nat) : State := s.modEnt k (fun e => { e with await := clock })

/-- R86, R94, R184, R309: a release of the entity at a scope: every earlier access has reached its point of coherence; at PKG or SYS
scope the die's epoch closes; at SYS scope every die and the host have applied it, so that the host sees what is released before what follows. -/
def releaseGate (c : Ctx) (scope : Nat) : Gate :=
  if c.quiet = false then .wait c.s
  else if scope < 4 then .go (noteReleased c.s c.k c.die)
  else if scope = 5 then
    let s1 := if c.e.await.isEmpty then closeEpoch c.s c.die else c.s
    let clock := if c.e.await.isEmpty then (s1.die c.die).clock else c.e.await
    if appliedEverywhere s1 clock then .go (awaitClock s1 c.k []) else .wait (awaitClock s1 c.k clock)
  else .go (closeEpoch c.s c.die)

/-- Continue with a context whose state has moved on. -/
def Ctx.withState (c : Ctx) (s : State) : Ctx := { c with s := s }

/-- Continue behind a release, with what it has noted of the entity. -/
def Ctx.behind (c : Ctx) (s : State) : Ctx := { c with s := s, e := (look s.ents c.k).getD c.e }

/-- Run an effect behind a release. -/
def afterRelease (c : Ctx) (scope : Nat) (f : Ctx → Res) : Res :=
  match releaseGate c scope with
  | .go s => f (c.behind s)
  | .wait s => .left (noteStall s c.k)

/-- R283: the bits of the gangs whose committing operations have been sent. -/
def markSent (s : State) (core : Nat) : State :=
  (s.core core).crossed.foldl (fun s x =>
    if sent s core x.ent x.serial then s.modGang x.gang (fun g => { g with ie := g.ie || x.ie, iex := g.iex || x.iex }) else s) s

/-- R278, R283: the entity issues a committing operation. -/
def committed (c : Ctx) (s : State) (ie iex : Bool) : State :=
  let core := s.core c.core
  let x : Committing := { ent := c.k, serial := s.fresh, gang := (c.block.map (fun b => b.gang)).getD 0, ie := ie, iex := iex }
  markSent (s.setCore c.core { core with crossed := x :: core.crossed }) c.core

/-! ### Scratchpad (R71 to R74) -/

/-- Engine instructions a core knows of: running, queued, on their way. -/
def engineOps (d : CoreData) : List EngineOp := d.queue ++ d.enroute ++ d.parts ++ (match d.run with | some r => [r.op] | none => [])

/-- R74: frames held by copies and engine instructions, with whether the holder writes them. -/
def heldFrames (s : State) : List (Frame × Bool) :=
  s.cores.flatMap (fun e =>
    e.2.data.copies.flatMap (fun c => c.reads.map (fun f => (f, false)) ++ c.writes.map (fun f => (f, true))) ++
    (engineOps e.2.data).flatMap (fun o => o.reads.map (fun f => (f, false)) ++ o.writes.map (fun f => (f, true))))

/-- R74: the frame's owner bit reads engine. -/
def frameBusy (s : State) (core byte : Nat) : Bool := (heldFrames s).any (fun f => decide (f.1 = (core, byte / 1024)))

/-- R74, R277: a store to one of these frames is still held in the strike buffer of another core. -/
def storesPending (s : State) (fs : List Frame) : Bool :=
  s.cores.any (fun c => c.2.data.held.any (fun h => match h.dst with
    | .scratch x o => fs.any (fun f => decide (f.1 = x) && decide (f.2 * 1024 < o + h.data.length) && decide (o < f.2 * 1024 + 1024))
    | _ => false))

/-- R74: an engine instruction with these sets must stall at issue; so it does while a thread's store to one of its frames, which it must see,
is on its way from another core (assumption 71). -/
def setsBusy (s : State) (reads writes : List Frame) : Bool :=
  let held := heldFrames s
  writes.any (fun f => held.any (fun h => decide (h.1 = f))) || reads.any (fun f => held.any (fun h => decide (h.1 = f) && h.2)) ||
  storesPending s (reads ++ writes)

/-- Where a thread's scratchpad access goes: block, core, byte of the core's scratchpad; or the address is refused. -/
structure SpadAt where
  block : Nat
  core  : Nat
  byte  : Nat
  off   : Nat
  deriving DecidableEq, Repr

/-- R71: offset o of a block's allocation. -/
def spadAt (s : State) (block w o : Nat) : Option SpadAt :=
  match look s.blocks block with
  | none => none
  | some b => if o + w ≤ b.frames * 1024 then some { block := block, core := b.core, byte := b.frame * 1024 + o, off := o } else none

/-- R72: gang scratchpad address g of the block's gang. -/
def gangAt (s : State) (block w g : Nat) : Option SpadAt :=
  if bits g 28 4 ≠ 0 ∨ bits g 19 5 ≠ 0 then none
  else
    match (look s.blocks block).bind (fun b => look s.gangs b.gang) with
    | none => none
    | some q => match q.blocks[bits g 24 4]? with | none => none | some t => spadAt s t w (bits g 0 19)

/-- R224: the access touches a frame of an active generator's pleat buffer in that block. -/
def genTouched (s : State) (a : SpadAt) : Bool :=
  s.waves.any (fun w => decide (w.2.block = a.block) && (match w.2.gen with
    | some g => decide (g.buf ≤ a.off) && decide (a.off < g.buf + 2048)
    | none => false))

/-- The scratchpad address of a lane's value under the form (own scratchpad, or gang scratchpad). -/
def threadAt (c : Ctx) (gang : Bool) (w a : Nat) : Option SpadAt :=
  if gang then gangAt c.s c.v.block w a else spadAt c.s c.v.block w a

/-- R71, R72, R175, R224: the causes one lane's scratchpad access raises. -/
def spadTraps (c : Ctx) (gang : Bool) (w lane a : Nat) : List Trap :=
  let t := fun cause => ({ cause := cause, lane := lane, addr := a } : Trap)
  (if a % w = 0 then [] else [t 0x03]) ++
  (match threadAt c gang w (a / w * w) with
    | none => [t 0x12]
    | some p => if genTouched c.s p then [bare 0x32] else [])

/-- Writes to another core's scratchpad that this core still holds, oldest first (R277). -/
def scratchStores (s : State) (reader core : Nat) : List CoreStore :=
  (s.core reader).data.held.filterMap (fun h => match h.dst with
    | .scratch x o => if x = core then some { ent := h.ent, wave := h.wave, serial := h.serial, addr := o, data := h.data, bad := h.bad } else none
    | _ => none)

/-- Their offsets and bytes. -/
def heldScratch (s : State) (reader core : Nat) : List (Nat × List Byte) := (scratchStores s reader core).map (fun x => (x.addr, x.data))

/-- Little-endian value of `w` scratchpad bytes as a core's threads read them. -/
def spadRead (s : State) (reader : Nat) (p : SpadAt) (w : Nat) : Nat :=
  let m := (s.core p.core).data.scratch
  let h := if reader = p.core then [] else heldScratch s reader p.core
  leNat ((List.range w).map (fun i => (lastByte h (p.byte + i)).getD (rd m (p.byte + i))))

/-- R275: a granule of 8 bytes at `g` lies wholly in bytes written from `a`. -/
def wholeIn (g a n : Nat) : Bool := decide (a ≤ g) && decide (g + 8 ≤ a + n)

/-- R275: granules that a write of a scratchpad covers wholly lose their poison. -/
def cleanScratch (s : State) (core byte n : Nat) : State :=
  s.clean (fun p => match p with | .scratch c o => decide (c = core) && wholeIn o byte n | _ => false)

/-- R275: the same in the Orangery. -/
def cleanOrng (s : State) (off n : Nat) : State := s.clean (fun p => match p with | .orangery o => wholeIn o off n | _ => false)

/-- R274: the granules of 8 bytes that `n` bytes from an address lie in. -/
def granules (a n : Nat) : List Nat := ((List.range (n / 8 + 2)).map (fun i => a / 8 * 8 + 8 * i)).filter (fun g => decide (g < a + n))

/-- R274, R275: the lowest poisoned granule of bytes of a scratchpad or of the Orangery, and the line of an address in memory when poisoned. -/
def scratchPoison (s : State) (core byte n : Nat) : Option Nat := (granules byte n).find? (fun g => s.poison.contains (.scratch core g))
def orngPoison (s : State) (off n : Nat) : Option Nat := (granules off n).find? (fun g => s.poison.contains (.orangery g))
def memPoison (s : State) (a : Nat) : Option Nat := if s.poison.contains (.memory (a / 64 * 64)) then some (a / 64 * 64) else none

/-- R275: the poison that a core's threads meet in bytes of a scratchpad. -/
def spadMeets (s : State) (reader core byte n : Nat) : Option Nat :=
  meetsPoison (if reader = core then [] else scratchStores s reader core) byte n (fun b => scratchPoison s core b 1)

/-- R275: `n` bytes from `g` all lie in accesses of `w` bytes at these addresses. -/
def coveredBy (as : List Nat) (w g n : Nat) : Bool :=
  (List.range n).all (fun i => as.any (fun a => decide (a ≤ g + i) && decide (g + i < a + w)))

/-- R275: what some writes of `w` bytes to a core's scratchpad, made as one access, cover wholly between them. -/
def cleanAccess (s : State) (core : Nat) (as : List Nat) (w : Nat) : State :=
  s.clean (fun p => match p with | .scratch c o => decide (c = core) && coveredBy as w o 8 | _ => false)

/-- A write of `n` bytes at cycle `now` beside the earlier ones of the strike window, newest first; it joins the newest when it follows it at once. -/
def noteWrite (now byte n : Nat) (l : List (Nat × Nat × Nat)) : List (Nat × Nat × Nat) :=
  match l.filter (fun r => decide (now < r.1 + Config.strikeWindow)) with
  | (t, b, k) :: rest => if t = now ∧ b + k = byte then (t, b, k + n) :: rest else (now, byte, n) :: (t, b, k) :: rest
  | [] => [(now, byte, n)]

/-- Scratchpad bytes written in place by their own core, provisional for the strike window (R277, R278). -/
def spadWrite (s : State) (core byte : Nat) (data : List Byte) : State :=
  let s1 := cleanScratch s core byte data.length
  let c := s1.core core
  s1.setCore core { c with
    data := { c.data with scratch := wrBytes c.data.scratch byte data }
    recent := noteWrite s.now byte data.length c.recent }

/-- A fresh place in program order. -/
def State.bump (s : State) : State := { s with fresh := s.fresh + 1 }

/-- R277: a write that leaves a core is held in its strike buffer, under the place in program order of the next access. -/
def holdAt (s : State) (core ent w : Nat) (lanes : Lanes) (dst : HeldAt) (data : List Byte) (bad : Bool := false) : State :=
  let d := (s.core core).data
  let h : HeldWrite :=
    { ent := ent, wave := w, lanes := lanes, serial := s.fresh, time := s.now, dst := dst, data := data, dep := depOf s core ent, bad := bad }
  s.setData core { d with held := d.held ++ [h] }

/-- The same as an access of its own. -/
def holdFor (s : State) (core ent w : Nat) (lanes : Lanes) (dst : HeldAt) (data : List Byte) : State :=
  (holdAt s core ent w lanes dst data).bump

/-- A write of a lane, or of the scalar unit (255), of an entity that leaves its core. -/
def holdWrite (s : State) (k w lane : Nat) (dst : HeldAt) (data : List Byte) : State := holdFor s (coreOfKey k) k w (laneBit lane) dst data

/-- R154: a lane's store to its own core's scratchpad, which a cut within the instruction's three beats may take back. -/
def noteYoung (s : State) (k w lane : Nat) (p : SpadAt) (n : Nat) : State :=
  let c := s.core p.core
  let y : YoungStore :=
    { ent := k, wave := w, time := s.now, beat := writeBeat (laneBit lane), byte := p.byte, old := rdBytes c.data.scratch p.byte n }
  s.setCore p.core { c with young := y :: c.young.filter (fun x => decide (s.now < x.time + 3)) }

/-- One lane of a thread's scratchpad store: in place on its own core, through the strike buffer to another (R277). -/
def threadStore (s : State) (k w lane : Nat) (p : SpadAt) (data : List Byte) : State :=
  if p.core = coreOfKey k then spadWrite (noteYoung s k w lane p data.length) p.core p.byte data
  else holdAt s (coreOfKey k) k w (laneBit lane) (.scratch p.core p.byte) data

/-- R278: bytes of a core's scratchpad are provisional. -/
def provisional (s : State) (core byte n : Nat) : Bool :=
  (s.core core).recent.any (fun r => decide (s.now < r.1 + Config.strikeWindow) && decide (r.2.1 < byte + n) && decide (byte < r.2.1 + r.2.2))

/-- A read of another core's provisional scratchpad bytes is noted for that core's strikes (R278). -/
def noteLink (s : State) (reader core byte n : Nat) : State :=
  if reader ≠ core ∧ provisional s core byte n = true then { s with links := (reader, core, s.now) :: s.links } else s

/-! ### Resources of a core (R7, R33, R241) -/

/-- Vector registers of a core: 768 KiB in registers of 384 bytes (R7, R237). -/
def coreRegs : Nat := 2048

/-- A block is resident: its gang is not swapped out (R244). -/
def resident (s : State) (b : Block) : Bool := match look s.gangs b.gang with | some g => g.valid | none => false

/-- The waves resident on a core that have not ended. -/
def wavesOn (s : State) (core : Nat) : List (Nat × Wave) :=
  s.waves.filter (fun w => !w.2.ended && (match look s.blocks w.2.block with | some b => decide (b.core = core) && resident s b | none => false))

/-- R33: a parent whose registers and fetch slot stand in a spill area. -/
def isSpilled (s : State) (w : Nat) : Bool := s.spilled.any (fun p => decide (p.waveId = w))

/-- Parents spilled to a spill area keep no registers and no fetch slot (R33). -/
def regsUsed (s : State) (core : Nat) : Nat :=
  (wavesOn s core).foldl (fun n w => if isSpilled s w.1 then n else n + w.2.vlimit) 0

/-- Fetch slots of a core in use. -/
def slotsUsed (s : State) (core : Nat) : Nat := (s.ents.filter (fun e => decide (coreOfKey e.1 = core))).length

/-- R33: child waves an owner's reserve on a core holds now, and the registers of each. -/
def reserveLeft (s : State) (core : Nat) (own : Owner) : Nat × Nat :=
  let used := ((wavesOn s core).filter (fun w => w.2.reserved && !(isSpilled s w.1) && decide (w.2.owner = own))).length
  match own with
  | .launch l => match look s.launches l with
    | some v => (v.record.cres - used, v.record.vregs)
    | none => (0, 0)
  | .tree _ => (0, 0)

/-- R33: the same for a receive queue, whose reserve its handler waves and their descendants share. -/
def rxReserveLeft (s : State) (core prio : Nat) : Nat × Nat :=
  match look s.rxqs prio with
  | none => (0, 0)
  | some q =>
    if q.pav ≠ pavOfCore core then (0, 0)
    else
      let isOf := fun (o : Owner) => match o with
        | .tree t => match look s.trees t with | some v => decide (v.rxq = prio) | none => false
        | .launch _ => false
      (q.cres - ((wavesOn s core).filter (fun w => w.2.reserved && !(isSpilled s w.1) && isOf w.2.owner)).length, q.vregs)

/-- Launches with blocks on a core. -/
def launchesOn (s : State) (core : Nat) : List Nat :=
  ((wavesOn s core).filterMap (fun w => match w.2.kind, w.2.owner with | .block, .launch l => some l | _, _ => none)).eraseDups

/-- R33: reserves kept on a core: fetch slots and registers. -/
def reservesOn (s : State) (core : Nat) : Nat × Nat :=
  let rs := (launchesOn s core).map (fun l => reserveLeft s core (.launch l)) ++ (List.range 4).map (rxReserveLeft s core)
  rs.foldl (fun a r => (a.1 + r.1, a.2 + r.1 * r.2)) (0, 0)

/-- R33, R241: fetch slots and registers of a core that no wave uses and no reserve keeps. -/
def ordinaryFree (s : State) (core : Nat) : Int × Int :=
  let r := reservesOn s core
  ((32 : Int) - slotsUsed s core - r.1, (coreRegs : Int) - regsUsed s core - r.2)

/-- R33, R241: fetch slots and registers of a core for a block of a launch, its own reserve kept. -/
def blockFree (s : State) (l : Nat) (v : Launch) (core : Nat) : Int × Int :=
  let f := ordinaryFree s core
  if (launchesOn s core).contains l then f else (f.1 - v.record.cres, f.2 - v.record.cres * v.record.vregs)

/-- Blocks of launches resident on a core. -/
def blocksOn (s : State) (core : Nat) : List (Nat × Block) :=
  s.blocks.filter (fun b => decide (b.2.core = core) && resident s b.2 && decide (b.2.lin ≠ 0xFFFFFFFF))

/-- The waves of the blocks that a core holds, those that have ended in a block that has not gone among them (R41, R242). -/
def wavesHeld (s : State) (core : Nat) : List (Nat × Wave) :=
  s.waves.filter (fun w => match look s.blocks w.2.block with | some b => decide (b.core = core) && resident s b | none => false)

/-- R192, R241: the core holds nothing of another address space: no block, and no engine instruction. -/
def asidFree (s : State) (core asid : Nat) : Bool :=
  (wavesHeld s core).all (fun w => decide (w.2.asid = asid)) && (engineOps (s.core core).data).all (fun o => decide (o.asid = asid))

/-- R192, R281: the core holds no block. -/
def coreEmpty (s : State) (core : Nat) : Bool := (wavesHeld s core).isEmpty

/-- R241: the lowest free fetch slot of the first issue slot from j mod 4 on that has one, as an entity key. -/
def fetchSlot (used : List Nat) (core j : Nat) : Option Nat :=
  ((List.range 4).flatMap (fun i => (List.range 8).map (fun f => 32 * core + 8 * ((j + i) % 4) + f))).find? (fun k => !(used.contains k))

/-- R241: a fetch slot for each of n waves. -/
def fetchSlots (core : Nat) : Nat → Nat → List Nat → Option (List Nat)
  | 0, _, _ => some []
  | n + 1, j, used => match fetchSlot used core j with
    | none => none
    | some k => (fetchSlots core n (j + 1) (k :: used)).map (fun r => k :: r)

/-- R277: the strike window reaches back to this state. -/
def inWindow256 (s : State) (h : CoreSnap) : Bool := decide (s.now < h.time + Config.strikeWindow)

/-- Fetch slots in use, as keys; one that an entity has left is free for a new wave once no strike can bring the entity back (R277). -/
def usedKeys (s : State) : List Nat :=
  s.ents.map (fun e => e.1) ++ (s.hist.filter (inWindow256 s)).flatMap (fun h => h.ents.map (fun e => e.1))

/-! ### Provisional states (R277) -/

/-- The provisional states of a core, newest first. -/
def snapsOf (s : State) (core : Nat) : List CoreSnap := s.hist.filter (fun h => decide (h.core = core) && inWindow256 s h)

/-- R275: a granule of a core's own arrays: scratchpad, tiles, registers and predicates of its waves. -/
def ofOwnArrays (s : State) (core : Nat) (p : Poison) : Bool :=
  p.ofCore (fun c => decide (c = core)) ||
  p.ofWave (fun w => ((look s.waves w).bind (fun v => (look s.blocks v.block).map (fun b => decide (b.core = core)))).getD false)

/-- The poison of a core's own arrays. -/
def ownPoison (s : State) (core : Nat) : List Poison := s.poison.filter (ofOwnArrays s core)

/-- What a core is before something happens in it that a strike could undo. -/
def snapshot (s : State) (core : Nat) : CoreSnap :=
  let c := s.core core
  let blocks := s.blocks.filter (fun b => decide (b.2.core = core) && resident s b.2)
  { core := core, time := s.now, serial := s.fresh, data := c.data, holder := c.holder, lastSlot := c.lastSlot,
    ents := s.ents.filter (fun e => decide (coreOfKey e.1 = core)),
    waves := s.waves.filter (fun w => (look blocks w.2.block).isSome && !w.2.ended), blocks := blocks, poison := ownPoison s core }

/-- What the strike window no longer needs is dropped: old provisional states and reads, and committing operations already sent. -/
def prune (s : State) (core : Nat) : State :=
  let hist := s.hist.filter (inWindow256 s)
  let first := ((hist.filter (fun h => decide (h.core = core))).getLast?.map (fun h => h.serial)).getD s.fresh
  let c := s.core core
  let crossed := c.crossed.filter (fun x => decide (first ≤ x.serial) || !(sent s core x.ent x.serial))
  let links := s.links.filter (fun l => decide (s.now < l.2.2 + Config.strikeWindow))
  let s1 := { s with hist := hist, links := links }
  if crossed = c.crossed then s1 else s1.setCore core { c with crossed := crossed }

/-- The state before a word of a core, or before a step of its engine or copies, which a strike may bring back. -/
def remember (s : State) (core : Nat) : State :=
  let t := prune s core
  { t with hist := snapshot t core :: t.hist }

/-- The same for several cores. -/
def rememberAll (s : State) (cores : List Nat) : State := cores.foldl remember s

/-- No strike can bring back a state in which the entity does not stand where it is parked now. -/
def parkedFor (s : State) (k : Nat) (e : Entity) : Bool :=
  (snapsOf s (coreOfKey k)).all (fun h => match look h.ents k with | some x => decide (x.wave ≠ e.wave) || decide (x.park = e.park) | none => true)

/-- An entity that has gone for good leaves the states a strike may bring back. -/
def forget (s : State) (k : Nat) : State := { s with hist := s.hist.map (fun h => { h with ents := erase h.ents k }) }

/-! ### Memory types (R130, R175) -/

/-- Access size of a memory type code. -/
def typeSize (t : Nat) : Nat := match t with | 0 => 1 | 1 => 1 | 2 => 2 | 3 => 2 | 4 => 4 | _ => 8

/-- .I8 and .I16 sign-extend. -/
def typeSigned (t : Nat) : Bool := decide (t = 0) || decide (t = 2)

/-- A loaded value of `n` bytes as a register holds it (R98, R175). -/
def extend (n : Nat) (signed : Bool) (x : Nat) : Dword :=
  if signed then BitVec.ofInt 64 (if n = 4 ∨ n = 8 then (x : Int) else sext (8 * n) x) else BitVec.ofNat 64 x

/-- The D field of a memory form: one register or a pair (R174, R177). -/
def dField (vec : Bool) (t : Nat) (d : Reg) : Operand :=
  if vec then (if t = 5 then oV2 d else oV d) else (if t = 5 then oS2 d else oS d)

/-! ### Global accesses of lanes (R66, R174 to R180, R260) -/

/-- One lane's global access; lane 255 stands for the scalar unit. -/
structure LaneAcc where
  lane : Nat
  va   : Nat
  deriving DecidableEq, Repr

/-- The causes a list of accesses raises, in lane order (R252). -/
def globalTraps (c : Ctx) (n : Need) (w : Nat) (as : List LaneAcc) : List Trap :=
  as.flatMap (fun a =>
    (if a.va % w = 0 then [] else [({ cause := 0x03, lane := a.lane, addr := a.va } : Trap)]) ++
    (xlate c.s c.core c.v.asid n a.va).causes.map (fun x => { cause := x, lane := a.lane, addr := a.va }))

/-- The accesses whose pages are mapped, with their physical addresses, and those whose pages are not. -/
def mappedOf (c : Ctx) (n : Need) (as : List LaneAcc) : List (LaneAcc × Nat) :=
  as.filterMap (fun a => (xlate c.s c.core c.v.asid n a.va).pa.map (fun p => (a, p)))
def unmappedOf (c : Ctx) (n : Need) (as : List LaneAcc) : List LaneAcc :=
  as.filter (fun a => (xlate c.s c.core c.v.asid n a.va).pa.isNone)
def entriesOf (c : Ctx) (n : Need) (as : List LaneAcc) : List TlbEntry :=
  as.filterMap (fun a => (xlate c.s c.core c.v.asid n a.va).entry)

/-- The lanes of a list of accesses. For the scalar unit, whose FMASK the rules do not give, it is the whole mask, as R260 gives it for a fetch
and for WSEND (assumption 72). -/
def laneSet (c : Ctx) (as : List LaneAcc) : Lanes :=
  if as.any (fun a => decide (a.lane = 255)) then c.e.mask else lanesOf (fun i => as.any (fun a => decide (a.lane = i)))

/-- R176, R260: the lanes of mapped pages are under way; the word is executed once more for the others when they have finished. -/
def finishFirst (s : State) (k : Nat) (rest : Lanes) : State :=
  noteStall (s.modEnt k (fun e => { e with replay := true, fmask := rest, parking := true })) k

/-- R176, R260, R310: perform the accesses of mapped pages, which stand in lane order, and go on; or, with lanes in unmapped pages, park with these
when the others have finished. -/
def globalWord (c : Ctx) (n : Need) (write : Bool) (as : List LaneAcc) (perform : State → List (LaneAcc × Nat) → State) : Res :=
  let ok := mappedOf c n as
  let park := fun (u : List LaneAcc) => Res.left (parkEntity c.s c.k c.v.asid n (laneSet c u) (u.map (fun a => a.va)))
  if c.acquiring || ok.any (fun a => lineBusy c.s c.k c.e.wave write a.2) then .stall
  else if c.e.parking then park as
  else
    let s2 := perform (fillTlb c.s c.core (entriesOf c n as)) ok
    match unmappedOf c n as with
    | [] => .done s2
    | u => if ok.isEmpty then park u else .left (finishFirst s2 c.k (laneSet c u))

/-- Lane-wise global addresses: Pair(A) + V[B][i], for the lanes of a set (R174). -/
def laneAddrs (c : Ctx) (act : Lanes) (a b : Reg) : List LaneAcc :=
  (lanesIn act).map (fun i => { lane := i, va := ((c.e.rPair a.toNat).toNat + (c.v.rV b.toNat i).toNat) % 2 ^ 64 })

/-- R66: the accesses of a word, those of one 64-byte line as one access, in lane order, lines in the order of their first lanes. -/
def eachLine (f : State → LaneAcc → Nat → State) (s : State) (as : List (LaneAcc × Nat)) : State :=
  ((as.map (fun a => a.2 / 64)).eraseDups).foldl (fun s line =>
    State.bump ((as.filter (fun a => decide (a.2 / 64 = line))).foldl (fun s a => f s a.1 a.2) s)) s

/-- R64, R81, R309: the line of an access may be held in the core's L1. -/
def cacheable (c : Ctx) (a : LaneAcc) (pa : Nat) : Bool :=
  ((xlate c.s c.core c.v.asid .read a.va).entry.map (fun t => t.cached)).getD false && decide (target pa ≠ .host)

/-- R94: what the reply of another die's home brings with it: the home's applied clock. -/
def homeClock (s : State) (d pa : Nat) : List Nat :=
  match homeDie pa with | some x => if x = d then [] else (s.die x).clock | none => []

/-- A load's request for one line, for the lanes, or the scalar unit, whose addresses fall in it (R66, R178). An acquire does not use the
core's L1 (R87). -/
def lineRequest (c : Ctx) (t : Nat) (acq : Bool) (d : Nat) (as : List (LaneAcc × Nat)) (s : State) (line : Nat) : State :=
  let mine := as.filter (fun a => decide (a.2 / 64 = line))
  let lane := ((mine.head?).map (fun a => a.1.lane)).getD 255
  let r : Reply :=
    { core := c.core, ent := c.k, wave := c.e.wave, serial := s.fresh, reg := some (d, if lane = 255 then none else some lane),
      wide := decide (t = 5), needs := homeClock s c.die (64 * line), acq := acq,
      kind := .load (mine.map (fun a => (a.1.lane, a.2))) (typeSize t) (typeSigned t) (mine.all (fun a => cacheable c a.1 a.2)) }
  { s with replies := s.replies ++ [r] }.bump

/-- R66, R178: the requests of a load, one for each line that its lanes touch. -/
def loadRequest (c : Ctx) (t : Nat) (acq : Bool) (d : Nat) (s : State) (as : List (LaneAcc × Nat)) : State :=
  ((as.map (fun a => a.2 / 64)).eraseDups).foldl (lineRequest c t acq d as) s

/-- A store of one lane or of the scalar unit into the strike buffer. -/
def storeHeld (c : Ctx) (t : Nat) (value : LaneAcc → Nat) (s : State) (a : LaneAcc) (pa : Nat) : State :=
  holdAt s c.core c.k c.e.wave (laneBit a.lane) (.memory pa) (leBytes (typeSize t) (value a))

end Sys2Proof.Machine
end

