-- ==== Sys2Proof/Machine/Atomic.lean ====
section
/-! DEFINITION. Global atomics and Orangery instructions (R78 to R80, R179 to R183): majors 0x25 and 0x26. The operations themselves are
performed at their homes (`execHomeOperation`, `execBankOperation`). -/

namespace Sys2Proof.Machine

open Sys2Proof

/-! ### The operations (R130, R179) -/

/-- Access size of an atomic operation. -/
def atomSize (op : Nat) : Nat := if 11 ≤ op then 8 else 4

/-- ADD.F32 (R179): RNE, no flag. -/
def addF32 (a b : Dword) : Dword := BitVec.ofNat 64 (Fmt.f32.add 0 (a.toNat % 2 ^ 32) (b.toNat % 2 ^ 32)).1

/-- A 32-bit operation on the low words of two values. -/
def on32 (f : Word → Word → Word) (a b : Dword) : Dword := (f (a.setWidth 32) (b.setWidth 32)).setWidth 64

/-- R179: what is stored for old value `m`, operand `v` (for CAS the new value) and compare value `c`. -/
def atomNew (op : Nat) (m v c : Dword) : Dword :=
  match op with
  | 0 => on32 (fun a b => a + b) m v
  | 1 => on32 (fun a b => if b.slt a then b else a) m v
  | 2 => on32 (fun a b => if a.slt b then b else a) m v
  | 3 => on32 (fun a b => if b.ult a then b else a) m v
  | 4 => on32 (fun a b => if a.ult b then b else a) m v
  | 5 => m &&& v
  | 6 => m ||| v
  | 7 => m ^^^ v
  | 8 => v
  | 9 => if m = c then v else m
  | 10 => addF32 m v
  | 11 => m + v
  | 12 => v
  | _ => if m = c then v else m

/-- R179: the operand registers at D. -/
def atomField (vec : Bool) (op : Nat) (d : Reg) : Operand :=
  let len := match op with | 9 => 2 | 11 => 2 | 12 => 2 | 13 => 4 | _ => 1
  { cls := if vec then .v else .s, n := d.toNat, len := len, align := len }

/-- R179: operand and compare value of an atomic, from a reader of 32-bit registers from D up. -/
def atomArgs (op : Nat) (r : Nat → Word) : Dword × Dword :=
  match op with
  | 9 => ((r 1).setWidth 64, (r 0).setWidth 64)
  | 11 => (r 1 ++ r 0, 0)
  | 12 => (r 1 ++ r 0, 0)
  | 13 => (r 3 ++ r 2, r 1 ++ r 0)
  | _ => ((r 0).setWidth 64, 0)

/-! ### Global atomics -/

/-- The operand of one access: a lane's registers, or the scalar unit's. -/
def atomRead (c : Ctx) (d : Reg) (lane : Nat) (j : Nat) : Word := if lane = 255 then c.e.rS (d.toNat + j) else c.v.rV (d.toNat + j) lane

/-- An atomic on its way to its home (R88, R310). -/
def sendAtomic (c : Ctx) (d : Reg) (op : Nat) (acq : Bool) (s : State) (a : LaneAcc) (pa : Nat) : State :=
  let x := atomArgs op (atomRead c d a.lane)
  let o : HomeOp :=
    { core := c.core, ent := c.k, wave := c.e.wave, serial := s.fresh, kind := .atom op x.1 x.2, addr := pa, data := [],
      dep := (s.die c.die).clock, acq := acq, lanes := laneBit a.lane, reg := some (d.toNat, if a.lane = 255 then none else some a.lane),
      wide := decide (11 ≤ op) }
  let s1 := committed c s true true
  { s1 with homeQ := s1.homeQ ++ [o] }

/-- R179, R180: an atomic word; `q` is its ordering (1 ACQ, 2 REL, 3 ACQREL). -/
def atomicWord (vec : Bool) (e : Bool) (d a b : Reg) (q : BitVec 2) (op : BitVec 4) (addrs : Ctx → List LaneAcc) : State → Out :=
  issue { e := e, ops := [atomField vec op.toNat d, oS2 a, if vec then oV b else oS b], acc := { scope := true }, prog := true }
    (fun c => globalTraps c .atomic (atomSize op.toNat) (addrs c))
    (fun c =>
      let go := fun (c : Ctx) => globalWord c .atomic true (addrs c) (eachLine (sendAtomic c d op.toNat (decide (q.toNat % 2 = 1))))
      if 2 ≤ q.toNat then afterRelease c (c.scope 4) go else go c)

/-- R179, R180. -/
def execVatom (e : Bool) (d a b : Reg) (q : BitVec 2) (c : BitVec 4) (s : State) : Out :=
  atomicWord true e d a b q c (fun x => laneAddrs x x.lanes a b) s

/-- R179. -/
def execSatom (e : Bool) (d a b : Reg) (q : BitVec 2) (c : BitVec 4) (s : State) : Out :=
  atomicWord false e d a b q c
    (fun x => [{ lane := 255, va := ((x.e.rPair a.toNat).toNat + (x.e.rS b.toNat).toNat) % 2 ^ 64 }]) s

/-! ### The Orangery (R78) -/

/-- R78: the die of an offset's bank. -/
def orngDie (o : Nat) : Nat := o / 2 ^ 21 % 8

/-- R78: offsets never open to programs. -/
def orngClosed (o : Nat) : Bool := decide (0x28000000 ≤ o) || (decide (0x27000000 ≤ o) && decide (o < 0x27200000))

/-- R78: the code of an offset's unit for an address space. -/
def orngCode (s : State) (asid o : Nat) : Nat := (look (s.asid asid).units (o / 2 ^ 21)).getD 0

/-- R181: the causes of one access to the Orangery: alignment, closed offsets, unit code. -/
def orngTraps (s : State) (asid lane o size : Nat) (codes : List Nat) : List Trap :=
  let t := fun cause => ({ cause := cause, lane := lane, addr := o } : Trap)
  (if o % size = 0 then [] else [t 0x03]) ++
  (if orngClosed o then [t 0x12] else if codes.contains (orngCode s asid o) then [] else [t 0x11])

/-- One lane's Orangery access. -/
structure OffAcc where
  lane : Nat
  off  : Nat
  deriving DecidableEq, Repr

/-- R181: the offsets of the active lanes. -/
def orngAddrs (c : Ctx) (a b : Reg) : List OffAcc :=
  (lanesIn c.lanes).map (fun i => { lane := i, off := (c.e.rS a.toNat + c.v.rV b.toNat i).toNat })

/-- R181: the causes of the lanes of an Orangery word. -/
def orngLaneTraps (c : Ctx) (a b : Reg) (size : Nat) (codes : List Nat) : List Trap :=
  (orngAddrs c a b).flatMap (fun x => orngTraps c.s c.v.asid x.lane x.off size codes)

/-- R181: the checks of ORED and ORDX: once, on S[A], when a lane is active. -/
def orngCellTraps (c : Ctx) (a : Reg) (size : Nat) : List Trap :=
  match lanesIn c.lanes with
  | [] => []
  | i :: _ => orngTraps c.s c.v.asid i (c.e.rS a.toNat).toNat size [2]

/-- An operation on its way to a bank, for some lanes, or for the scalar unit. -/
def sendBank (c : Ctx) (s : State) (lanes : Lanes) (off : Nat) (kind : BankKind) (reg : Option (Nat × Option Nat)) (wide acq : Bool) : State :=
  let o : BankOp :=
    { ent := c.k, wave := c.e.wave, core := c.core, serial := s.fresh, lanes := lanes, off := off, kind := kind, reg := reg, wide := wide, acq := acq,
      dep := depOf s c.core c.k }
  State.bump { s with bankQ := s.bankQ ++ [o] }

/-- An Orangery word, that only writes its first `dst` fields: it waits for an acquire of the entity (R86), and behind a release (R86). -/
def orngWord (e : Bool) (ops : List Operand) (dst : Nat) (ord : List Nat) (chk : Ctx → List Trap) (act : Ctx → State) : State → Out :=
  issue { e := e, ops := ops, acc := { scope := true, ord := ord }, prog := true, dst := dst } chk
    (fun c =>
      if c.acquiring then .stall
      else if 2 ≤ c.ord then afterRelease c (c.scope 4) (fun c => .done (act c)) else .done (act c))

/-- ORD carries an acquire. -/
def Ctx.acq (c : Ctx) : Bool := decide (c.ord % 2 = 1)

/-- R181: OLD. -/
def execOld (e : Bool) (d a b : Reg) (t : BitVec 4) (s : State) : Out :=
  orngWord e [dField true t.toNat d, oS a, oV b] 1 [1] (fun c => orngLaneTraps c a b (typeSize t.toNat) [1, 2])
    (fun c => (orngAddrs c a b).foldl (fun s x =>
      sendBank c s (laneBit x.lane) x.off (.load (typeSize t.toNat) (typeSigned t.toNat)) (some (d.toNat, some x.lane)) (decide (t = 5)) c.acq) c.s) s

/-- R181: OST, through the strike buffer (R277). -/
def execOst (e : Bool) (d a b : Reg) (t : BitVec 4) (s : State) : Out :=
  orngWord e [dField true t.toNat d, oS a, oV b] 0 [2] (fun c => orngLaneTraps c a b (typeSize t.toNat) [2])
    (fun c => (orngAddrs c a b).foldl (fun s x =>
      holdWrite s c.k c.e.wave x.lane (.orangery x.off)
        (leBytes (typeSize t.toNat) (if t = 5 then (c.v.rVPair d.toNat x.lane).toNat else (c.v.rV d.toNat x.lane).toNat))) c.s) s

/-- R181: OATOM. -/
def execOatom (e : Bool) (d a b : Reg) (c : BitVec 4) (s : State) : Out :=
  orngWord e [atomField true c.toNat d, oS a, oV b] 0 [1, 2, 3] (fun x => orngLaneTraps x a b (atomSize c.toNat) [2])
    (fun x => (orngAddrs x a b).foldl (fun s y =>
      let v := atomArgs c.toNat (atomRead x d y.lane)
      sendBank x (committed x s true true) (laneBit y.lane) y.off (.atom c.toNat v.1 v.2) (some (d.toNat, some y.lane)) (decide (11 ≤ c.toNat)) x.acq) x.s) s

/-- R181: OUPD. -/
def execOupd (e : Bool) (d a b : Reg) (c : BitVec 4) (s : State) : Out :=
  orngWord e [atomField true c.toNat d, oS a, oV b] 0 [2] (fun x => orngLaneTraps x a b (atomSize c.toNat) [2])
    (fun x => (orngAddrs x a b).foldl (fun s y =>
      sendBank x (committed x s true true) (laneBit y.lane) y.off (.update c.toNat (atomArgs c.toNat (atomRead x d y.lane)).1) none false false) x.s) s

/-- R182: ORED: one bank operation that folds the active lanes in ascending order. -/
def execOred (e : Bool) (d a : Reg) (c : BitVec 4) (s : State) : Out :=
  orngWord e [atomField true c.toNat d, oS a] 0 [1, 2, 3] (fun x => orngCellTraps x a (atomSize c.toNat))
    (fun x => match lanesIn x.lanes with
      | [] => x.s
      | ls => sendBank x (committed x x.s true true) x.lanes (x.e.rS a.toNat).toNat
          (.fold c.toNat (ls.map (fun i => (atomArgs c.toNat (atomRead x d i)).1))) none false x.acq) s

/-- R183: ORDX: one contribution for each active lane. -/
def execOrdx (e : Bool) (d a b : Reg) (c : BitVec 4) (s : State) : Out :=
  orngWord e [atomField true c.toNat d, oS a, oV b] 0 [1, 2, 3] (fun x => orngCellTraps x a 64)
    (fun x => (lanesIn x.lanes).foldl (fun s i =>
      sendBank x (committed x s true true) (laneBit i) (x.e.rS a.toNat).toNat
        (.ordx c.toNat (x.v.rV b.toNat i).toNat (atomArgs c.toNat (atomRead x d i)).1) none false x.acq) x.s) s

end Sys2Proof.Machine
end

