-- ==== Sys2Proof/Machine/Scalar.lean ====
section
/-! DEFINITION. Scalar arithmetic, logic, pairs and bit counts (R133 to R137): majors 0x01 to 0x0C. -/

namespace Sys2Proof.Machine

open Sys2Proof

/-! ### The functions -/

/-- R135: shift left; counts of 32 or more give 0. -/
def shl32 (a b : Word) : Word := if b.toNat ≥ 32 then 0 else a <<< b.toNat
/-- R135: logical shift right. -/
def shr32 (a b : Word) : Word := if b.toNat ≥ 32 then 0 else a >>> b.toNat
/-- R135: arithmetic shift right; counts of 32 or more give copies of bit 31. -/
def sra32 (a b : Word) : Word := if b.toNat ≥ 32 then (if a.msb then 0xFFFFFFFF else 0) else a.sshiftRight b.toNat
/-- R133: bits [63:32] of the signed product. -/
def mulhS (a b : Word) : Word := BitVec.ofInt 32 (a.toInt * b.toInt / 4294967296)
/-- R133: bits [63:32] of the unsigned product. -/
def mulhU (a b : Word) : Word := BitVec.ofNat 32 (a.toNat * b.toNat / 4294967296)
/-- R134: signed quotient, rounded towards zero. -/
def divS (a b : Word) : Word := if b = 0 then 0xFFFFFFFF else if a = 0x80000000 ∧ b = 0xFFFFFFFF then 0x80000000 else a.sdiv b
/-- R134: unsigned quotient. -/
def divU (a b : Word) : Word := if b = 0 then 0xFFFFFFFF else a.udiv b
/-- R134: signed remainder. -/
def remS (a b : Word) : Word := if b = 0 then a else if a = 0x80000000 ∧ b = 0xFFFFFFFF then 0 else a.srem b
/-- R134: unsigned remainder. -/
def remU (a b : Word) : Word := if b = 0 then a else a.umod b
def sltW (a b : Word) : Word := if a.slt b then 1 else 0
def sltuW (a b : Word) : Word := if a.ult b then 1 else 0
def minW (a b : Word) : Word := if b.slt a then b else a
def maxW (a b : Word) : Word := if a.slt b then b else a
def minuW (a b : Word) : Word := if b.ult a then b else a
def maxuW (a b : Word) : Word := if a.ult b then b else a

/-- Positions of the set bits of a `w`-bit value, ascending. -/
def setBitsOf (w x : Nat) : List Nat := (List.range w).filter (fun i => x.testBit i)
/-- R137, R159: number of set bits. -/
def popcN (w x : Nat) : Nat := (setBitsOf w x).length
/-- R137, R159: trailing zero bits, `w` for zero. -/
def ctzN (w x : Nat) : Nat := (setBitsOf w x).headD w
/-- R137, R159: leading zero bits, `w` for zero. -/
def clzN (w x : Nat) : Nat := match (setBitsOf w x).getLast? with | some i => w - 1 - i | none => w
/-- R137, R159: position of the set bit with exactly n set bits below it. -/
def fnsN (w x n : Nat) : Word := match (setBitsOf w x)[n]? with | some i => BitVec.ofNat 32 i | none => 0xFFFFFFFF
/-- R137, R159: the `w` bits of a value reversed. -/
def brevN (w x : Nat) : Nat := (setBitsOf w x).foldl (fun r i => r + 2 ^ (w - 1 - i)) 0

/-! ### Forms -/

/-- `OP d, a, b` of major 0x01. -/
def scalar3 (f : Word → Word → Word) (e : Bool) (d a b : Reg) : State → Out :=
  scalarWord e [oS d, oS a, oS b] {} (fun c => c.e.wS d.toNat (f (c.e.rS a.toNat) (c.e.rS b.toNat)))

/-- `OP d, a` of majors 0x01 and 0x0C. -/
def scalar2 (f : Word → Word) (e : Bool) (d a : Reg) : State → Out :=
  scalarWord e [oS d, oS a] {} (fun c => c.e.wS d.toNat (f (c.e.rS a.toNat)))

/-- `OP d, a, imm` of majors 0x02 to 0x0A (R136). -/
def scalarI (f : Word → Word → Word) (e : Bool) (d a : Reg) (imm : BitVec 13) : State → Out :=
  scalarWord e [oS d, oS a] { ximm := true } (fun c => c.e.wS d.toNat (f (c.e.rS a.toNat) (c.imm imm)))

/-- R135: a shift whose count is Imm()[5:0]. -/
def scalarSh (f : Word → Word → Word) : Bool → Reg → Reg → BitVec 13 → State → Out := scalarI (fun a i => f a (i &&& 63))

/-- A pair form of major 0x0C that writes a pair from a pair and another operand. -/
def pairWord (e : Bool) (ops : List Operand) (d : Reg) (f : Ctx → Dword) : State → Out :=
  scalarWord e ops {} (fun c => c.e.wPair d.toNat (f c))

/-- A count form of major 0x0C on a pair (R137). -/
def pairCount (f : Nat → Nat) (e : Bool) (d a : Reg) : State → Out :=
  scalarWord e [oS d, oS2 a] {} (fun c => c.e.wS d.toNat (BitVec.ofNat 32 (f (c.e.rPair a.toNat).toNat)))

/-! ### The instructions -/


/-- R133. -/
def execAdd (e : Bool) (d a b : Reg) (s : State) : Out := scalar3 (fun a b => a + b) e d a b s

/-- R133. -/
def execSub (e : Bool) (d a b : Reg) (s : State) : Out := scalar3 (fun a b => a - b) e d a b s

/-- R133. -/
def execMul (e : Bool) (d a b : Reg) (s : State) : Out := scalar3 (fun a b => a * b) e d a b s

/-- R133. -/
def execMulh (e : Bool) (d a b : Reg) (s : State) : Out := scalar3 (mulhS) e d a b s

/-- R133. -/
def execMulhu (e : Bool) (d a b : Reg) (s : State) : Out := scalar3 (mulhU) e d a b s

/-- R134. -/
def execDiv (e : Bool) (d a b : Reg) (s : State) : Out := scalar3 (divS) e d a b s

/-- R134. -/
def execDivu (e : Bool) (d a b : Reg) (s : State) : Out := scalar3 (divU) e d a b s

/-- R134. -/
def execRem (e : Bool) (d a b : Reg) (s : State) : Out := scalar3 (remS) e d a b s

/-- R134. -/
def execRemu (e : Bool) (d a b : Reg) (s : State) : Out := scalar3 (remU) e d a b s

/-- R133. -/
def execAndS (e : Bool) (d a b : Reg) (s : State) : Out := scalar3 (fun a b => a &&& b) e d a b s

/-- R133. -/
def execOrS (e : Bool) (d a b : Reg) (s : State) : Out := scalar3 (fun a b => a ||| b) e d a b s

/-- R133. -/
def execXorS (e : Bool) (d a b : Reg) (s : State) : Out := scalar3 (fun a b => a ^^^ b) e d a b s

/-- R135. -/
def execShl (e : Bool) (d a b : Reg) (s : State) : Out := scalar3 (shl32) e d a b s

/-- R135. -/
def execShr (e : Bool) (d a b : Reg) (s : State) : Out := scalar3 (shr32) e d a b s

/-- R135. -/
def execSra (e : Bool) (d a b : Reg) (s : State) : Out := scalar3 (sra32) e d a b s

/-- R133. -/
def execSlt (e : Bool) (d a b : Reg) (s : State) : Out := scalar3 (sltW) e d a b s

/-- R133. -/
def execSltu (e : Bool) (d a b : Reg) (s : State) : Out := scalar3 (sltuW) e d a b s

/-- R133. -/
def execMinS (e : Bool) (d a b : Reg) (s : State) : Out := scalar3 (minW) e d a b s

/-- R133. -/
def execMaxS (e : Bool) (d a b : Reg) (s : State) : Out := scalar3 (maxW) e d a b s

/-- R133. -/
def execMinu (e : Bool) (d a b : Reg) (s : State) : Out := scalar3 (minuW) e d a b s

/-- R133. -/
def execMaxu (e : Bool) (d a b : Reg) (s : State) : Out := scalar3 (maxuW) e d a b s

/-- R133. -/
def execSextI8 (e : Bool) (d a : Reg) (s : State) : Out := scalar2 (fun a => (a.setWidth 8).signExtend 32) e d a s

/-- R133. -/
def execSextI16 (e : Bool) (d a : Reg) (s : State) : Out := scalar2 (fun a => (a.setWidth 16).signExtend 32) e d a s

/-- R133. -/
def execZextU8 (e : Bool) (d a : Reg) (s : State) : Out := scalar2 (fun a => a &&& 0xFF) e d a s

/-- R133. -/
def execZextU16 (e : Bool) (d a : Reg) (s : State) : Out := scalar2 (fun a => a &&& 0xFFFF) e d a s

/-- R136. -/
def execAddi (e : Bool) (d a : Reg) (imm : BitVec 13) (s : State) : Out := scalarI (fun a i => a + i) e d a imm s

/-- R136. -/
def execAndi (e : Bool) (d a : Reg) (imm : BitVec 13) (s : State) : Out := scalarI (fun a i => a &&& i) e d a imm s

/-- R136. -/
def execOri (e : Bool) (d a : Reg) (imm : BitVec 13) (s : State) : Out := scalarI (fun a i => a ||| i) e d a imm s

/-- R136. -/
def execXori (e : Bool) (d a : Reg) (imm : BitVec 13) (s : State) : Out := scalarI (fun a i => a ^^^ i) e d a imm s

/-- R135. -/
def execShli (e : Bool) (d a : Reg) (imm : BitVec 13) (s : State) : Out := scalarSh (shl32) e d a imm s

/-- R135. -/
def execShri (e : Bool) (d a : Reg) (imm : BitVec 13) (s : State) : Out := scalarSh (shr32) e d a imm s

/-- R135. -/
def execSrai (e : Bool) (d a : Reg) (imm : BitVec 13) (s : State) : Out := scalarSh (sra32) e d a imm s

/-- R136. -/
def execSlti (e : Bool) (d a : Reg) (imm : BitVec 13) (s : State) : Out := scalarI (sltW) e d a imm s

/-- R136. -/
def execSltiu (e : Bool) (d a : Reg) (imm : BitVec 13) (s : State) : Out := scalarI (sltuW) e d a imm s

/-- R136: S[D] := IMM19 << 13. -/
def execLih (e : Bool) (d : Reg) (imm : BitVec 19) (s : State) : Out :=
  scalarWord e [oS d] {} (fun c => c.e.wS d.toNat (imm.setWidth 32 <<< 13)) s

/-- R137. -/
def execAdd64 (e : Bool) (d a b : Reg) (s : State) : Out :=
  pairWord e [oS2 d, oS2 a, oS2 b] d (fun c => c.e.rPair a.toNat + c.e.rPair b.toNat) s

/-- R137. -/
def execSub64 (e : Bool) (d a b : Reg) (s : State) : Out :=
  pairWord e [oS2 d, oS2 a, oS2 b] d (fun c => c.e.rPair a.toNat - c.e.rPair b.toNat) s

/-- R137: 64 or more gives 0. -/
def execShl64 (e : Bool) (d a b : Reg) (s : State) : Out :=
  pairWord e [oS2 d, oS2 a, oS b] d
    (fun c => if (c.e.rS b.toNat).toNat ≥ 64 then 0 else c.e.rPair a.toNat <<< (c.e.rS b.toNat).toNat) s

/-- R137: 64 or more gives 0. -/
def execShr64 (e : Bool) (d a b : Reg) (s : State) : Out :=
  pairWord e [oS2 d, oS2 a, oS b] d
    (fun c => if (c.e.rS b.toNat).toNat ≥ 64 then 0 else c.e.rPair a.toNat >>> (c.e.rS b.toNat).toNat) s

/-- R137. -/
def execPopc (e : Bool) (d a : Reg) (s : State) : Out := scalar2 (fun a => BitVec.ofNat 32 (popcN 32 a.toNat)) e d a s

/-- R137. -/
def execClz (e : Bool) (d a : Reg) (s : State) : Out := scalar2 (fun a => BitVec.ofNat 32 (clzN 32 a.toNat)) e d a s

/-- R137. -/
def execCtz (e : Bool) (d a : Reg) (s : State) : Out := scalar2 (fun a => BitVec.ofNat 32 (ctzN 32 a.toNat)) e d a s

/-- R137. -/
def execBrev (e : Bool) (d a : Reg) (s : State) : Out := scalar2 (fun a => BitVec.ofNat 32 (brevN 32 a.toNat)) e d a s

/-- R137. -/
def execFns (e : Bool) (d a b : Reg) (s : State) : Out := scalar3 (fun a b => fnsN 32 a.toNat b.toNat) e d a b s

/-- R137. -/
def execPopcI64 (e : Bool) (d a : Reg) (s : State) : Out := pairCount (popcN 64) e d a s

/-- R137. -/
def execClzI64 (e : Bool) (d a : Reg) (s : State) : Out := pairCount (clzN 64) e d a s

/-- R137. -/
def execCtzI64 (e : Bool) (d a : Reg) (s : State) : Out := pairCount (ctzN 64) e d a s

/-- R137. -/
def execFnsI64 (e : Bool) (d a b : Reg) (s : State) : Out :=
  scalarWord e [oS d, oS2 a, oS b] {}
    (fun c => c.e.wS d.toNat (fnsN 64 (c.e.rPair a.toNat).toNat (c.e.rS b.toNat).toNat)) s

/-- R137. -/
def execBrevI64 (e : Bool) (d a : Reg) (s : State) : Out :=
  pairWord e [oS2 d, oS2 a] d (fun c => BitVec.ofNat 64 (brevN 64 (c.e.rPair a.toNat).toNat)) s

end Sys2Proof.Machine
end

