-- ==== Sys2Proof/Machine/Vector.lean ====
section
/-! DEFINITION. Vector integer instructions, compares and select (R153 to R160): majors 0x10 to 0x13. -/

namespace Sys2Proof.Machine

open Sys2Proof

/-- What majors 0x10 to 0x13, 0x17, 0x18, 0x1A and 0x1B accept (R124). -/
def accV : Accept := { pneg := true }

/-- A lane-wise form on two vector registers. -/
def vec2 (f : Word → Word → Word) (e : Bool) (d a b : Reg) (p : BitVec 3) : State → Out :=
  vectorWord e [oV d, oV a, oV b, oP p] accV noChk
    (fun c => c.v.wV d.toNat (c.active p) (fun i => f (c.v.rV a.toNat i) (c.v.rV b.toNat i)))

/-- A lane-wise form on one vector register. -/
def vec1 (f : Word → Word) (e : Bool) (d a : Reg) (p : BitVec 3) : State → Out :=
  vectorWord e [oV d, oV a, oP p] accV noChk (fun c => c.v.wV d.toNat (c.active p) (fun i => f (c.v.rV a.toNat i)))

/-- R99, R157: an operation on both 16-bit elements of a word. -/
def both16 (f : BitVec 16 → BitVec 16 → BitVec 16) (a b : Word) : Word :=
  f (a.extractLsb' 16 16) (b.extractLsb' 16 16) ++ f (a.extractLsb' 0 16) (b.extractLsb' 0 16)

def shl16 (a b : BitVec 16) : BitVec 16 := if b.toNat ≥ 16 then 0 else a <<< b.toNat
def shr16 (a b : BitVec 16) : BitVec 16 := if b.toNat ≥ 16 then 0 else a >>> b.toNat
def sra16 (a b : BitVec 16) : BitVec 16 := if b.toNat ≥ 16 then (if a.msb then 0xFFFF else 0) else a.sshiftRight b.toNat

/-- A count form on the pair of each lane (R159). -/
def vecPair (f : Nat → Nat) (e : Bool) (d a : Reg) (p : BitVec 3) : State → Out :=
  vectorWord e [oV d, oV2 a, oP p] accV noChk
    (fun c => c.v.wV d.toNat (c.active p) (fun i => BitVec.ofNat 32 (f (c.v.rVPair a.toNat i).toNat)))

/-- R160: the integer conditions. -/
def cmpInt (cc : Nat) (a b : Word) : Bool :=
  match cc with
  | 0 => decide (a = b) | 1 => decide (a ≠ b) | 2 => a.slt b | 3 => !a.slt b | 4 => b.slt a | 5 => !b.slt a
  | 6 => a.ult b | 7 => !a.ult b | 8 => b.ult a | _ => !b.ult a


/-- R156. -/
def execVadd (e : Bool) (d a b : Reg) (p : BitVec 3) (s : State) : Out := vec2 (fun a b => a + b) e d a b p s

/-- R156. -/
def execVsub (e : Bool) (d a b : Reg) (p : BitVec 3) (s : State) : Out := vec2 (fun a b => a - b) e d a b p s

/-- R156. -/
def execVmul (e : Bool) (d a b : Reg) (p : BitVec 3) (s : State) : Out := vec2 (fun a b => a * b) e d a b p s

/-- R156. -/
def execVmulh (e : Bool) (d a b : Reg) (p : BitVec 3) (s : State) : Out := vec2 (mulhS) e d a b p s

/-- R156. -/
def execVmulhu (e : Bool) (d a b : Reg) (p : BitVec 3) (s : State) : Out := vec2 (mulhU) e d a b p s

/-- R156. -/
def execVand (e : Bool) (d a b : Reg) (p : BitVec 3) (s : State) : Out := vec2 (fun a b => a &&& b) e d a b p s

/-- R156. -/
def execVor (e : Bool) (d a b : Reg) (p : BitVec 3) (s : State) : Out := vec2 (fun a b => a ||| b) e d a b p s

/-- R156. -/
def execVxor (e : Bool) (d a b : Reg) (p : BitVec 3) (s : State) : Out := vec2 (fun a b => a ^^^ b) e d a b p s

/-- R156. -/
def execVshl (e : Bool) (d a b : Reg) (p : BitVec 3) (s : State) : Out := vec2 (shl32) e d a b p s

/-- R156. -/
def execVshr (e : Bool) (d a b : Reg) (p : BitVec 3) (s : State) : Out := vec2 (shr32) e d a b p s

/-- R156. -/
def execVsra (e : Bool) (d a b : Reg) (p : BitVec 3) (s : State) : Out := vec2 (sra32) e d a b p s

/-- R156. -/
def execVmin (e : Bool) (d a b : Reg) (p : BitVec 3) (s : State) : Out := vec2 (minW) e d a b p s

/-- R156. -/
def execVmax (e : Bool) (d a b : Reg) (p : BitVec 3) (s : State) : Out := vec2 (maxW) e d a b p s

/-- R156. -/
def execVminu (e : Bool) (d a b : Reg) (p : BitVec 3) (s : State) : Out := vec2 (minuW) e d a b p s

/-- R156. -/
def execVmaxu (e : Bool) (d a b : Reg) (p : BitVec 3) (s : State) : Out := vec2 (maxuW) e d a b p s

/-- R160: select by the predicate over every lane of the mask. -/
def execVsel (e : Bool) (d a b : Reg) (p : BitVec 3) (s : State) : Out :=
  crossWord e [oV d, oV a, oV b, oP p] (fun c n => c.lanes &&& (if n = 1 then c.pred p else if n = 2 then ~~~(c.pred p) else BitVec.allOnes 96)) noChk
    (fun c => c.v.wV d.toNat c.lanes (fun i => if (c.pred p).getLsbD i then c.v.rV a.toNat i else c.v.rV b.toNat i)) s

/-- R157. -/
def execVaddI16x2 (e : Bool) (d a b : Reg) (p : BitVec 3) (s : State) : Out := vec2 (both16 (fun a b => a + b)) e d a b p s

/-- R157. -/
def execVsubI16x2 (e : Bool) (d a b : Reg) (p : BitVec 3) (s : State) : Out := vec2 (both16 (fun a b => a - b)) e d a b p s

/-- R157. -/
def execVmulI16x2 (e : Bool) (d a b : Reg) (p : BitVec 3) (s : State) : Out := vec2 (both16 (fun a b => a * b)) e d a b p s

/-- R157. -/
def execVshlI16x2 (e : Bool) (d a b : Reg) (p : BitVec 3) (s : State) : Out := vec2 (both16 (shl16)) e d a b p s

/-- R157. -/
def execVshrI16x2 (e : Bool) (d a b : Reg) (p : BitVec 3) (s : State) : Out := vec2 (both16 (shr16)) e d a b p s

/-- R157. -/
def execVsraI16x2 (e : Bool) (d a b : Reg) (p : BitVec 3) (s : State) : Out := vec2 (both16 (sra16)) e d a b p s

/-- R157. -/
def execVminI16x2 (e : Bool) (d a b : Reg) (p : BitVec 3) (s : State) : Out := vec2 (both16 (fun a b => if b.slt a then b else a)) e d a b p s

/-- R157. -/
def execVmaxI16x2 (e : Bool) (d a b : Reg) (p : BitVec 3) (s : State) : Out := vec2 (both16 (fun a b => if a.slt b then b else a)) e d a b p s

/-- R157. -/
def execVminuU16x2 (e : Bool) (d a b : Reg) (p : BitVec 3) (s : State) : Out := vec2 (both16 (fun a b => if b.ult a then b else a)) e d a b p s

/-- R157. -/
def execVmaxuU16x2 (e : Bool) (d a b : Reg) (p : BitVec 3) (s : State) : Out := vec2 (both16 (fun a b => if a.ult b then b else a)) e d a b p s

/-- R158: V[D] is also a source. -/
def execVmad (e : Bool) (d a b : Reg) (p : BitVec 3) (s : State) : Out :=
  updateWord e [oV d, oV a, oV b, oP p] accV
    (fun c => c.v.wV d.toNat (c.active p) (fun i => c.v.rV a.toNat i * c.v.rV b.toNat i + c.v.rV d.toNat i)) s

/-- R158. -/
def execVbcs (e : Bool) (d a : Reg) (p : BitVec 3) (s : State) : Out :=
  vectorWord e [oV d, oS a, oP p] accV noChk (fun c => c.v.wV d.toNat (c.active p) (fun _ => c.e.rS a.toNat)) s

/-- R158. -/
def execVlane (e : Bool) (d : Reg) (p : BitVec 3) (s : State) : Out :=
  vectorWord e [oV d, oP p] accV noChk (fun c => c.v.wV d.toNat (c.active p) (fun i => BitVec.ofNat 32 i)) s

/-- R159. -/
def execVpopc (e : Bool) (d a : Reg) (p : BitVec 3) (s : State) : Out := vec1 (fun a => BitVec.ofNat 32 (popcN 32 a.toNat)) e d a p s

/-- R159. -/
def execVclz (e : Bool) (d a : Reg) (p : BitVec 3) (s : State) : Out := vec1 (fun a => BitVec.ofNat 32 (clzN 32 a.toNat)) e d a p s

/-- R159. -/
def execVctz (e : Bool) (d a : Reg) (p : BitVec 3) (s : State) : Out := vec1 (fun a => BitVec.ofNat 32 (ctzN 32 a.toNat)) e d a p s

/-- R159. -/
def execVbrev (e : Bool) (d a : Reg) (p : BitVec 3) (s : State) : Out := vec1 (fun a => BitVec.ofNat 32 (brevN 32 a.toNat)) e d a p s

/-- R159. -/
def execVfns (e : Bool) (d a b : Reg) (p : BitVec 3) (s : State) : Out := vec2 (fun a b => fnsN 32 a.toNat b.toNat) e d a b p s

/-- R159. -/
def execVpopcI64 (e : Bool) (d a : Reg) (p : BitVec 3) (s : State) : Out := vecPair (popcN 64) e d a p s

/-- R159. -/
def execVclzI64 (e : Bool) (d a : Reg) (p : BitVec 3) (s : State) : Out := vecPair (clzN 64) e d a p s

/-- R159. -/
def execVctzI64 (e : Bool) (d a : Reg) (p : BitVec 3) (s : State) : Out := vecPair (ctzN 64) e d a p s

/-- R159. -/
def execVfnsI64 (e : Bool) (d a b : Reg) (p : BitVec 3) (s : State) : Out :=
  vectorWord e [oV d, oV2 a, oV b, oP p] accV noChk
    (fun c => c.v.wV d.toNat (c.active p) (fun i => fnsN 64 (c.v.rVPair a.toNat i).toNat (c.v.rV b.toNat i).toNat)) s

/-- R159. -/
def execVbrevI64 (e : Bool) (d a : Reg) (p : BitVec 3) (s : State) : Out :=
  vectorWord e [oV2 d, oV2 a, oP p] accV noChk
    (fun c => c.v.wVPair d.toNat (c.active p) (fun i => BitVec.ofNat 64 (brevN 64 (c.v.rVPair a.toNat i).toNat))) s

/-- R160. -/
def execVcmp (e : Bool) (d : BitVec 3) (a b : Reg) (cc : BitVec 4) (p : BitVec 3) (s : State) : Out :=
  vectorWord e [oP d, oV a, oV b, oP p] accV noChk
    (fun c => c.v.wP d.toNat (c.active p) (fun i => cmpInt cc.toNat (c.v.rV a.toNat i) (c.v.rV b.toNat i))) s

end Sys2Proof.Machine
end

