-- ==== Sys2Proof/Machine/VFloat.lean ====
section
/-! DEFINITION. Floating-point vector instructions, conversions and the special-function unit (R161 to R166): majors 0x14 to 0x19. -/

namespace Sys2Proof.Machine

open Sys2Proof

/-- What majors 0x14 to 0x16 and 0x19 accept (R124). -/
def accF : Accept := { pneg := true, rm := true }

/-- The union of the flags of the active lanes (R110, R111). -/
def flagsOf (act : Lanes) (f : Nat → Nat) : Nat := (lanesIn act).foldl (fun r i => r ||| f i) 0

/-- Lanes written with a value and its flags raised. -/
def Wave.wVF (v : Wave) (d : Nat) (act : Lanes) (f : Nat → Nat × Nat) : Wave :=
  (v.wV d act (fun i => BitVec.ofNat 32 (f i).1)).raiseFlags (flagsOf act (fun i => (f i).2))

/-- An operation of three encodings (a, b, and the old value of the destination) under a rounding mode. -/
abbrev FOp := Nat → Nat → Nat → Nat → Nat × Nat

def fAdd (f : Fmt) : FOp := fun rm a b _ => f.add rm a b
def fSub (f : Fmt) : FOp := fun rm a b _ => f.sub rm a b
def fMul (f : Fmt) : FOp := fun rm a b _ => f.mul rm a b
def fFma (f : Fmt) : FOp := fun rm a b c => f.fma rm a b c
def fFnma (f : Fmt) : FOp := fun rm a b c => f.fnma rm a b c
def fMin (f : Fmt) : FOp := fun _ a b _ => f.minMax false a b
def fMax (f : Fmt) : FOp := fun _ a b _ => f.minMax true a b

/-- R99: an operation on both packed elements. -/
def packed (op : FOp) : FOp := fun rm a b c =>
  let lo := op rm (a % 65536) (b % 65536) (c % 65536)
  let hi := op rm (a / 65536) (b / 65536) (c / 65536)
  (hi.1 * 65536 + lo.1, hi.2 ||| lo.2)

/-- R161: an operation on element 0 that keeps element 1 of the destination. -/
def elem0 (op : FOp) : FOp := fun rm a b c =>
  let lo := op rm (a % 65536) (b % 65536) (c % 65536)
  (c / 65536 * 65536 + lo.1, lo.2)

/-- R161: what a lane-wise floating form leaves of its wave. -/
def floatLanes (op : FOp) (d a b : Reg) (p : BitVec 3) (c : Ctx) : Wave :=
  c.v.wVF d.toNat (c.active p) (fun i => op c.rm (c.v.rV a.toNat i).toNat (c.v.rV b.toNat i).toNat (c.v.rV d.toNat i).toNat)

/-- R161: a lane-wise floating form of two sources. -/
def vecF (op : FOp) (e : Bool) (d a b : Reg) (p : BitVec 3) : State → Out := vectorWord e [oV d, oV a, oV b, oP p] accF noChk (floatLanes op d a b p)

/-- R161: one that also reads its destination, as an addend or for the element that it keeps. -/
def vecFd (op : FOp) (e : Bool) (d a b : Reg) (p : BitVec 3) : State → Out := updateWord e [oV d, oV a, oV b, oP p] accF (floatLanes op d a b p)

/-- R162: a lane-wise compare on the low element of a format. -/
def vecFcmp (f : Fmt) (e : Bool) (d : BitVec 3) (a b : Reg) (cc p : BitVec 3) : State → Out :=
  vectorWord e [oP d, oV a, oV b, oP p] accV noChk
    (fun c =>
      let act := c.active p
      let r := fun i => f.compare cc.toNat ((c.v.rV a.toNat i).toNat % 2 ^ f.width) ((c.v.rV b.toNat i).toNat % 2 ^ f.width)
      (c.v.wP d.toNat act (fun i => (r i).1)).raiseFlags (flagsOf act (fun i => (r i).2)))

/-- R163: a form of the special-function unit. -/
def vecSfu (op : Nat) (e : Bool) (d a : Reg) (p : BitVec 3) : State → Out :=
  vectorWord e [oV d, oV a, oP p] accV noChk
    (fun c => c.v.wVF d.toNat (c.active p) (fun i => sfu op (c.v.rV a.toNat i).toNat))


/-- R161. -/
def execVfadd (e : Bool) (d a b : Reg) (p : BitVec 3) (s : State) : Out := vecF (fAdd .f32) e d a b p s

/-- R161. -/
def execVfsub (e : Bool) (d a b : Reg) (p : BitVec 3) (s : State) : Out := vecF (fSub .f32) e d a b p s

/-- R161. -/
def execVfmul (e : Bool) (d a b : Reg) (p : BitVec 3) (s : State) : Out := vecF (fMul .f32) e d a b p s

/-- R161. -/
def execVfma (e : Bool) (d a b : Reg) (p : BitVec 3) (s : State) : Out := vecFd (fFma .f32) e d a b p s

/-- R161. -/
def execVfnma (e : Bool) (d a b : Reg) (p : BitVec 3) (s : State) : Out := vecFd (fFnma .f32) e d a b p s

/-- R161. -/
def execVfmin (e : Bool) (d a b : Reg) (p : BitVec 3) (s : State) : Out := vecF (fMin .f32) e d a b p s

/-- R161. -/
def execVfmax (e : Bool) (d a b : Reg) (p : BitVec 3) (s : State) : Out := vecF (fMax .f32) e d a b p s

/-- R161. -/
def execVfaddF16x2 (e : Bool) (d a b : Reg) (p : BitVec 3) (s : State) : Out := vecF (packed (fAdd .f16)) e d a b p s

/-- R161. -/
def execVfsubF16x2 (e : Bool) (d a b : Reg) (p : BitVec 3) (s : State) : Out := vecF (packed (fSub .f16)) e d a b p s

/-- R161. -/
def execVfmulF16x2 (e : Bool) (d a b : Reg) (p : BitVec 3) (s : State) : Out := vecF (packed (fMul .f16)) e d a b p s

/-- R161. -/
def execVfmaF16x2 (e : Bool) (d a b : Reg) (p : BitVec 3) (s : State) : Out := vecFd (packed (fFma .f16)) e d a b p s

/-- R161. -/
def execVfnmaF16x2 (e : Bool) (d a b : Reg) (p : BitVec 3) (s : State) : Out := vecFd (packed (fFnma .f16)) e d a b p s

/-- R161. -/
def execVfminF16x2 (e : Bool) (d a b : Reg) (p : BitVec 3) (s : State) : Out := vecF (packed (fMin .f16)) e d a b p s

/-- R161. -/
def execVfmaxF16x2 (e : Bool) (d a b : Reg) (p : BitVec 3) (s : State) : Out := vecF (packed (fMax .f16)) e d a b p s

/-- R161. -/
def execVfaddF16 (e : Bool) (d a b : Reg) (p : BitVec 3) (s : State) : Out := vecFd (elem0 (fAdd .f16)) e d a b p s

/-- R161. -/
def execVfsubF16 (e : Bool) (d a b : Reg) (p : BitVec 3) (s : State) : Out := vecFd (elem0 (fSub .f16)) e d a b p s

/-- R161. -/
def execVfmulF16 (e : Bool) (d a b : Reg) (p : BitVec 3) (s : State) : Out := vecFd (elem0 (fMul .f16)) e d a b p s

/-- R161. -/
def execVfmaF16 (e : Bool) (d a b : Reg) (p : BitVec 3) (s : State) : Out := vecFd (elem0 (fFma .f16)) e d a b p s

/-- R161. -/
def execVfnmaF16 (e : Bool) (d a b : Reg) (p : BitVec 3) (s : State) : Out := vecFd (elem0 (fFnma .f16)) e d a b p s

/-- R161. -/
def execVfminF16 (e : Bool) (d a b : Reg) (p : BitVec 3) (s : State) : Out := vecFd (elem0 (fMin .f16)) e d a b p s

/-- R161. -/
def execVfmaxF16 (e : Bool) (d a b : Reg) (p : BitVec 3) (s : State) : Out := vecFd (elem0 (fMax .f16)) e d a b p s

/-- R161. -/
def execVfaddBf16x2 (e : Bool) (d a b : Reg) (p : BitVec 3) (s : State) : Out := vecF (packed (fAdd .bf16)) e d a b p s

/-- R161. -/
def execVfsubBf16x2 (e : Bool) (d a b : Reg) (p : BitVec 3) (s : State) : Out := vecF (packed (fSub .bf16)) e d a b p s

/-- R161. -/
def execVfmulBf16x2 (e : Bool) (d a b : Reg) (p : BitVec 3) (s : State) : Out := vecF (packed (fMul .bf16)) e d a b p s

/-- R161. -/
def execVfmaBf16x2 (e : Bool) (d a b : Reg) (p : BitVec 3) (s : State) : Out := vecFd (packed (fFma .bf16)) e d a b p s

/-- R161. -/
def execVfnmaBf16x2 (e : Bool) (d a b : Reg) (p : BitVec 3) (s : State) : Out := vecFd (packed (fFnma .bf16)) e d a b p s

/-- R161. -/
def execVfminBf16x2 (e : Bool) (d a b : Reg) (p : BitVec 3) (s : State) : Out := vecF (packed (fMin .bf16)) e d a b p s

/-- R161. -/
def execVfmaxBf16x2 (e : Bool) (d a b : Reg) (p : BitVec 3) (s : State) : Out := vecF (packed (fMax .bf16)) e d a b p s

/-- R161. -/
def execVfaddBf16 (e : Bool) (d a b : Reg) (p : BitVec 3) (s : State) : Out := vecFd (elem0 (fAdd .bf16)) e d a b p s

/-- R161. -/
def execVfsubBf16 (e : Bool) (d a b : Reg) (p : BitVec 3) (s : State) : Out := vecFd (elem0 (fSub .bf16)) e d a b p s

/-- R161. -/
def execVfmulBf16 (e : Bool) (d a b : Reg) (p : BitVec 3) (s : State) : Out := vecFd (elem0 (fMul .bf16)) e d a b p s

/-- R161. -/
def execVfmaBf16 (e : Bool) (d a b : Reg) (p : BitVec 3) (s : State) : Out := vecFd (elem0 (fFma .bf16)) e d a b p s

/-- R161. -/
def execVfnmaBf16 (e : Bool) (d a b : Reg) (p : BitVec 3) (s : State) : Out := vecFd (elem0 (fFnma .bf16)) e d a b p s

/-- R161. -/
def execVfminBf16 (e : Bool) (d a b : Reg) (p : BitVec 3) (s : State) : Out := vecFd (elem0 (fMin .bf16)) e d a b p s

/-- R161. -/
def execVfmaxBf16 (e : Bool) (d a b : Reg) (p : BitVec 3) (s : State) : Out := vecFd (elem0 (fMax .bf16)) e d a b p s

/-- R162. -/
def execVfcmpF32 (e : Bool) (d : BitVec 3) (a b : Reg) (cc p : BitVec 3) (s : State) : Out := vecFcmp .f32 e d a b cc p s

/-- R162. -/
def execVfcmpF16 (e : Bool) (d : BitVec 3) (a b : Reg) (cc p : BitVec 3) (s : State) : Out := vecFcmp .f16 e d a b cc p s

/-- R112, R163. -/
def execVfrcp (e : Bool) (d a : Reg) (p : BitVec 3) (s : State) : Out := vecSfu 0 e d a p s

/-- R112, R163. -/
def execVfrsq (e : Bool) (d a : Reg) (p : BitVec 3) (s : State) : Out := vecSfu 1 e d a p s

/-- R113, R163. -/
def execVfexp2 (e : Bool) (d a : Reg) (p : BitVec 3) (s : State) : Out := vecSfu 2 e d a p s

/-- R113, R163. -/
def execVflog2 (e : Bool) (d a : Reg) (p : BitVec 3) (s : State) : Out := vecSfu 3 e d a p s

/-- R113, R163. -/
def execVfsin (e : Bool) (d a : Reg) (p : BitVec 3) (s : State) : Out := vecSfu 4 e d a p s

/-- R113, R163. -/
def execVfcos (e : Bool) (d a : Reg) (p : BitVec 3) (s : State) : Out := vecSfu 5 e d a p s

/-- R164: the encoding of a source element in the low bits of a lane, or in its pair. -/
def cvtRead (v : Wave) (src a i : Nat) : Nat := if src ≥ 11 then (v.rVPair a i).toNat else (v.rV a i).toNat

/-- R164: how a converted element fills its 32-bit register. -/
def cvtFill (dst x : Nat) : Word :=
  if dst = 7 then (BitVec.ofNat 16 x).signExtend 32 else if dst = 9 then (BitVec.ofNat 8 x).signExtend 32 else BitVec.ofNat 32 x

/-- R164, R107, R108. -/
def execVcvt (e : Bool) (d a : Reg) (src dst : BitVec 4) (p : BitVec 3) (s : State) : Out :=
  vectorWord e [if dst.toNat ≥ 11 then oV2 d else oV d, if src.toNat ≥ 11 then oV2 a else oV a, oP p]
    { pneg := true, rm := true, sat := true } noChk
    (fun c =>
      let act := c.active p
      let r := fun i => convert (cvtFmt src.toNat) (cvtFmt dst.toNat) c.rm c.sat (cvtRead c.v src.toNat a.toNat i)
      let w := if dst.toNat ≥ 11 then c.v.wVPair d.toNat act (fun i => BitVec.ofNat 64 (r i).1)
        else c.v.wV d.toNat act (fun i => cvtFill dst.toNat (r i).1)
      w.raiseFlags (flagsOf act (fun i => (r i).2))) s

/-- R165, R166: m of VQPACK and VQUNP lies in 2 to 8. -/
def pbfCheck (b : Reg) (c : Ctx) : List Trap :=
  let m := (c.e.rS b.toNat).toNat % 16
  if 2 ≤ m ∧ m ≤ 8 then [] else [bare 0x02]

/-- R165: the block of lane i: its active values. -/
def pbfBlock (v : Wave) (a len : Nat) (act : Lanes) (i : Nat) : List Val :=
  ((List.range len).map (fun j => i / len * len + j)).filterMap
    (fun j => if act.getLsbD j then some (Fmt.f32.value (v.rV a j).toNat) else none)

/-- R165: what lane i of VQPACK receives, with its flags. Under exponent 0x00 or 0xFF the manual gives no mantissa: it is free
(assumption 16). -/
def pbfLane (E m rm x : Nat) : Nat × Nat :=
  let r := pbfMant E m rm (Fmt.f32.value x)
  let mant : Int := if E = 0 ∨ E = 255 then sext m (Config.pbfFree (BitVec.ofNat 32 x)).toNat else r.1
  (E * 256 + (mant % 256).toNat, r.2)

/-- R165, R109. -/
def execVqpack (e : Bool) (d a b : Reg) (p : BitVec 3) (s : State) : Out :=
  vectorWord e [oV d, oV a, oS b, oP p] accF (pbfCheck b)
    (fun c =>
      let act := c.active p
      let w := (c.e.rS b.toNat).toNat
      let len := if w.testBit 8 then 32 else 16
      c.v.wVF d.toNat act (fun i => pbfLane (pbfExp (pbfBlock c.v a.toNat len act i)) (w % 16) c.rm (c.v.rV a.toNat i).toNat)) s

/-- R166. -/
def execVqunp (e : Bool) (d a b : Reg) (p : BitVec 3) (s : State) : Out :=
  vectorWord e [oV d, oV a, oS b, oP p] accF (pbfCheck b)
    (fun c =>
      let m := (c.e.rS b.toNat).toNat % 16
      c.v.wV d.toNat (c.active p) (fun i =>
        let x := (c.v.rV a.toNat i).toNat
        BitVec.ofNat 32 (Fmt.f32.round 0 false (pbfValue (x / 256 % 256) m (sext m x))).1)) s

end Sys2Proof.Machine
end

