-- ==== Sys2Proof/Machine/Cross.lean ====
section
/-! DEFINITION. Cross-lane and predicate instructions (R116, R154, R167 to R173): majors 0x1A and 0x1B. -/

namespace Sys2Proof.Machine

open Sys2Proof

/-! ### Reductions -/

/-- R169: the operation codes of VRED and VSCAN. -/
def redOps : List Nat := [0, 1, 2, 3, 4, 5, 6, 7, 10, 11, 12]

/-- R116: RedIdentity(op). -/
def redIdentity (op : Nat) : Word :=
  match op with
  | 1 => 0x7FFFFFFF | 2 => 0x80000000 | 3 => 0xFFFFFFFF | 4 => 0 | 5 => 0xFFFFFFFF | 10 => 0x80000000 | 11 => 0x7F800000
  | 12 => 0xFF800000 | _ => 0

/-- Op(a, b) (R117) with its flags. -/
def redOp (op rm : Nat) (a b : Word) : Word × Nat :=
  match op with
  | 0 => (a + b, 0) | 1 => (minW a b, 0) | 2 => (maxW a b, 0) | 3 => (minuW a b, 0) | 4 => (maxuW a b, 0)
  | 5 => (a &&& b, 0) | 6 => (a ||| b, 0) | 7 => (a ^^^ b, 0)
  | 10 => let r := Fmt.f32.add rm a.toNat b.toNat; (BitVec.ofNat 32 r.1, r.2)
  | 11 => let r := Fmt.f32.minMax false a.toNat b.toNat; (BitVec.ofNat 32 r.1, r.2)
  | 12 => let r := Fmt.f32.minMax true a.toNat b.toNat; (BitVec.ofNat 32 r.1, r.2)
  | _ => (a, 0)

/-- One level of the tree of R116: neighbours combined, with the flags so far. -/
def redPairs (op rm : Nat) : List Word → List Word × Nat
  | a :: b :: r => let x := redOp op rm a b; let y := redPairs op rm r; (x.1 :: y.1, x.2 ||| y.2)
  | l => (l, 0)

/-- R116: five levels take 96 leaves to 3, then the last two operations. -/
def redTree (op rm : Nat) (leaves : List Word) : Word × Nat :=
  let down := fun (x : List Word × Nat) => let y := redPairs op rm x.1; (y.1, x.2 ||| y.2)
  let n := down (down (down (down (down (leaves, 0)))))
  let r := redOp op rm (n.1.getD 0 0) (n.1.getD 1 0)
  let q := redOp op rm r.1 (n.1.getD 2 0)
  (q.1, n.2 ||| r.2 ||| q.2)

/-- The leaves of a reduction: active lanes, identities elsewhere. -/
def redLeaves (v : Wave) (a op : Nat) (act : Lanes) : List Word :=
  laneList.map (fun i => if act.getLsbD i then v.rV a i else redIdentity op)

/-- R170: the values before (exclusive) or after (inclusive) each leaf in lane order, and the flags. -/
def scanList (op rm : Nat) (ex : Bool) : List Word → Word → List Word × Nat
  | [], _ => ([], 0)
  | n :: r, acc =>
    let x := redOp op rm acc n
    let y := scanList op rm ex r x.1
    ((if ex then acc else x.1) :: y.1, x.2 ||| y.2)

/-- R169, R259: an operation code that R169 does not list. -/
def redCheck (op : BitVec 4) (_ : Ctx) : List Trap := if redOps.contains op.toNat then [] else [bare 0x02]

/-- R124: a reduction of floating type accepts RM. -/
def accRed (op : BitVec 4) : Accept := { pneg := true, rm := decide (10 ≤ op.toNat ∧ op.toNat ≤ 12) }

/-! ### The instructions -/

/-- R275: the lanes that a word reads of its first source when active lane i reads lane `f i`; of its other fields it reads the active lanes. -/
def lanesFrom (c : Ctx) (p : BitVec 3) (f : Nat → Nat) (n : Nat) : Lanes :=
  if n = 1 then lanesOf (fun j => (lanesIn (c.active p)).any (fun i => decide (f i = j))) else c.active p

/-- R167. -/
def execVxch (e : Bool) (d a : Reg) (g : BitVec 3) (p : BitVec 3) (s : State) : Out :=
  crossWord e [oV d, oV a, oP p] (fun c => lanesFrom c p (fun i => if i ^^^ 2 ^ g.toNat < 96 then i ^^^ 2 ^ g.toNat else i)) (fun _ => if g = 7 then [bare 0x02] else [])
    (fun c => c.v.wV d.toNat (c.active p) (fun i =>
      let j := i ^^^ 2 ^ g.toNat
      if j < 96 then c.v.rV a.toNat j else c.v.rV a.toNat i)) s

/-- R168. -/
def execVshfl (e : Bool) (d a b : Reg) (p : BitVec 3) (s : State) : Out :=
  crossWord e [oV d, oV a, oV b, oP p] (fun c => lanesFrom c p (fun i => (c.v.rV b.toNat i).toNat % 128)) noChk
    (fun c => c.v.wV d.toNat (c.active p) (fun i =>
      let j := (c.v.rV b.toNat i).toNat % 128
      if j < 96 then c.v.rV a.toNat j else 0)) s

/-- R168. -/
def execVbcl (e : Bool) (d a b : Reg) (p : BitVec 3) (s : State) : Out :=
  crossWord e [oV d, oV a, oS b, oP p] (fun c => lanesFrom c p (fun _ => (c.e.rS b.toNat).toNat % 128)) noChk
    (fun c =>
      let j := (c.e.rS b.toNat).toNat % 128
      c.v.wV d.toNat (c.active p) (fun _ => if j < 96 then c.v.rV a.toNat j else 0)) s

/-- R169, R116. -/
def execVred (e : Bool) (d a : Reg) (op : BitVec 4) (p : BitVec 3) (s : State) : Out :=
  regWord { e := e, ops := [oS d, oV a, oP p], acc := accRed op, dst := 1 } (redCheck op)
    (fun c =>
      let r := redTree op.toNat c.rm (redLeaves c.v a.toNat op.toNat (c.active p))
      (c.e.wS d.toNat r.1, c.v.raiseFlags r.2)) s

/-- R170. -/
def execVscan (e : Bool) (d a : Reg) (ex : Bool) (op : BitVec 4) (p : BitVec 3) (s : State) : Out :=
  vectorWord e [oV d, oV a, oP p] (accRed op) (redCheck op)
    (fun c =>
      let act := c.active p
      let r := scanList op.toNat c.rm ex (redLeaves c.v a.toNat op.toNat act) (redIdentity op.toNat)
      (c.v.wV d.toNat act (fun i => r.1.getD i 0)).raiseFlags r.2) s

/-- R171: D from 1 to 61. -/
def execVballot (e : Bool) (d : Reg) (p : BitVec 3) (s : State) : Out :=
  regWord { e := e, ops := [{ cls := .s, n := d.toNat, len := 3, align := 1 }, oP p], acc := accV, dst := 1 }
    (fun _ => if 1 ≤ d.toNat ∧ d.toNat ≤ 61 then [] else [bare 0x02])
    (fun c =>
      let m := c.active p
      (c.e.wMany d.toNat [beatOf m 0, beatOf m 1, beatOf m 2], c.v)) s

/-- R172: Mix. -/
def mix (c k : Word) : Word :=
  let x := c ^^^ k.rotateLeft 7
  let x := x * 0xA2C53E6B
  let x := x ^^^ (x >>> 15)
  let x := x * 0x5F1D8C47
  let x := x ^^^ (x >>> 13)
  let x := x + k
  x ^^^ (x >>> 16)

/-- R172. -/
def execVrand (e : Bool) (d a b : Reg) (p : BitVec 3) (s : State) : Out :=
  vectorWord e [oV d, oV a, oS b, oP p] accV noChk
    (fun c => c.v.wV d.toNat (c.active p) (fun i => mix (c.v.rV a.toNat i) (c.e.rS b.toNat))) s

/-- R173: A from 1 to 61. -/
def execPset (e : Bool) (d : BitVec 3) (a : Reg) (p : BitVec 3) (s : State) : Out :=
  vectorWord e [oP d, oP p, { cls := .s, n := a.toNat, len := 3, align := 1 }] accV
    (fun _ => if 1 ≤ a.toNat ∧ a.toNat ≤ 61 then [] else [bare 0x02])
    (fun c => c.v.wP d.toNat (c.active p) (fun i => (c.e.rS (a.toNat + i / 32)).getLsbD (i % 32))) s

/-- R173: the whole predicate whatever the mask; D from 1 to 61. -/
def execPget (e : Bool) (d : Reg) (q : BitVec 3) (s : State) : Out :=
  regWord { e := e, ops := [{ cls := .s, n := d.toNat, len := 3, align := 1 }, oP q], acc := accV, dst := 1 }
    (fun _ => if 1 ≤ d.toNat ∧ d.toNat ≤ 61 then [] else [bare 0x02])
    (fun c =>
      let m := c.v.rP q.toNat
      (c.e.wMany d.toNat [beatOf m 0, beatOf m 1, beatOf m 2], c.v)) s

/-- A form on two predicates (R173). -/
def pred2 (f : Lanes → Lanes → Lanes) (e : Bool) (d a b p : BitVec 3) : State → Out :=
  vectorWord e [oP d, oP a, oP b, oP p] accV noChk
    (fun c => c.v.wP d.toNat (c.active p) (fun i => (f (c.v.rP a.toNat) (c.v.rP b.toNat)).getLsbD i))

/-- R173. -/
def execPand (e : Bool) (d a b p : BitVec 3) (s : State) : Out := pred2 (fun x y => x &&& y) e d a b p s

/-- R173. -/
def execPor (e : Bool) (d a b p : BitVec 3) (s : State) : Out := pred2 (fun x y => x ||| y) e d a b p s

/-- R173. -/
def execPxor (e : Bool) (d a b p : BitVec 3) (s : State) : Out := pred2 (fun x y => x ^^^ y) e d a b p s

/-- R173. -/
def execPnot (e : Bool) (d a p : BitVec 3) (s : State) : Out := pred2 (fun x _ => ~~~x) e d a a p s

end Sys2Proof.Machine
end

