-- ==== Sys2Proof/Machine/Control.lean ====
section
/-! DEFINITION. Branches, divergence, barriers, special registers, traps, prefixes and words without an instruction (R17 to R27,
R122 to R127, R139 to R152): majors 0x34 to 0x3E. -/

namespace Sys2Proof.Machine

open Sys2Proof

/-! ### Branches (R139 to R142) -/

/-- What majors 0x34 accept (R123). -/
def accBr : Accept := { ximm := true }

/-- R140: a scalar branch taken when the test of S[A], read signed, against zero holds. -/
def branchIf (test : Int → Bool) (a : Reg) (o : BitVec 16) : State → Out :=
  issue { e := true, ops := [oS a], acc := accBr } noChk
    (fun c => if test (c.e.rS a.toNat).toInt then .left (c.goTo (c.jtarget o)) else .done c.s)

/-- R140. -/
def execBr (o : BitVec 16) (s : State) : Out :=
  issue { e := true, ops := [], acc := accBr } noChk (fun c => .left (c.goTo (c.jtarget o))) s

/-- R140. -/
def execBeqz (a : Reg) (o : BitVec 16) (s : State) : Out := branchIf (fun x => decide (x = 0)) a o s

/-- R140. -/
def execBnez (a : Reg) (o : BitVec 16) (s : State) : Out := branchIf (fun x => decide (x ≠ 0)) a o s

/-- R140. -/
def execBltz (a : Reg) (o : BitVec 16) (s : State) : Out := branchIf (fun x => decide (x < 0)) a o s

/-- R140. -/
def execBgez (a : Reg) (o : BitVec 16) (s : State) : Out := branchIf (fun x => decide (0 ≤ x)) a o s

/-- R140. -/
def execBgtz (a : Reg) (o : BitVec 16) (s : State) : Out := branchIf (fun x => decide (0 < x)) a o s

/-- R140. -/
def execBlez (a : Reg) (o : BitVec 16) (s : State) : Out := branchIf (fun x => decide (x ≤ 0)) a o s

/-- R141: lr is s60. -/
def lrReg : Reg := 60

/-- R141. -/
def execCall (o : BitVec 16) (s : State) : Out :=
  issue { e := true, ops := [oS lrReg], acc := accBr, dst := 1 } noChk
    (fun c => .left (c.s.setEnt c.k ((c.e.wS 60 ((c.e.pc + 4).setWidth 32)).jump (c.jtarget o)))) s

/-- R141: the address in the chain's 4 GiB region with the given low word. -/
def regionAddr (pc : Dword) (low : Word) : Dword := (pc.extractLsb' 32 32) ++ low

/-- R141: a jump to a register. -/
def jumpReg (a : Reg) : State → Out :=
  issue { e := true, ops := [oS a] }
    (fun c =>
      let t := regionAddr c.e.chainPc (c.e.rS a.toNat)
      if t.toNat % 4 = 0 then [] else [{ cause := 0x03, lane := 255, addr := t.toNat }])
    (fun c => .left (c.goTo (regionAddr c.e.chainPc (c.e.rS a.toNat))))

/-- R141. -/
def execRet (s : State) : Out := jumpReg lrReg s

/-- R141. -/
def execJmpr (a : Reg) (s : State) : Out := jumpReg a s

/-- What majors 0x35 and 0x36 accept (R123, R124). -/
def accVb (ximm : Bool) : Accept := { pneg := true, ximm := ximm }

/-- R142. -/
def execVbany (k : BitVec 3) (o : BitVec 16) (s : State) : Out :=
  issue { e := true, ops := [oP k], acc := accVb true } noChk
    (fun c => if c.lanes &&& c.pred k ≠ 0 then .left (c.goTo (c.jtarget o)) else .done c.s) s

/-- R142. -/
def execVball (k : BitVec 3) (o : BitVec 16) (s : State) : Out :=
  issue { e := true, ops := [oP k], acc := accVb true } noChk
    (fun c => if c.lanes &&& ~~~(c.pred k) = 0 then .left (c.goTo (c.jtarget o)) else .done c.s) s

/-! ### Divergence (R23 to R27) -/

/-- R23: the per-entity state a snapshot covers. -/
def Entity.snap (e : Entity) : Snap :=
  { sregs := e.sregs, fpctl := e.fpctl, trapCause := e.trapCause, trapPc := e.trapPc, trapAddr := e.trapAddr, fmask := e.fmask, hsave := e.hsave }

/-- R25: a snapshot restored. -/
def Entity.unsnap (e : Entity) (n : Snap) : Entity :=
  { e with sregs := n.sregs, fpctl := n.fpctl, trapCause := n.trapCause, trapPc := n.trapPc, trapAddr := n.trapAddr, fmask := n.fmask, hsave := n.hsave }

/-- R23: the lowest free fetch slot of the entity's issue slot; what the core keeps for child waves is not free (R33). -/
def freeFslot (s : State) (k : Nat) : Option Nat :=
  if (ordinaryFree s (coreOfKey k)).1 < 1 then none
  else ((List.range 8).map (fun f => k / 8 * 8 + f)).find? (fun x => (look s.ents x).isNone)

/-- The places of an entity's writes and operations that are still under way, its writes to the host among them. -/
def ownUnderWay (s : State) (k w : Nat) : List Nat :=
  let mine := fun (ent wave serial : Nat) => if ent = k ∧ wave = w then some serial else none
  (s.core (coreOfKey k)).data.held.filterMap (fun h => mine h.ent h.wave h.serial) ++ s.homeQ.filterMap (fun o => mine o.ent o.wave o.serial) ++
  s.bankQ.filterMap (fun o => mine o.ent o.wave o.serial) ++ (hostWrites s).filterMap (fun o => mine o.ent o.wave o.serial)

/-- R23: the fragment a detaching VBR forms; what its lanes did before lies before its releases. -/
def fragment (e : Entity) (parent : Nat) (token pc : Dword) (mask : Lanes) (seen : List Nat) : Entity :=
  { e with
    pc := pc, resume := 0, boundary := true, buf := [], words := 0, chain := Chain.empty, park := .running, mask := mask, own := mask,
    pairs := [{ token := token, mode := .detached parent false }], replay := false, pending := [], stalled := none, runs := 0, fold := 0,
    lastFold := 0, progress := false, seen := seen }

/-- R275: an entity's scalar registers are poisoned no more. -/
def cleanScalars (s : State) (w k : Nat) : State := s.clean (fun p => match p with | .scalar x y _ => decide (x = w) && decide (y = k) | _ => false)

/-- R23, R275: a fragment's copies of the scalars are poisoned as what they were copied from. -/
def copyScalarPoison (s : State) (w k f : Nat) : State :=
  (s.poison.filterMap (fun p => match p with
    | .scalar x y n => if x = w ∧ y = k then some (Poison.scalar w f n) else none
    | _ => none)).foldl State.taint (cleanScalars s w f)

/-- R23: VBR with both sides non-empty. -/
def diverge (c : Ctx) (taken other : Lanes) (target fall token : Dword) : State :=
  let takenLarger := decide (lanesCount other < lanesCount taken)
  let extra := c.e.own &&& ~~~(taken ||| other)
  match freeFslot c.s c.k with
  | some f =>
    let stay := if takenLarger then taken else other
    let go := if takenLarger then other else taken
    let e1 : Entity := { c.e with mask := stay, own := stay ||| extra, pairs := { token := token, mode := .detached f true } :: c.e.pairs }
    let frag := fragment c.e c.k token (if takenLarger then fall else target) go (c.e.seen ++ ownUnderWay c.s c.k c.e.wave)
    copyScalarPoison ((c.s.setEnt c.k (e1.jump (if takenLarger then target else fall))).setEnt f frag) c.e.wave c.k f
  | none =>
    let ownT := if takenLarger then taken ||| extra else taken
    let ownN := if takenLarger then other else other ||| extra
    let e1 : Entity := { c.e with
      mask := taken, own := ownT
      pairs := { token := token, mode := .serialTaken takenLarger other ownN fall c.e.snap } :: c.e.pairs }
    c.s.setEnt c.k (e1.jump target)

/-- R23, R143: VBR. A split waits until every scalar of the entity has its value (R22). -/
def execVbr (k : BitVec 3) (toff koff : BitVec 11) (s : State) : Out :=
  issue { e := true, ops := [oP k], acc := accVb false } noChk
    (fun c =>
      let taken := c.lanes &&& c.pred k
      let other := c.lanes &&& ~~~(c.pred k)
      let target := c.e.pc + 4 * toff.signExtend 64
      if taken = 0 then .done c.s
      else if other = 0 then .left (c.goTo target)
      else if !(pendS c.s c.k).isEmpty then .stall
      else .left (diverge c taken other target (c.e.pc + 4) (c.e.pc + 4 * koff.signExtend 64))) s

/-- A core's queues with the keys of waves' entities changed. -/
def CoreData.rekey (d : CoreData) (f : Nat → Nat → Nat) : CoreData :=
  let op := fun (q : EngineOp) => { q with ent := f q.wave q.ent }
  { d with
    queue := d.queue.map op, enroute := d.enroute.map op, parts := d.parts.map op, run := d.run.map (fun x => { x with op := op x.op })
    copies := d.copies.map (fun x => { x with ent := f x.wave x.ent }), held := d.held.map (fun x => { x with ent := f x.wave x.ent }) }

/-- A packet of this package with its sender's key changed. -/
def rekeyPacket (f : Nat → Nat → Nat) (p : Packet) : Packet := if p.peer = none then { p with ent := f p.wave p.ent } else p

/-- A bin with the senders of its packets renamed. -/
def Bin.rekey (b : Bin) (f : Nat → Nat → Nat) : Bin := { b with packets := b.packets.map (rekeyPacket f) }

/-- A wave with the senders that it owes acknowledgements renamed. -/
def Wave.rekey (v : Wave) (f : Nat → Nat → Nat) : Wave :=
  { v with
    origin := v.origin.map (fun b => b.rekey f)
    acks := v.acks.map (fun a => if a.peer = none then { a with ent := f a.wave a.ent } else a) }

/-- A die whose host writes on their way carry other keys (R84, R309). -/
def Die.rekey (d : Die) (f : Nat → Nat → Nat) : Die :=
  let w := fun (x : DieWrite) => { x with ent := f x.wave x.ent }
  { d with opened := d.opened.map w, hostOut := d.hostOut.map (fun e => { e with writes := e.writes.map w }) }

/-- A poisoned scalar register under its entity's new key. -/
def Poison.rekey (f : Nat → Nat → Nat) : Poison → Poison
  | .scalar w k n => .scalar w (f w k) n
  | p => p

/-- Operations on their way, and poisoned scalars, with the keys of waves' entities changed: `f` gives the new key for a wave and a key. -/
def rekey (s : State) (f : Nat → Nat → Nat) : State :=
  { s with
    dies := s.dies.map (fun d => (d.1, d.2.rekey f))
    homeQ := s.homeQ.map (fun x => { x with ent := f x.wave x.ent }), replies := s.replies.map (fun x => { x with ent := f x.wave x.ent })
    bankQ := s.bankQ.map (fun x => { x with ent := f x.wave x.ent }), passQ := s.passQ.map (fun x => { x with ent := f x.wave x.ent })
    answers := s.answers.map (fun x => { x with ent := f x.wave x.ent }), icinvs := s.icinvs.map (fun x => { x with ent := f x.wave x.ent })
    packets := s.packets.map (rekeyPacket f), fabric := s.fabric.map (rekeyPacket f)
    statuses := s.statuses.map (fun m => { m with pkt := rekeyPacket f m.pkt }), acks := s.acks.map (fun x => { x with ent := f x.wave x.ent })
    sends := s.sends.map (fun x => { x with ent := f x.wave x.ent }), poison := s.poison.map (Poison.rekey f), waves := s.waves.map (fun w => (w.1, w.2.rekey f))
    pavs := s.pavs.map (fun p => (p.1, { p.2 with bins := p.2.bins.map (fun b => (b.1, b.2.rekey f)) }))
    rxqs := s.rxqs.map (fun q => (q.1, { q.2 with waiting := q.2.waiting.map (rekeyPacket f) })) }

/-- Operations under way of a wave's entities on a core become those of other keys: a merged fragment's, or a restored parent's. -/
def adoptAll (s : State) (core w : Nat) (ren : Nat → Nat) : State :=
  let r := fun (x k : Nat) => if x = w then ren k else k
  rekey (s.setData core ((s.core core).data.rekey r)) r

/-- Those of a merged fragment `f` of a wave become those of entity `t`, with its committing operations and its copies' parks. -/
def adopt (s : State) (core w f t : Nat) : State :=
  let ren := fun k => if k = f then t else k
  let c := s.core core
  let s1 := s.setCore core { c with crossed := c.crossed.map (fun x => { x with ent := ren x.ent }) }
  let die := s1.die (dieOfCore core)
  let s2 := s1.setDie (dieOfCore core) { die with parks := die.parks.map (fun p => { p with ent := ren p.ent }) }
  adoptAll s2 core w ren

/-- A parked entity goes on at an address. -/
def Entity.resumeAt (e : Entity) (pc : Dword) : Entity := { e.jump pc with park := .running }

/-- R25: the second side has reached the token: the staying side `k` takes the fragment `f` in and goes on after RCV. -/
def mergePair (s : State) (k : Nat) (e : Entity) (f : Nat) (g : Entity) (after : Dword) : State :=
  let e1 : Entity := { e with
    mask := e.mask ||| g.mask, own := e.own ||| g.own, pairs := e.pairs.tail, pending := e.pending ++ g.pending, seen := e.seen ++ g.seen,
    released := max e.released g.released }
  let s1 := cleanScalars { s with ents := erase s.ents f } e.wave f
  (adopt (s1.setEnt k (e1.resumeAt after)) (coreOfKey k) e.wave f k)

/-- R25: the effect of RCV. -/
def reconverge (c : Ctx) : Res :=
  let after := c.e.pc + 4
  match c.e.pairs with
  | [] => .done c.s
  | p :: rest =>
    if p.token ≠ c.e.pc then .done c.s
    else
      match p.mode with
      | .detached partner stays =>
        if !(pendS c.s c.k).isEmpty then .stall
        else
          match look c.s.ents partner with
          | none => .left (c.s.setEnt c.k ({ c.e with pairs := rest }.jump after))
          | some q =>
            let here := decide (q.park = .rcv) && (match q.pairs with
              | x :: _ => decide (x.token = p.token) && (match x.mode with | .detached y _ => decide (y = c.k) | _ => false)
              | [] => false)
            if !here then .left (c.parkPast .rcv)
            else if stays then .left (mergePair c.s c.k c.e partner q after)
            else .left (mergePair c.s partner q c.k c.e after)
      | .serialTaken larger mask own pc snap =>
        if !(pendS c.s c.k).isEmpty then .stall
        else
          let e1 := (c.e.unsnap snap).jump pc
          let e2 : Entity := { e1 with
            mask := mask, own := own, pairs := { token := p.token, mode := .serialNot larger c.e.mask c.e.own c.e.snap } :: rest }
          .left (c.s.setEnt c.k e2)
      | .serialNot larger mask own snap =>
        if !(pendS c.s c.k).isEmpty then .stall
        else
          let e1 := if larger then c.e.unsnap snap else c.e
          let e2 : Entity := { e1.jump after with mask := c.e.mask ||| mask, own := c.e.own ||| own, pairs := rest }
          .left (c.s.setEnt c.k e2)

/-- R25, R143: RCV always ends its run (R19). -/
def execRcv (_ : Bool) (s : State) : Out := issue { e := true, ops := [] } noChk reconverge s

/-! ### Barriers (R145) -/

/-- R145: every live entity of a wave is parked on the barrier, or the wave has executed EXIT. -/
def waveArrived (s : State) (p : Park) (w : Nat) : Bool :=
  !(s.spilled.any (fun x => decide (x.waveId = w))) &&
  (entsOf s w).all (fun e => decide (e.2.park = p) || decide (e.2.park = .exited))

/-- R145: every entity of the blocks parked on the barrier goes on after it. -/
def releaseAll (s : State) (p : Park) (bs : List Nat) : State :=
  let ws := bs.flatMap (wavesOfBlock s)
  { s with ents := s.ents.map (fun e =>
      (e.1, if ws.contains e.2.wave ∧ e.2.park = p then e.2.resumeAt e.2.resume else e.2)) }

/-- R246: one operating-point step from the pavilion whose gang arrived first to that whose gang arrived last. -/
def balance (s : State) (first last : Nat) : State :=
  if first = last then s
  else
    let f := s.pav first
    let l := s.pav last
    if f.point ≤ f.lowest ∨ l.point ≥ l.highest then s
    else setPoint (setPoint s first (f.point - 1)) last (l.point + 1)

/-- Drop the first `n` elements that meet a test. -/
def dropFirst {α : Type} (f : α → Bool) : Nat → List α → List α
  | 0, l => l
  | _, [] => []
  | n + 1, a :: r => if f a then dropFirst f n r else a :: dropFirst f (n + 1) r

/-- R246: when every placed gang of a launch on two or more pavilions has made its k-th release, the controller moves once. -/
def balanceRelease (s : State) (l k : Nat) : State :=
  match look s.launches l with
  | none => s
  | some v =>
    let gs := s.gangs.filter (fun g => decide (g.2.owner = .launch l) && g.2.id ≠ 0xFFFFFFFF)
    let pavs := (gs.map (fun g => g.2.pav)).eraseDups
    let of := v.arrivals.filter (fun a => decide (a.1 = k) && pavs.contains a.2)
    if gs.all (fun g => decide (k ≤ g.2.releases)) && !gs.isEmpty then
      let s1 := s.setLaunch l { v with arrivals := v.arrivals.filter (fun a => decide (a.1 ≠ k)) }
      match of.head?, of.getLast? with
      | some a, some b => if pavs.length ≥ 2 then balance s1 a.2 b.2 else s1
      | _, _ => s1
    else s

/-- R145, R246: a gang has made a barrier release. -/
def noteRelease (s : State) (g : Nat) : State :=
  match look s.gangs g with
  | none => s
  | some q =>
    let s1 := s.setGang g { q with releases := q.releases + 1 }
    match q.owner with
    | .tree _ => s1
    | .launch l =>
      if q.id = 0xFFFFFFFF then s1
      else balanceRelease (s1.modLaunch l (fun v => { v with arrivals := v.arrivals ++ [(q.releases + 1, q.pav)] })) l (q.releases + 1)

/-- R145, R277: the gang barrier releases: its waves have passed one more, and no core of the gang finds an older value in its L1 (R85). -/
def gangRelease (s : State) (gang : Nat) (g : Gang) : State :=
  let ws := g.blocks.flatMap (wavesOfBlock s)
  let s1 := releaseAll s .gbar g.blocks
  let s2 := { s1 with waves := s1.waves.map (fun w => (w.1, if ws.contains w.1 then { w.2 with gbars := w.2.gbars + 1 } else w.2)) }
  let s3 := (g.blocks.filterMap (fun b => (look s.blocks b).map (fun x => x.core))).foldl dropL1 s2
  let s4 := s3.setGang gang { g with gbars := g.gbars + 1 }
  if g.blocks.length = 1 then s4 else noteRelease s4 gang

/-- R277: a wave that a strike has brought back before a gang barrier that has released goes past it when it has arrived again. -/
def passReleased (s : State) (g : Gang) : State :=
  (g.blocks.flatMap (wavesOfBlock s)).foldl (fun s w => match look s.waves w with
    | some v =>
      if v.gbars < g.gbars ∧ v.ended = false ∧ (entsOf s w).any (fun e => decide (e.2.park = .gbar)) = true ∧ waveArrived s .gbar w = true then
        let s1 := s.setWave w { v with gbars := v.gbars + 1 }
        { s1 with ents := s1.ents.map (fun e => (e.1, if e.2.wave = w ∧ e.2.park = .gbar then e.2.resumeAt e.2.resume else e.2)) }
      else s
    | none => s) s

/-- R145: release the barriers of a block's gang whose last arrival has come. -/
def checkBarriers (s : State) (block : Nat) : State :=
  match look s.blocks block with
  | none => s
  | some b =>
    let ws := wavesOfBlock s block
    let waits := fun (s : State) (p : Park) (ws : List Nat) => s.ents.any (fun e => ws.contains e.2.wave && decide (e.2.park = p))
    let s1 :=
      if waits s .bar ws && ws.all (waveArrived s .bar) then
        let r := releaseAll s .bar [block]
        match look s.gangs b.gang with
        | some g => if g.blocks.length = 1 then noteRelease r b.gang else r
        | none => r
      else s
    match look s1.gangs b.gang with
    | none => s1
    | some g =>
      let s2 := passReleased s1 g
      let gws := g.blocks.flatMap (wavesOfBlock s2)
      if waits s2 .gbar gws && gws.all (waveArrived s2 .gbar) then gangRelease s2 b.gang g else s2

/-- R85, R145: arrive at a barrier once every access of the entity has reached its point of coherence. -/
def barrier (p : Park) : State → Out :=
  issue { e := true, ops := [] } (fun c => if c.e.pairs = [] then [] else [bare 0x02])
    (fun c =>
      if c.quiet = false then .stall
      else .left (checkBarriers (noteReleased (c.parkPast p) c.k c.die) c.v.block))

/-- R145. -/
def execBar (_ : Bool) (s : State) : Out := barrier .bar s

/-- R145. -/
def execGbar (_ : Bool) (s : State) : Out := barrier .gbar s

/-! ### EXIT (R27, R41, R144) -/

/-- The record names a detached partner. -/
def Pair.names (k : Nat) (x : Pair) : Bool := match x.mode with | .detached y _ => decide (y = k) | _ => false

/-- A record of a detached pair whose other side is now entity `q` where it was `k`. -/
def Pair.rename (k q : Nat) (x : Pair) : Pair :=
  match x.mode with | .detached y st => if y = k then { x with mode := .detached q st } else x | _ => x

/-- R27: the pair of an entity that exits is closed; its partner goes on after the token when it is parked there, and takes the place of the
exiting entity in the pairs that are open around it, `outer` (assumption 25). `gone` names the exiting side's stores that are still under way:
the partner's accesses come after them. -/
def closePair (s : State) (k partner : Nat) (outer : List Pair) (gone : List Nat) : State :=
  { s with ents := s.ents.map (fun x =>
      let q := x.2
      if x.1 = partner then
        let at' := decide (q.park = .rcv) && ((q.pairs.head?.map (Pair.names k)).getD false)
        let q1 : Entity := { q with pairs := q.pairs.filter (fun p => !(p.names k)) ++ outer, seen := q.seen ++ gone }
        (x.1, if at' then q1.resumeAt q1.resume else q1)
      else (x.1, { q with pairs := q.pairs.map (Pair.rename k partner) })) }

/-- R27, R144: EXIT closes the innermost pair. In a detached pair the entity drains; in a serial pair it goes on as the other side. -/
def exitPairs (s : State) (k : Nat) (e : Entity) : State :=
  let drained := { e.jump e.chainPc with park := .exited, pairs := [] }
  match e.pairs with
  | [] => s.setEnt k drained
  | p :: rest =>
    match p.mode with
    | .detached partner _ => (closePair s k partner rest (e.seen ++ ownUnderWay s k e.wave)).setEnt k drained
    | .serialTaken _ mask own pc snap =>
      let e1 := (e.unsnap snap).jump pc
      s.setEnt k { e1 with mask := mask, own := own, pairs := rest }
    | .serialNot _ mask own snap =>
      let e1 := (e.unsnap snap).jump (p.token + 4)
      s.setEnt k { e1 with mask := mask, own := own, pairs := rest }

/-- R144: EXIT; while the wave's generator is active it is misuse (R224). -/
def execExit (s : State) : Out :=
  issue { e := true, ops := [] } (fun c => if c.v.gen.isSome then [bare 0x32] else [])
    (fun c =>
      if !(pendS c.s c.k).isEmpty && !c.e.pairs.isEmpty then .stall
      else .left (checkBarriers (exitPairs c.s c.k c.e) c.v.block)) s

/-! ### PAUSE, special registers, TRAP and TRET (R146 to R150) -/

/-- R8, R147: the CYCLE of a core, 0 at its reset. Cores leave reset one after another while the part boots, so in service their counts are
not related (assumption 9). -/
def cycleOf (s : State) (core : Nat) : Nat := (if s.ctl.bootState < 4 then 0 else Config.cycleStart s.resetAt core) + coreCycles s core

/-- R146. -/
def execPause (_ : Bool) (a : Reg) (s : State) : Out :=
  issue { e := true, ops := [oS a] } noChk
    (fun c => .left (c.parkPast (.pause (coreCycles c.s c.core + max 1 ((c.e.rS a.toNat).toNat % 65536))))) s

/-- R57: BUDGET_T. -/
def timeLeft (s : State) (o : Owner) : Word :=
  match launchOf s o with
  | none => 0xFFFFFFFF
  | some v =>
    if v.record.tbudget = 0xFFFFFFFF then 0xFFFFFFFF
    else BitVec.ofNat 32 (v.record.tbudget - (match v.startTick with | some t => (s.tick - t) / 100 | none => 0))

/-- R57: BUDGET_E; `charged` counts sixteenths of a millijoule (R56). -/
def energyLeft (s : State) (o : Owner) : Word :=
  match launchOf s o with
  | none => 0xFFFFFFFF
  | some v => if v.record.ebudget = 0xFFFFFFFF then 0xFFFFFFFF else BitVec.ofNat 32 (v.record.ebudget - v.charged / 16)

/-- R147: the 64-bit registers. -/
def sprWide : List Nat := [0x0E, 0x12, 0x1A, 0x1C]

/-- R147: every register of the table. -/
def sprAll : List Nat :=
  [0x00, 0x01, 0x02, 0x03, 0x04, 0x05, 0x06, 0x07, 0x08, 0x09, 0x0A, 0x0B, 0x0C, 0x0E, 0x10, 0x11, 0x12, 0x14, 0x15, 0x16, 0x18, 0x1A,
   0x1C, 0x20, 0x21, 0x22, 0x24, 0x25, 0x26, 0x27]

/-- R147: the registers SWR may write. -/
def sprWritable : List Nat := [0x10, 0x11, 0x1A, 0x24, 0x25, 0x26, 0x27]

/-- R40, R147: the grid's dimensions as a wave reads them. -/
def gridOf (s : State) (o : Owner) (i : Nat) : Nat :=
  match launchOf s o with
  | none => 1
  | some v => match i with | 0 => v.record.gridX | 1 => v.record.gridY | _ => v.record.gridZ

/-- R147, R148: the value of a special register. -/
def sprRead (c : Ctx) (i : Nat) : Dword :=
  let w := fun (x : Word) => x.setWidth 64
  let blk := fun (f : Block → Nat) => BitVec.ofNat 64 ((c.block.map f).getD 0)
  match i with
  | 0x00 => BitVec.ofNat 64 (slotOfKey c.k * 2 ^ 10 + fslotOfKey c.k * 2 ^ 7 + c.v.wib)
  | 0x01 => blk (fun b => b.x)
  | 0x02 => blk (fun b => b.y)
  | 0x03 => blk (fun b => b.z)
  | 0x04 => blk (fun b => b.lin)
  | 0x05 => BitVec.ofNat 64 ((c.gang.map (fun g => g.id)).getD 0)
  | 0x06 => blk (fun b => b.rank)
  | 0x07 => BitVec.ofNat 64 (c.core % 64)
  | 0x08 => BitVec.ofNat 64 c.die
  | 0x09 => c.s.ctl.chipId.setWidth 64
  | 0x0A => BitVec.ofNat 64 (gridOf c.s c.v.owner 0)
  | 0x0B => BitVec.ofNat 64 (gridOf c.s c.v.owner 1)
  | 0x0C => BitVec.ofNat 64 (gridOf c.s c.v.owner 2)
  | 0x0E => (c.block.map (fun b => b.tags)).getD (BitVec.allOnes 64)
  | 0x10 => w c.v.fpstat
  | 0x11 => w c.e.fpctl
  | 0x12 => BitVec.ofNat 64 (cycleOf c.s c.core)
  | 0x14 => w (timeLeft c.s c.v.owner)
  | 0x15 => w (energyLeft c.s c.v.owner)
  | 0x16 => w c.v.passIdx
  | 0x18 => w c.e.trapCause
  | 0x1A => c.e.trapPc
  | 0x1C => c.e.trapAddr
  | 0x20 => w (beatOf c.e.fmask 0)
  | 0x21 => w (beatOf c.e.fmask 1)
  | 0x22 => w (beatOf c.e.fmask 2)
  | _ => w ((look c.e.hsave (i - 0x24)).getD 0)

/-- The register operand of SRD and SWR. -/
def sprOperand (i : Nat) (r : Reg) : Operand := if sprWide.contains i then oS2 r else oS r

/-- R147. -/
def execSrd (e : Bool) (d b : Reg) (s : State) : Out :=
  let i := b.toNat
  issue { e := e, ops := [sprOperand i d], dst := 1 }
    (fun c => if !(sprAll.contains i) then [bare 0x01] else if 0x24 ≤ i ∧ c.e.level = false then [bare 0x04] else [])
    (fun c =>
      let v := sprRead c i
      .done (c.s.setEnt c.k (if sprWide.contains i then c.e.wPair d.toNat v else c.e.wS d.toNat (v.setWidth 32)))) s

/-- R147: the write of a special register. Reserved bits of FPSTAT, FPCTL and TRAP_PC stay zero (R104, R110). -/
def sprWrite (c : Ctx) (i : Nat) (v : Dword) : State :=
  match i with
  | 0x10 => c.s.setWave c.e.wave { c.v with fpstat := v.setWidth 32 &&& 31 }
  | 0x11 => c.s.setEnt c.k { c.e with fpctl := v.setWidth 32 &&& 3 }
  | 0x1A => c.s.setEnt c.k { c.e with trapPc := v &&& 0x00FFFFFFFFFFFFFF }
  | _ => c.s.setEnt c.k { c.e with hsave := put c.e.hsave (i - 0x24) (v.setWidth 32) }

/-- R147. -/
def execSwr (e : Bool) (a b : Reg) (s : State) : Out :=
  let i := b.toNat
  issue { e := e, ops := [sprOperand i a] }
    (fun c =>
      if !(sprAll.contains i) then [bare 0x01]
      else if !(sprWritable.contains i) then [bare 0x02]
      else if (0x24 ≤ i ∨ i = 0x1A) ∧ c.e.level = false then [bare 0x04] else [])
    (fun c => .done (sprWrite c i (if sprWide.contains i then c.e.rPair a.toNat else (c.e.rS a.toNat).setWidth 64))) s

/-- R149. -/
def execTrap (n : BitVec 7) (s : State) : Out := issue { e := true, ops := [] } noChk (fun _ => .trap (bare (0x80 + n.toNat))) s

/-- R150, R254. -/
def execTret (s : State) : Out :=
  issue { e := true, ops := [] }
    (fun c =>
      if c.e.level = false then [bare 0x04]
      else if c.e.trapPc.toNat % 4 = 0 then [] else [{ cause := 0x03, lane := 255, addr := c.e.trapPc.toNat }])
    (fun c => .left (c.s.setEnt c.k c.e.leaveHandler)) s

/-! ### Code that changes (R151, R152) -/

/-- R151. -/
def execIcinv (e : Bool) (a b : Reg) (s : State) : Out :=
  issue { e := e, ops := [oS2 a, oS b] } noChk
    (fun c =>
      let len := (c.e.rS b.toNat).toNat
      let i : Icinv :=
        { ent := c.k, serial := c.s.fresh, wave := c.e.wave, asid := c.v.asid, base := (c.e.rPair a.toNat).toNat, len := len,
          all := decide (len = 0), clock := [] }
      .done (State.bump { c.s with icinvs := c.s.icinvs ++ [i] })) s

/-- R152: IFENCE drops any run fetched ahead and holds the entity until its invalidations have completed. -/
def execIfence (s : State) : Out :=
  issue { e := true, ops := [] } noChk
    (fun c =>
      if c.s.icinvs.any (fun i => decide (i.ent = c.k) && decide (i.wave = c.e.wave)) then .left (c.parkPast .icinv)
      else .left (c.goTo (c.e.pc + 4))) s

/-- R152. -/
def execNop (e : Bool) (s : State) : Out := issue { e := e, ops := [] } noChk (fun c => .done c.s) s

/-! ### Prefixes and words without an instruction (R122 to R127) -/

/-- What stands before a prefix is judged by the chain's target, so a prefix accepts every prefix (R122). -/
def accAll : Accept := { pneg := true, rm := true, sat := true, scope := true, ch := true, ord := [1, 2, 3], ximm := true }

/-- R122: no prefix has been issued. -/
def Chain.isEmpty (c : Chain) : Bool := !c.hint && c.xmod.isNone && c.ximm.isNone

/-- R122: a prefix is kept for its target, unless it is out of order, repeated, or the 24th word of its run. -/
def prefixWord (late : Chain → Bool) (keep : Chain → Chain) : State → Out :=
  issue { e := false, ops := [], acc := accAll }
    (fun c => if late c.e.chain ∨ c.e.words + 1 ≥ Config.runLength then [bare 0x01] else [])
    (fun c =>
      let ch := keep { c.e.chain with first := some c.e.chainPc }
      .left (c.s.setEnt c.k { c.e with
        pc := c.e.pc + 4, chain := ch, buf := c.e.buf.tail, words := c.e.words + 1, stalled := none }))

/-- R123. -/
def execXimm (imm : BitVec 25) (s : State) : Out := prefixWord (fun c => c.ximm.isSome) (fun c => { c with ximm := some imm }) s

/-- R124. -/
def execXmod (pneg rmv : Bool) (rm : BitVec 2) (sat scv : Bool) (scope : BitVec 3) (ch ord : BitVec 2) (s : State) : Out :=
  let x : Xmod := { pneg := pneg, rmv := rmv, rm := rm, sat := sat, scv := scv, scope := scope, ch := ch, ord := ord }
  prefixWord (fun c => c.ximm.isSome || c.xmod.isSome) (fun c => { c with xmod := some x }) s

/-- R125: a hint has no effect beyond its place in the chain. -/
def execHint (_ : BitVec 5) (s : State) : Out :=
  prefixWord (fun c => c.ximm.isSome || c.xmod.isSome || c.hint) (fun c => { c with hint := true }) s

/-- R127: a word of the hint region is a NOP and no target of a prefix (R122). -/
def execHintRegionNop (e : Bool) (_ : BitVec 2) (s : State) : Out :=
  issue { e := e, ops := [] } (fun c => if c.e.chain.isEmpty then [] else [bare 0x01]) (fun c => .done c.s) s

/-- R173, R259: PGET with PRED ≠ 0 is the one word without an instruction whose cause is ILLEGAL_OPERAND. -/
def illegalCause (w : Word) : Nat := if w.toNat / 2 ^ 25 % 64 = 0x1B ∧ w.toNat / 8 % 16 = 1 then 0x02 else 0x01

/-- R127: a word without an instruction. -/
def execIllegalWord (w : BitVec 32) (s : State) : Out :=
  issue { e := false, ops := [], acc := accV } (fun _ => [bare (illegalCause w)]) (fun c => .done c.s) s

end Sys2Proof.Machine
end

