-- ==== Sys2Proof/Machine/Copy.lean ====
section
/-! DEFINITION. The copy engine and the tags (R73 to R77, R90, R187 to R191, R263): majors 0x28 and 0x29. -/

namespace Sys2Proof.Machine

open Sys2Proof

/-- R73: where the byte at logical offset j of row i of tile k lies. -/
def place (base pitch rot tile k i j : Nat) : Nat :=
  let l := base + k * tile * 64 + i * pitch + j
  l / 256 * 256 + ((l / 8 % 32 + i * rot) % 32) * 8 + l % 8

/-- A set of frames of one core, from byte extents (low, length). -/
def framesOf (core : Nat) (extents : List (Nat × Nat)) : List Frame :=
  (extents.foldl (fun (m : NMap Unit) x =>
    if x.2 = 0 then m
    else (List.range ((x.1 + x.2 - 1) / 1024 - x.1 / 1024 + 1)).foldl (fun m i => put m (x.1 / 1024 + i) ()) m) []).map (fun e => (core, e.1))

/-- One operand of a copy as issue meets it: the operand, its causes, its frames, its scope (R76). -/
structure CopySide where
  op     : CopyOp
  traps  : List Trap
  frames : List Frame
  scope  : Nat

/-- A cause at an address, tied to no lane. -/
def atAddr (cause addr : Nat) : Trap := { cause := cause, lane := 255, addr := addr }

/-- R71, R72: the first byte beyond an allocation of `size` bytes that rows reach, which names the refused row (assumption 74). -/
def firstBeyond (base pitch bytes size : Nat) (rows : List Nat) : Option Nat :=
  (rows.find? (fun q => decide (base + q * pitch + bytes > size))).map (fun q => max size (base + q * pitch))

/-- R78, R190: the causes of `bytes` bytes at an Orangery offset for a copy, each at the row's first or last byte (assumption 74). -/
def orngRow (s : State) (asid o bytes : Nat) (write : Bool) : List Trap :=
  let codes := if write then [2] else [1, 2]
  [o, o + bytes - 1].flatMap (fun x =>
    if orngClosed x then [atAddr 0x12 x] else if codes.contains (orngCode s asid x) then [] else [atAddr 0x11 x])

/-- The pages of `bytes` bytes at a virtual address: the first address in each. -/
def pageStarts (va bytes : Nat) : List Nat :=
  (List.range ((va + bytes - 1) / 4096 - va / 4096 + 1)).map (fun i => max va ((va / 4096 + i) * 4096) % 2 ^ 64)

/-- The rows of a copy that reach memory. -/
def rowList (rows bytes : Nat) : List Nat := if bytes = 0 then [] else List.range rows

/-- R187 to R190: an operand named by the group at register g. `rows` are the rows checked at issue, `moved` those that it will move as far as
issue can tell. A base or pitch that is no multiple of 8 is named by the operand's base (assumption 73). -/
def copySide (c : Ctx) (g : Nat) (write : Bool) (rows moved : List Nat) (bytes : Nat) : CopySide :=
  let r := fun j => (c.e.rS (g + j)).toNat
  let space := bits (r 3) 0 3
  let need : Need := if write then .copyWrite else .copyRead
  let none' : CopyOp := { space := space, base := 0, pitch := 0, rot := 0, core := 0, frame := 0, frames := 0 }
  if 4 ≤ space then { op := none', traps := [bare 0x02], frames := [], scope := 1 }
  else if space ≤ 1 then
    let base := bits (r 0) 0 19
    let rot := bits (r 0) 19 3
    let pitch := bits (r 1) 0 16
    let idx := bits (r 3) 8 4
    let tag := if space = 1 then idx * 2 ^ 24 else 0
    let blk := if space = 0 then c.block else (c.gang.bind (fun q => q.blocks[idx]?)).bind (fun b => look c.s.blocks b)
    let size := (blk.map (fun b => b.frames * 1024)).getD 0
    let core := (blk.map (fun b => b.core)).getD 0
    let frame := (blk.map (fun b => b.frame)).getD 0
    let t1 := if rot ≠ 0 ∧ (base % 256 ≠ 0 ∨ pitch % 256 ≠ 0 ∨ bits (r 1) 16 16 % 4 ≠ 0) then [bare 0x02] else []
    let t2 := if base % 8 ≠ 0 ∨ pitch % 8 ≠ 0 then [atAddr 0x03 (tag + base)] else []
    let t3 := if blk.isNone then [atAddr 0x12 (tag + base)]
      else match firstBeyond base pitch bytes size rows with | some x => [atAddr 0x12 (tag + x)] | none => []
    { op := { space := space, base := base, pitch := pitch, rot := rot, core := core, frame := frame, frames := size / 1024 },
      traps := t1 ++ t2 ++ t3, scope := space + 1,
      frames := if t3.isEmpty then framesOf core (rows.map (fun q => (frame * 1024 + base + q * pitch, bytes))) else [] }
  else if space = 2 then
    let off := bits (r 0) 0 30
    let pitch := bits (r 3) 8 24
    { op := { none' with base := off, pitch := pitch }
      traps := (if off % 8 ≠ 0 ∨ pitch % 8 ≠ 0 then [atAddr 0x03 off] else []) ++
        rows.flatMap (fun q => orngRow c.s c.v.asid (off + q * pitch) bytes write)
      frames := [], scope := 4 }
  else
    let va := r 0 + r 1 * 2 ^ 32
    let pitch := bits (r 3) 8 24
    let starts := fun (qs : List Nat) => qs.flatMap (fun q => pageStarts (va + q * pitch) bytes)
    { op := { none' with base := va, pitch := pitch }
      traps := (if va % 8 ≠ 0 ∨ pitch % 8 ≠ 0 then [atAddr 0x03 va] else []) ++
        (starts rows).flatMap (fun x => (xlate c.s c.core c.v.asid need x).causes.map (fun k => atAddr k x))
      frames := []
      scope := if (starts moved).any (fun x => match (xlate c.s c.core c.v.asid need x).pa with
        | some p => decide (target p = .host) | none => false) then 5 else 4 }

/-- What CPY and CPYG do at issue. -/
structure CopyIssue where
  copy  : Copy
  traps : List Trap
  scope : Nat

/-- R188: row r's source row under CPYG. -/
def indexOf (s : State) (core frame idx r : Nat) : Nat := rdN (s.core core).data.scratch (frame * 1024 + idx + 4 * r) 4

/-- R74, R187 to R189: the copy a word names, its causes and its scope. Row bytes that are no multiple of 8 have no address (assumption 73). -/
def copyIssue (c : Ctx) (gather : Bool) (t a b : Reg) : CopyIssue :=
  let shape := (c.e.rS (a.toNat + 2)).toNat
  let rows := bits shape 16 16
  let bytes := bits shape 0 16
  let all := rowList rows bytes
  let blk := c.block
  let idx := bits (c.e.rS (b.toNat + 2)).toNat 0 19
  let alloc := (blk.map (fun x => x.frames * 1024)).getD 0
  let frame0 := (blk.map (fun x => x.frame)).getD 0
  let listOk := all.isEmpty || decide (idx + 4 * all.length ≤ alloc)
  let moved := if gather then (if listOk then all.map (indexOf c.s c.core frame0 idx) else []) else all
  let src := copySide c a.toNat false (if gather then [] else all) moved bytes
  let dst := copySide c b.toNat true all all bytes
  let gSrc := if gather ∧ src.op.space ≤ 1 then
      framesOf src.op.core (moved.filterMap (fun q =>
        if src.op.base + q * src.op.pitch + bytes ≤ src.op.frames * 1024 then some (src.op.frame * 1024 + src.op.base + q * src.op.pitch, bytes)
        else none))
    else []
  let gIdx := if gather ∧ listOk = true then framesOf c.core [(frame0 * 1024 + idx, 4 * all.length)] else []
  let t1 := if decide ((blk.map (fun x => x.ntags)).getD 0 ≤ t.toNat) then [bare 0x20] else []
  let t2 := if bytes % 8 ≠ 0 then [atAddr 0x03 0] else []
  let t3 := if dst.op.space < 4 ∧ dst.op.pitch < bytes then [bare 0x02] else []
  let t4 := if gather ∧ listOk = false then [atAddr 0x12 (max alloc idx)] else []
  { traps := t1 ++ t2 ++ src.traps ++ dst.traps ++ t3 ++ t4, scope := max src.scope dst.scope,
    copy :=
      { block := c.v.block, ent := c.k, wave := c.e.wave, asid := c.v.asid, tag := t.toNat, gather := gather, index := idx, src := src.op,
        dst := dst.op, rows := all.length, bytes := bytes, row := 0, reads := (src.frames ++ gSrc ++ gIdx).eraseDups, writes := dst.frames,
        parked := none } }

/-- R76: an earlier store of the wave, by any of its entities, has not reached its point of coherence. -/
def waveStores (s : State) (core w : Nat) : Bool := underWay s core (fun ent wave _ => decide (wave = w) && decide (ent < 2 ^ 20))

/-- R75, R76, R188: a copy word; its issue is a release of the wave's earlier stores. -/
def copyWord (gather : Bool) (e : Bool) (t a b : Reg) : State → Out :=
  issue { e := e, ops := [oGroup a 4, oGroup b 4], acc := { ch := true }, prog := true }
    (fun c => (copyIssue c gather t a b).traps)
    (fun c =>
      let i := copyIssue c gather t a b
      let busy := match c.block with | some x => !(x.tags.getLsbD t.toNat) | none => true
      if c.acquiring || busy || decide (16 ≤ c.data.copies.length) || setsBusy c.s i.copy.reads i.copy.writes then .stall
      else
        let go := fun (c : Ctx) =>
          let d := c.data
          let s1 := c.s.setData c.core { d with copies := d.copies ++ [i.copy] }
          Res.done (s1.modBlock c.v.block (fun x => { x with tags := x.tags &&& ~~~(1#64 <<< t.toNat) }))
        if i.scope < 2 then go c
        else if waveStores c.s c.core c.e.wave then .stall else afterRelease c i.scope go)

/-- R187, R188. -/
def execCpy (e : Bool) (t a b : Reg) (s : State) : Out := copyWord false e t a b s

/-- R187, R188, R190. -/
def execCpyg (e : Bool) (t a b : Reg) (s : State) : Out := copyWord true e t a b s

/-! ### Waiting on tags (R75, R191) -/

/-- R75: the condition of TWAIT, and of TANY when `any`. -/
def tagsMet (any : Bool) (m tags : Dword) : Bool :=
  if any then decide (m = 0) || decide (m &&& tags ≠ 0) else decide (m &&& ~~~tags = 0)

/-- The tags of the entity's block. -/
def Ctx.tags (c : Ctx) : Dword := (c.block.map (fun b => b.tags)).getD (BitVec.allOnes 64)

/-- R75, R191: TWAIT and TANY end their run whether or not they park. -/
def tagWait (any : Bool) (a : Reg) : State → Out :=
  issue { e := true, ops := [oS2 a] } noChk
    (fun c => if tagsMet any (c.e.rPair a.toNat) c.tags then .done c.s else .left (c.parkPast (.tags any (c.e.rPair a.toNat))))

/-- R75. -/
def execTwait (_ : Bool) (a : Reg) (s : State) : Out := tagWait false a s

/-- R75. -/
def execTany (_ : Bool) (a : Reg) (s : State) : Out := tagWait true a s

/-- R75. -/
def execTfirst (e : Bool) (d a : Reg) (s : State) : Out :=
  scalarWord e [oS d, oS2 a] {} (fun c =>
    let x := c.e.rPair a.toNat &&& c.tags
    c.e.wS d.toNat (match (List.range 64).find? (fun i => x.getLsbD i) with | some i => BitVec.ofNat 32 i | none => 0xFFFFFFFF)) s

/-! ### The engine (R188, R190, R263) -/

/-- How moving rows ends. -/
inductive CopyEnd where
  | all
  | unmapped (va : Nat) (write : Bool)
  | refused (cause addr : Nat)
  deriving DecidableEq, Repr

/-- R190, R263: the first obstacle of `bytes` bytes of row q of an operand. A row beyond an allocation is named by the first byte beyond it,
without a core's index (assumption 74). -/
def rowObstacle (s : State) (core asid : Nat) (o : CopyOp) (write : Bool) (q bytes : Nat) : CopyEnd :=
  if o.space ≤ 1 then
    if o.base + q * o.pitch + bytes ≤ o.frames * 1024 then .all else .refused 0x12 (max (o.frames * 1024) (o.base + q * o.pitch))
  else if o.space = 2 then
    match orngRow s asid (o.base + q * o.pitch) bytes write with | t :: _ => .refused t.cause t.addr | [] => .all
  else
    let need : Need := if write then .copyWrite else .copyRead
    (pageStarts (o.base + q * o.pitch) bytes).foldl (fun r x =>
      match r with
      | .all =>
        let t := xlate s core asid need x
        match firstTrap (t.causes.map (fun k => atAddr k x)) with
        | some y => .refused y.cause x
        | none => if t.pa.isNone then .unmapped x write else .all
      | _ => r) .all

/-- R188: the 8-byte word at offset j of row q of an operand. -/
def copyRead (s : State) (core asid : Nat) (o : CopyOp) (q j : Nat) : List Byte :=
  if o.space ≤ 1 then rdBytes (s.core o.core).data.scratch (o.frame * 1024 + place o.base o.pitch o.rot 0 0 q j) 8
  else if o.space = 2 then rdBytes s.orangery (o.base + q * o.pitch + j) 8
  else
    match (xlate s core asid .copyRead ((o.base + q * o.pitch + j) % 2 ^ 64)).pa with
    | some pa => (List.range 8).map (fun i => dieByte s (dieOfCore core) (pa + i))
    | none => []

/-- R188, R275, R277: an 8-byte word written: in place on the copy's core, through its strike buffer elsewhere; poison of what was read moves
with it. -/
def copyWrite (s : State) (core : Nat) (x : Copy) (q j : Nat) (data : List Byte) (bad : Bool) : State :=
  let o := x.dst
  let hold := fun dst => holdAt s core (copyEnt x.block x.tag) x.wave 0 dst data bad
  if o.space ≤ 1 then
    let at' := o.frame * 1024 + place o.base o.pitch o.rot 0 0 q j
    if o.core = core then (if bad then (spadWrite s core at' data).taint (.scratch core (at' / 8 * 8)) else spadWrite s core at' data)
    else hold (.scratch o.core at')
  else if o.space = 2 then hold (.orangery (o.base + q * o.pitch + j))
  else
    match (xlate s core x.asid .copyWrite ((o.base + q * o.pitch + j) % 2 ^ 64)).pa with
    | some pa => hold (.memory pa)
    | none => s

/-- R275: eight bytes of an operand are poisoned. -/
def wordPoison (s : State) (core asid : Nat) (o : CopyOp) (q j : Nat) : Bool :=
  if o.space ≤ 1 then (scratchPoison s o.core (o.frame * 1024 + place o.base o.pitch o.rot 0 0 q j) 8).isSome
  else if o.space = 2 then (orngPoison s (o.base + q * o.pitch + j) 8).isSome
  else match (xlate s core asid .copyRead ((o.base + q * o.pitch + j) % 2 ^ 64)).pa with | some pa => (memPoison s pa).isSome | none => false

/-- R188, R275: one row moved, its words to one place as one access. -/
def copyRow (s : State) (core : Nat) (x : Copy) (q : Nat) : State :=
  State.bump ((List.range (x.bytes / 8)).foldl (fun s i =>
    copyWrite s core x x.row (8 * i) (copyRead s core x.asid x.src q (8 * i)) (wordPoison s core x.asid x.src q (8 * i))) s)

/-- R188, R190, R263: rows moved in order until the end, an unmapped page or a refused row. -/
def copyRows (core : Nat) : Nat → State → Copy → State × Copy × CopyEnd
  | 0, s, x => (s, x, .all)
  | n + 1, s, x =>
    if x.rows ≤ x.row then (s, x, .all)
    else
      let frame0 := ((look s.blocks x.block).map (fun b => b.frame)).getD 0
      let q := if x.gather then indexOf s core frame0 x.index x.row else x.row
      match rowObstacle s core x.asid x.src false q x.bytes with
      | .all => (match rowObstacle s core x.asid x.dst true x.row x.bytes with
        | .all =>
          let first := (x.src.base + q * x.src.pitch) / 256 * 256
          let s1 := if x.src.space ≤ 1 then noteLink s core x.src.core (x.src.frame * 1024 + first) (x.bytes + 512) else s
          copyRows core n (copyRow s1 core x q) { x with row := x.row + 1 }
        | o => (s, x, o))
      | o => (s, x, o)

/-- R75, R191: the entities of a block whose tag wait is met go on. -/
def wakeTags (s : State) (block : Nat) : State :=
  match look s.blocks block with
  | none => s
  | some b =>
    let ws := wavesOfBlock s block
    { s with ents := s.ents.map (fun e => (e.1,
        if ws.contains e.2.wave then (match e.2.park with
          | .tags any m => if tagsMet any m b.tags then e.2.resumeAt e.2.resume else e.2
          | _ => e.2) else e.2)) }

/-- R188: the completion of a copy: its tag is set and its frames go back, as one event. -/
def finishCopy (s : State) (core : Nat) (x : Copy) : State :=
  let d := (s.core core).data
  let s1 := s.setData core { d with copies := d.copies.filter (fun y => !(decide (y.block = x.block) && decide (y.tag = x.tag))) }
  wakeTags (s1.modBlock x.block (fun b => { b with tags := b.tags ||| (1#64 <<< x.tag) })) x.block

/-- R74, R76, R309: the copy's writes have all reached where they go, those to the host's memory too. -/
def copyOut (s : State) (core : Nat) (x : Copy) : Bool :=
  !(underWay s core (fun ent _ _ => decide (ent = copyEnt x.block x.tag))) && !((hostWrites s).any (fun o => decide (o.ent = copyEnt x.block x.tag)))

/-- The k-th copy of a core has moved its rows: it completes, or waits for its writes (assumption 71). -/
def settleCopy (s : State) (core k : Nat) (x : Copy) : State :=
  if copyOut s core x then finishCopy s core x
  else
    let d := (s.core core).data
    s.setData core { d with copies := setNth d.copies k x }

/-- R188, R190. COPY_COMPLETE: the rows move; once what they wrote has reached where it goes the copy completes. -/
def execCopyComplete (core k : Nat) (s : State) : Out :=
  .next (match (s.core core).data.copies[k]? with
    | none => s
    | some x =>
      if x.parked.isSome then s
      else if x.rows ≤ x.row then (if copyOut s core x then finishCopy (remember s core) core x else s)
      else
        let r := copyRows core (x.rows - x.row) (remember s core) x
        match r.2.2 with
        | .all => settleCopy r.1 core k r.2.1
        | .refused cause addr =>
          let o := ownerOf r.1 x.wave
          let s1 := setStatus (eventRecord r.1 (lidOf r.1 o) 9 cause core addr) o .faulted
          settleCopy s1 core k { r.2.1 with rows := r.2.1.row }
        | .unmapped _ _ => s)

/-- R263. COPY_PAGE_FAULT_PARK: the copy, not the entity, parks at its first row that meets an unmapped page. -/
def execCopyPageFaultPark (core k : Nat) (s : State) : Out :=
  .next (match (s.core core).data.copies[k]? with
    | none => s
    | some x =>
      if x.parked.isSome then s
      else
        let r := copyRows core (x.rows - x.row) (remember s core) x
        match r.2.2 with
        | .unmapped va write =>
          let p := openPark r.1 core x.ent x.asid (some (x.block, x.tag)) [(va, if write then 5 else 4)]
          let d := (p.1.core core).data
          p.1.setData core { d with copies := setNth d.copies k { r.2.1 with parked := some p.2 } }
        | _ => s)

end Sys2Proof.Machine
end

