-- ==== Sys2Proof/Machine/Matrix.lean ====
section
/-! DEFINITION. The matrix engine (R101, R102, R106, R114, R115, R192 to R208, R280): major 0x2C and the steps of an engine. -/

namespace Sys2Proof.Machine

open Sys2Proof

/-! ### The format block and operands (R195 to R198) -/

/-- R195: an operand descriptor of 16 bytes. -/
def opDesc (x : Nat) : OpDesc :=
  { fmt := bits x 0 8, vsrc := decide (bits x 8 1 = 1), vbase := bits x 16 6, m := bits x 24 4, bl := decide (bits x 28 1 = 1),
    fp := bits x 32 4, np := bits x 40 4, ncol := bits x 48 16, scl := bits x 64 19, spitch := bits x 96 16 }

/-- R73: a scratchpad operand from its register pair. -/
def opBase (r0 r1 : Nat) : OpBase := { base := bits r0 0 19, rot := bits r0 19 3, pitch := bits r1 0 16, tile := bits r1 16 16 }

/-- R195: columns N. -/
def OpDesc.cols (b : OpDesc) : Nat := if b.ncol = 0 then 160 else b.ncol

/-- R195: planes consumed. -/
def OpDesc.planes (a : OpDesc) : Nat := if a.np = 0 then a.m - a.fp else a.np

/-- R195: PBF block length L. -/
def OpDesc.len (a : OpDesc) : Nat := if a.bl then 32 else 16

/-- R114, R196: K of a step. -/
def OpDesc.k (a : OpDesc) : Nat := if a.fmt = 1 ∨ a.fmt = 2 then 32 else 64

/-- Element size in bytes. -/
def elemSize (fmt : Nat) : Nat := if fmt = 1 ∨ fmt = 2 then 2 else 1

/-- Blocks of one step: exponents or scales of a row or column (R197). -/
def OpDesc.blocks (a : OpDesc) : Nat := if a.fmt = 8 then 64 / a.len else 2

/-- R196: the legal pairs. -/
def pairOk (a b : Nat) : Bool :=
  match a with
  | 1 => b = 1 ∨ b = 2 | 2 => b = 1 ∨ b = 2 | 3 => b = 3 ∨ b = 4 | 4 => b = 3 ∨ b = 4 | 5 => b = 5 ∨ b = 6 | 6 => b = 5 ∨ b = 6 | 7 => b = 7
  | 8 => b = 1 ∨ b = 3 ∨ b = 4 ∨ b = 5 ∨ b = 6 ∨ b = 7
  | _ => false

/-- R197: the formats VSRC may take. -/
def vsrcFmt (f : Nat) : Bool := decide (f = 1 ∨ f = 2 ∨ f = 3 ∨ f = 4 ∨ f = 7)

/-! ### Values (R101, R102, R106, R114) -/

/-- R106: FP8 subnormals are read as zero of the same sign by the engine. -/
def flush8 (f : Fmt) (v : Val) : Val := match v with | .fin n m e => if m < 2 ^ f.fb then .fin n 0 e else v | _ => v

/-- A value times 2^k. -/
def Val.scale (v : Val) (k : Int) : Val := match v with | .fin n m e => .fin n m (e + k) | v => v

/-- The value of an element code under a format; `x` is its scale byte (MXFP8). -/
def elemValue (fmt code x : Nat) : Val :=
  match fmt with
  | 1 => Fmt.bf16.value code
  | 2 => Fmt.f16.value code
  | 3 => flush8 Fmt.e4m3 (Fmt.e4m3.value code)
  | 4 => flush8 Fmt.e5m2 (Fmt.e5m2.value code)
  | 5 => if x = 255 then .nan false else (flush8 Fmt.e4m3 (Fmt.e4m3.value code)).scale ((x : Int) - 127)
  | 6 => if x = 255 then .nan false else (flush8 Fmt.e5m2 (Fmt.e5m2.value code)).scale ((x : Int) - 127)
  | _ => ofInt (sext 8 code)

/-- A scratchpad byte of a block, by its frame base. -/
def blockByte (s : State) (core frame off : Nat) : Nat := (rd (s.core core).data.scratch (frame * 1024 + off)).toNat

/-- The little-endian value of an operand's bytes at row i, byte j. -/
def opBytes (s : State) (core frame : Nat) (o : OpBase) (base i j n : Nat) : Nat :=
  leNat ((List.range n).map (fun q => rd (s.core core).data.scratch (frame * 1024 + place base o.pitch o.rot o.tile 0 i (j + q))))

/-- Element code k of a vector-register operand lane: bytes little-endian in sixteen registers (R197). Elements beyond their 64 bytes, which a BF16 B
with a PBF A would have, are 0 (assumption 99). -/
def vecElem (ws : List Word) (size k : Nat) : Nat :=
  (List.range size).foldl (fun r q => r + bits ((ws.getD ((k * size + q) / 4) 0).toNat) (8 * ((k * size + q) % 4)) 8 * 2 ^ (8 * q)) 0

/-- R199: AVal of a PBF operand: the planes consumed of element k of row i in step `st`. -/
def pbfA (s : State) (core frame : Nat) (a : OpDesc) (o : OpBase) (base i st k : Nat) : Val :=
  let l := a.len
  let be := k / l
  let e := blockByte s core frame (a.scl + i * a.spitch + st * (64 / l) + be)
  if e = 0 then .fin false 0 0
  else if e = 255 then .nan false
  else
    let n := k % l
    let mant : Int := (List.range a.planes).foldl (fun (r : Int) q =>
      let p := a.fp + q
      let byte := opBytes s core frame o base i (be * (a.m * l / 8) + p * (l / 8) + n / 8) 1
      let w : Int := if p = 0 then -((2 ^ (a.m - 1) : Nat) : Int) else ((2 ^ (a.m - 1 - p) : Nat) : Int)
      if byte.testBit (n % 8) then r + w else r) 0
    (ofInt mant).scale ((e : Int) - 127 - ((a.m : Int) - 1))

/-- Where an operand of an engine instruction is read for one step: core, frame base of its block, base of the step, step. -/
structure OpAt where
  core  : Nat
  frame : Nat
  base  : Nat
  st    : Nat

/-- AVal(i, s, k) (R199). -/
def aVal (s : State) (op : EngineOp) (x : OpAt) (i k : Nat) : Val :=
  let a := op.a
  if a.fmt = 8 then pbfA s x.core x.frame a op.abase x.base i x.st k
  else
    let size := elemSize a.fmt
    let code := if a.vsrc then vecElem (op.vecA.getD i []) size k else opBytes s x.core x.frame op.abase x.base i (k * size) size
    let sc := if a.fmt = 5 ∨ a.fmt = 6 then blockByte s x.core x.frame (a.scl + i * a.spitch + x.st * 2 + k / 32) else 127
    elemValue a.fmt code sc

/-- BVal(s, k, c) (R199). -/
def bVal (s : State) (op : EngineOp) (x : OpAt) (k c : Nat) : Val :=
  let b := op.b
  let size := elemSize b.fmt
  let code := if b.vsrc then vecElem (op.vecB.getD c []) size k else opBytes s x.core x.frame op.bbase x.base k (c * size) size
  let sc := if b.fmt = 5 ∨ b.fmt = 6 then blockByte s x.core x.frame (b.scl + c * b.spitch + x.st * 2 + k / 32) else 127
  elemValue b.fmt code sc

/-- R114: an element after a step: exact sum, rounded once to binary32 under RNE; an exact zero is +0. -/
def stepFloat (z : Word) (as bs : List Val) : Word :=
  let sum := (as.zip bs).foldl (fun r p => (Val.add 0 r (Val.mul p.1 p.2).1).1) (Fmt.f32.value z.toNat)
  if sum.isZero then 0 else BitVec.ofNat 32 (Fmt.f32.round 0 false sum).1

/-- The integer of a value that is one. -/
def Val.int : Val → Int | .fin n m _ => if n then -(m : Int) else m | _ => 0

/-- R115: an INT8 step: the exact sum added to the INT32 element, saturated. -/
def stepInt (z : Word) (as bs : List Val) : Word :=
  BitVec.ofInt 32 (clampInt (intLo 32 true) (intHi 32 true) ((as.zip bs).foldl (fun r p => r + p.1.int * p.2.int) z.toInt))

/-! ### Tiles -/

/-- Element (row, column) of a tile. -/
def tileAt (d : CoreData) (z i c : Nat) : Word := (look d.tiles (15360 * z + 160 * i + c)).getD 0

/-- A tile with every element given anew; zeros are not listed. -/
def tileSet (d : CoreData) (z : Nat) (f : Nat → Nat → Word) : CoreData :=
  let new := (List.range 15360).filterMap (fun q => let w := f (q / 160) (q % 160); if w = 0 then none else some (15360 * z + q, w))
  { d with tiles :=
      d.tiles.filter (fun e => decide (e.1 < 15360 * z)) ++ new ++ d.tiles.filter (fun e => decide (15360 * (z + 1) ≤ e.1)) }

/-- ASN of a tile. -/
def CoreData.asnOf (d : CoreData) (z : Nat) : Nat := (look d.asn z).getD 0

/-! ### Issue (R193, R194, R200, R208) -/

/-- The positions an engine instruction drives: cores, and the frame base and count of their blocks (R200). -/
def gridOfOp (c : Ctx) (rows cols : Nat) : Option (List (Nat × Nat × Nat)) :=
  if rows * cols = 1 then c.block.map (fun b => [(b.core, b.frame, b.frames)])
  else
    match c.block, c.gang with
    | some b, some g =>
      if b.rank ≠ 0 ∨ g.blocks.length < rows * cols then none
      else some ((g.blocks.take (rows * cols)).filterMap (fun x => (look c.s.blocks x).map (fun y => (y.core, y.frame, y.frames))))
    | _, _ => none

/-- A region of a block that an instruction reads or writes: byte extents within the allocation. -/
structure Region where
  pos     : Nat
  extents : List (Nat × Nat)
  write   : Bool

/-- R73: the steps' bases. -/
def stepBases (base adv steps : Nat) : List Nat := (List.range steps).map (fun q => (base + q * adv) % 2 ^ 19)

/-- Rows of an operand. -/
def rowExtents (base pitch rows lo width : Nat) : List (Nat × Nat) := (List.range rows).map (fun i => (base + i * pitch + lo, width))

/-- R197, R199: what MMA, MLOOP, MREF and MBOUND read of one A operand. -/
def aRegion (a : OpDesc) (o : OpBase) (adv steps : Nat) : List (Nat × Nat) :=
  if steps = 0 ∨ a.vsrc = true then []
  else
    let pb := a.len / 8
    let rows := fun base =>
      if a.fmt = 8 then
        (List.range a.blocks).flatMap (fun be => rowExtents base o.pitch 96 (be * a.m * pb + a.fp * pb) (a.planes * pb))
      else rowExtents base o.pitch 96 0 (a.k * elemSize a.fmt)
    (stepBases o.base adv steps).flatMap rows ++
      (if a.fmt = 5 ∨ a.fmt = 6 ∨ a.fmt = 8 then rowExtents a.scl a.spitch 96 0 (steps * a.blocks) else [])

/-- R197, R199: what they read of one B operand. -/
def bRegion (a b : OpDesc) (o : OpBase) (adv steps : Nat) : List (Nat × Nat) :=
  if steps = 0 ∨ b.vsrc = true then []
  else
    (stepBases o.base adv steps).flatMap (fun base => rowExtents base o.pitch a.k 0 (b.cols * elemSize b.fmt)) ++
      (if b.fmt = 5 ∨ b.fmt = 6 then rowExtents b.scl b.spitch b.cols 0 (steps * 2) else [])

/-- R208: the operand conditions of a format block. NP = 0 of MREF, which R198 leaves out of its range, is no condition of R208, so it raises
nothing (R259) and stands for m − FP (R195, assumption 75). -/
def fmtTraps (kind : EngineKind) (mma mref : Bool) (a b : OpDesc) (vlimit : Nat) : List Trap :=
  let bad :=
    !(pairOk a.fmt b.fmt) || decide (160 < b.ncol) ||
    (decide (a.fmt = 8) && (decide (a.m < 2) || decide (8 < a.m) || decide (a.m ≤ a.fp) || decide (a.m < a.fp + a.planes))) ||
    ((mref || decide (kind = .bound)) && decide (a.fmt ≠ 8)) || (decide (kind = .bound) && decide (a.fp ≠ 0)) ||
    [a, b].any (fun x => x.vsrc && (!mma || !(vsrcFmt x.fmt) || decide (vlimit < x.vbase + 16))) ||
    (b.vsrc && decide (96 < b.cols))
  if bad then [bare 0x02] else []

/-- R73, R208: the rotation conditions of an operand, and alignment, that of its advance among them. -/
def baseTraps (o : OpBase) (adv : Nat) : List Trap :=
  (if o.rot ≠ 0 ∧ (o.base % 256 ≠ 0 ∨ o.pitch % 256 ≠ 0 ∨ o.tile % 4 ≠ 0) then [bare 0x02] else []) ++
  (if o.base % 8 ≠ 0 ∨ o.pitch % 8 ≠ 0 ∨ adv % 8 ≠ 0 then [atAddr 0x03 o.base] else [])

/-- R71, R72, R208: an extent beyond its block's allocation. -/
def regionTraps (pos : List (Nat × Nat × Nat)) (rs : List Region) : List Trap :=
  rs.flatMap (fun r => match pos[r.pos]? with
    | none => [bare 0x02]
    | some p => (match r.extents.find? (fun x => decide (0 < x.2) && decide (p.2.2 * 1024 < x.1 + x.2)) with
      | some x => [atAddr 0x12 (max (p.2.2 * 1024) x.1)]
      | none => []))

/-- R74: the frames of regions. -/
def regionFrames (pos : List (Nat × Nat × Nat)) (rs : List Region) (write : Bool) : List Frame :=
  (rs.flatMap (fun r =>
    if r.write ≠ write then []
    else match pos[r.pos]? with
      | some p => framesOf p.1 (r.extents.map (fun x => (p.2.1 * 1024 + x.1, x.2)))
      | none => [])).eraseDups

/-- An engine instruction as issue meets it: the instruction, its regions, its causes, and the vector registers it names beside its fields. -/
structure EngineIssue where
  op      : EngineOp
  pos     : List (Nat × Nat × Nat)
  regions : List Region
  traps   : List Trap
  vregs   : List Operand := []
  /-- First registers of operands that all 96 lanes give (R197). -/
  vsrc    : List Nat := []

/-- No operand. -/
def OpDesc.none : OpDesc := opDesc 0
def OpBase.none : OpBase := opBase 0 0

/-- R194: the fields every engine instruction captures. -/
def engineBase (c : Ctx) (kind : EngineKind) (z : BitVec 2) (a : Reg) (rows cols : Nat) (pos : List (Nat × Nat × Nat)) : EngineOp :=
  { kind := kind, lid := lidOf c.s c.v.owner, asid := c.v.asid, z := z.toNat, e := (c.e.rS a.toNat).toNat % 65536, ent := c.k, wave := c.e.wave, serial := c.s.fresh, rows := rows,
    cols := cols, cores := pos.map (fun p => p.1), frames := pos.map (fun p => (p.2.1, p.2.2)), steps := 0, a := OpDesc.none, b := OpDesc.none,
    abase := OpBase.none, bbase := OpBase.none, aadv := 0, badv := 0, vecA := [], vecB := [], dest := OpBase.none, conv := 0, rm := 0,
    sat := false, reg := 0, c0 := 0, n := 0, lanes := 0, reads := [], writes := [], queuedAt := 0 }

/-- R194, R208: the grid condition. -/
def gridTraps (g : Option (List (Nat × Nat × Nat))) : List Trap := if g.isSome then [] else [bare 0x02]

/-- Sixteen registers of each lane from VBASE up (R197). -/
def vecRows (c : Ctx) (x : OpDesc) : List (List Word) :=
  if x.vsrc then laneList.map (fun i => (List.range 16).map (fun r => c.v.rV (x.vbase + r) i)) else []

/-- R198, R199, R208: MMA, MLOOP, MREF and MBOUND. An operand in vector registers has no base (R197, assumption 67). -/
def stepsIssue (c : Ctx) (kind : EngineKind) (mma mref : Bool) (r q : Nat) (z : BitVec 2) (a b : Reg) : EngineIssue :=
  let g := gridOfOp c r q
  let pos := g.getD []
  let reg := fun j => (c.e.rS (b.toNat + j)).toNat
  let fb := bits (reg 0) 0 19
  let own := c.block.map (fun x => (x.core, x.frame, x.frames))
  let alloc := (own.map (fun x => x.2.2 * 1024)).getD 0
  let raw := match own with
    | some x => rdN (c.s.core x.1).data.scratch (x.2.1 * 1024 + fb) 32
    | none => 0
  let a0 := opDesc (raw % 2 ^ 128)
  let da : OpDesc := if mref then { a0 with fp := bits (reg 1) 16 4, np := bits (reg 1) 20 4 } else a0
  let db := opDesc (raw / 2 ^ 128)
  let steps := if mma then 1 else bits (reg 1) 0 16
  let aadv := if mma then 0 else reg 6
  let badv := if mma then 0 else reg 7
  let oa := opBase (reg 2) (reg 3)
  let ob := opBase (reg 4) (reg 5)
  let inAlloc := decide (fb + 32 ≤ alloc)
  let regions : List Region :=
    if inAlloc then
      (List.range r).map (fun i => { pos := i * q, extents := aRegion da oa aadv steps, write := false }) ++
      (List.range q).map (fun j => { pos := j, extents := bRegion da db ob badv steps, write := false })
    else []
  let op := engineBase c kind z a r q pos
  { op := { op with
      steps := steps, a := da, b := db, abase := oa, bbase := ob, aadv := aadv, badv := badv, vecA := vecRows c da, vecB := vecRows c db
      reg := a.toNat }
    pos := pos, regions := regions
    vregs := if mma then ([da, db].filter (fun x => x.vsrc)).map (fun x => oVs x.vbase 16) else []
    vsrc := if mma then ([da, db].filter (fun x => x.vsrc)).map (fun x => x.vbase) else []
    traps := gridTraps g ++ (if fb % 32 = 0 then [] else [atAddr 0x03 fb]) ++ (if inAlloc then [] else [atAddr 0x12 (max alloc fb)]) ++
      (if inAlloc then fmtTraps kind mma mref da db c.v.vlimit else []) ++ (if inAlloc && da.vsrc then [] else baseTraps oa aadv) ++
      (if inAlloc && db.vsrc then [] else baseTraps ob badv) }

/-- R201: MZERO. -/
def zeroIssue (c : Ctx) (r q : Nat) (z : BitVec 2) (a : Reg) : EngineIssue :=
  let g := gridOfOp c r q
  { op := engineBase c .zero z a r q (g.getD []), pos := g.getD [], regions := [], traps := gridTraps g }

/-- R201: element size of an MSTORE conversion. -/
def convSize (conv : Nat) : Nat := if conv = 0 then 4 else if conv ≤ 2 then 2 else 1

/-- R201, R208: MLDZ and MSTORE. -/
def tileIssue (c : Ctx) (store : Bool) (z : BitVec 2) (a b : Reg) : EngineIssue :=
  let g := gridOfOp c 1 1
  let reg := fun j => (c.e.rS (b.toNat + j)).toNat
  let o := opBase (reg 0) (reg 1)
  let conv := if store then bits (reg 2) 0 3 else 0
  let width := 160 * convSize conv
  let op := engineBase c (if store then .store else .load) z a 1 1 (g.getD [])
  { op := { op with dest := o, conv := conv, rm := BitVec.ofNat 2 c.rm, sat := c.sat }
    pos := g.getD [], regions := [{ pos := 0, extents := rowExtents o.base o.pitch 96 0 width, write := store }]
    traps := gridTraps g ++ baseTraps o 0 ++ (if store = true ∧ (6 ≤ conv ∨ o.pitch < width) then [bare 0x02] else []) }

/-- R202, R208: MREAD. -/
def readIssue (c : Ctx) (d a : Reg) (z : BitVec 2) : EngineIssue :=
  let g := gridOfOp c 1 1
  let r1 := (c.e.rS (a.toNat + 1)).toNat
  let c0 := bits r1 0 8
  let n := bits r1 8 7
  let op := engineBase c .read z a 1 1 (g.getD [])
  { op := { op with reg := d.toNat, c0 := c0, n := n, lanes := c.lanes }
    pos := g.getD [], regions := [], vregs := [oVs d.toNat n]
    traps := gridTraps g ++ (if n = 0 ∨ 160 < c0 + n ∨ c.v.vlimit < d.toNat + n then [bare 0x02] else []) }

/-- R278: an engine grid rolls back as a whole: each of its cores with every other. -/
def linkGrid (s : State) (o : EngineOp) : State :=
  if o.cores.length ≤ 1 then s
  else { s with links := (o.cores.flatMap (fun p => (o.cores.filter (fun q => decide (q ≠ p))).map (fun q => (p, q, s.now)))) ++ s.links }

/-- R277, R278: what the other cores of a grid are before the instruction stands in their queues. -/
def rememberGrid (s : State) (core : Nat) (o : EngineOp) : State :=
  if o.cores.length ≤ 1 then s else { s with hist := ((o.cores.filter (fun x => decide (x ≠ core))).map (snapshot s)) ++ s.hist }

/-- R275: a poisoned granule of the vector registers that an MMA reads, in all lanes (R197). -/
def vsrcPoison (c : Ctx) (bases : List Nat) : Option Nat :=
  if c.s.poison.isEmpty then none
  else bases.findSome? (fun r => (c.s.poison.find? ((oVs r 16).holds c (BitVec.allOnes 96) false)).map Poison.place)

/-- R193, R194: issue an engine instruction: it stalls while a register it names is pending (R22), a queue is full or a frame is held, and then
leaves for every queue. Its first `dst` fields it only writes. -/
def engineWord (e : Bool) (ops : List Operand) (dst : Nat) (acc : Accept) (f : Ctx → EngineIssue) : State → Out :=
  issue { e := e, ops := ops, acc := acc, prog := true, dst := dst }
    (fun c => let i := f c; i.traps ++ regionTraps i.pos i.regions ++ genTraps c.v c.k i.vregs)
    (fun c =>
      let i := f c
      let reads := regionFrames i.pos i.regions false
      let writes := regionFrames i.pos i.regions true
      let full := i.op.cores.any (fun x => let d := (c.s.core x).data; decide (8 ≤ d.queue.length + d.enroute.length))
      if c.acquiring || full || pendingHit c.s c.k c.e.wave i.vregs || i.vsrc.any (fun r => pendAll c.s c.core c.e.wave r 16) || setsBusy c.s reads writes then .stall
      else if let some g := vsrcPoison c i.vsrc then .left (consume c.s c.e.wave c.core 0 g)
      else
        let op := { i.op with reads := reads, writes := writes, queuedAt := c.s.now }
        .done (State.bump (op.cores.foldl (fun s x =>
          let d := (s.core x).data
          s.setData x { d with enroute := d.enroute ++ [op] }) (linkGrid (rememberGrid c.s c.core op) op))))

/-- R201. -/
def execMzero (e : Bool) (r c z : BitVec 2) (a : Reg) (s : State) : Out :=
  engineWord e [oS a] 0 {} (fun x => zeroIssue x (r.toNat + 1) (c.toNat + 1) z a) s

/-- R199. -/
def execMma (e : Bool) (z : BitVec 2) (a b : Reg) (s : State) : Out :=
  engineWord e [oS a, oGroup b 8] 0 {} (fun x => stepsIssue x .steps true false 1 1 z a b) s

/-- R199. -/
def execMloop (e : Bool) (r c z : BitVec 2) (a b : Reg) (s : State) : Out :=
  engineWord e [oS a, oGroup b 8] 0 {} (fun x => stepsIssue x .steps false false (r.toNat + 1) (c.toNat + 1) z a b) s

/-- R199. -/
def execMref (e : Bool) (r c z : BitVec 2) (a b : Reg) (s : State) : Out :=
  engineWord e [oS a, oGroup b 8] 0 {} (fun x => stepsIssue x .steps false true (r.toNat + 1) (c.toNat + 1) z a b) s

/-- R201. -/
def execMldz (e : Bool) (z : BitVec 2) (a b : Reg) (s : State) : Out :=
  engineWord e [oS a, oGroup b 4] 0 {} (fun x => tileIssue x false z a b) s

/-- R201. -/
def execMstore (e : Bool) (z : BitVec 2) (a b : Reg) (s : State) : Out :=
  engineWord e [oS a, oGroup b 4] 0 { rm := true, sat := true } (fun x => tileIssue x true z a b) s

/-- R202. -/
def execMread (e : Bool) (d a : Reg) (z : BitVec 2) (s : State) : Out :=
  engineWord e [oV d, oS2 a] 1 {} (fun x => readIssue x d a z) s

/-- R203. -/
def execMbound (e : Bool) (r c z : BitVec 2) (a b : Reg) (s : State) : Out :=
  engineWord e [oS a, oGroup b 8] 0 {} (fun x => stepsIssue x .bound false false (r.toNat + 1) (c.toNat + 1) z a b) s

/-- R204. -/
def execMasn (e : Bool) (d : Reg) (z : BitVec 2) (s : State) : Out :=
  issue { e := e, ops := [oS d], prog := true, dst := 1 } noChk
    (fun c => .done (c.s.setEnt c.k (c.e.wS d.toNat (BitVec.ofNat 32 (c.data.asnOf z.toNat))))) s

/-- R204: an ASN has reached a value. -/
def asnReached (asn v : Nat) : Bool := decide ((asn + 65536 - v % 65536) % 65536 < 32768)

/-- R204. -/
def execMwait (z : BitVec 2) (a : Reg) (s : State) : Out :=
  issue { e := true, ops := [oS a], prog := true } noChk
    (fun c =>
      let v := (c.e.rS a.toNat).toNat % 65536
      if asnReached (c.data.asnOf z.toNat) v then .done c.s else .left (c.progressed.parkPast (.tile z.toNat v))) s

end Sys2Proof.Machine
end

