-- ==== Sys2Proof/Machine/Engine.lean ====
section
/-! DEFINITION. The steps of a matrix engine (R194, R199 to R206, R268, R280): arrival, start under the slew limiter, the end of a step,
release of column groups, completion, and the queue watchdog. -/

namespace Sys2Proof.Machine

open Sys2Proof

/-! ### Choice of the next entry (R194, R200) -/

/-- R206: column groups an instruction draws. -/
def groupsOf (o : EngineOp) : Nat := if o.kind = .steps ∧ 0 < o.steps then (o.b.cols + 9) / 10 else 0

/-- Two captures of one engine instruction, on different engines of its grid. -/
def sameOp (a b : EngineOp) : Bool := decide (a.serial = b.serial)

/-- R200: a grid engine's tile holds e and the entry is the one that engine would run on it, or already runs. -/
def gridHolds (s : State) (core : Nat) (asn : Nat → Nat) (o : EngineOp) (x : Nat) : Bool :=
  let d := (s.core x).data
  let a := fun z => if x = core then asn z else d.asnOf z
  decide (a o.z = o.e) &&
  ((match d.run with | some r => sameOp r.op o | none => false) || d.parts.any (fun p => sameOp p o) ||
   (match d.queue.find? (fun y => decide (y.z = o.z) && decide (y.e = a y.z)) with | some y => sameOp y o | none => false))

/-- R194, R200: the oldest entry whose expected ASN its tile holds; a grid entry that must wait keeps its tile to itself. -/
def pickFrom (s : State) (core : Nat) (asn : Nat → Nat) : List Nat → List EngineOp → Option EngineOp
  | _, [] => none
  | held, o :: r =>
    if o.e ≠ asn o.z ∨ held.contains o.z then pickFrom s core asn held r
    else if o.cores.length = 1 ∨ o.cores.all (gridHolds s core asn o) = true then some o
    else pickFrom s core asn (o.z :: held) r

/-- The next entry of an engine; a finishing instruction that is no grid counts its increment as made (R206). -/
def nextOp (s : State) (core : Nat) : Option EngineOp :=
  let d := (s.core core).data
  let asn := fun z => match d.run with
    | some r => if r.op.z = z ∧ r.op.cores.length = 1 then (d.asnOf z + 1) % 65536 else d.asnOf z
    | none => d.asnOf z
  let held := d.parts.map (fun p => p.z) ++
    (match d.run with | some r => if r.op.cores.length = 1 then [] else [r.op.z] | none => [])
  pickFrom s core asn held d.queue

/-- R206: the next entry, if it takes a hand-over. -/
def nextDrawing (s : State) (core : Nat) : Option EngineOp := (nextOp s core).filter (fun o => decide (0 < groupsOf o))

/-! ### Completion (R194, R204) -/

/-- R204: entities of a core whose MWAIT is met go on. -/
def wakeTile (s : State) (core z : Nat) : State :=
  let asn := (s.core core).data.asnOf z
  { s with ents := s.ents.map (fun e => (e.1,
      if coreOfKey e.1 = core then (match e.2.park with
        | .tile y v => if y = z ∧ asnReached asn v = true then e.2.resumeAt e.2.resume else e.2
        | _ => e.2) else e.2)) }

/-- One engine's share of a completion: the ASN rises, the instruction and its frames leave, waits on the tile are looked at. -/
def raiseAsn (o : EngineOp) (s : State) (core : Nat) : State :=
  let d := (s.core core).data
  let again := fun (q : EngineOp) => if q.z = o.z then { q with queuedAt := s.now } else q
  wakeTile (s.setData core { d with
    asn := put d.asn o.z ((d.asnOf o.z + 1) % 65536), parts := d.parts.filter (fun p => !(sameOp p o)), queue := d.queue.map again }) core o.z

/-- R194, R200: the completion of an engine instruction, one event over its whole grid. -/
def completeOp (s : State) (o : EngineOp) : State :=
  o.cores.foldl (raiseAsn o) (if o.cores.length ≤ 1 then s else linkGrid (rememberAll s o.cores) o)

/-- R206: an engine's part of its instruction has ended; the instruction completes with the last. -/
def finishPart (s : State) (core : Nat) (o : EngineOp) : State :=
  let d := (s.core core).data
  let s1 := s.setData core { d with run := none, parts := d.parts ++ [o] }
  if o.cores.all (fun x => (s1.core x).data.parts.any (fun p => sameOp p o)) then completeOp s1 o else s1

/-! ### Start and the slew limiter (R205, R206) -/

/-- R206: groups granted or released in the last four cycles. -/
def inWindow (now : Nat) (l : List (Nat × Nat)) : Nat := l.foldl (fun n e => if now ≤ e.1 + 3 then n + e.2 else n) 0

/-- The window with one more entry; entries that have left it are dropped. -/
def windowAdd (now : Nat) (l : List (Nat × Nat)) (n : Nat) : List (Nat × Nat) := l.filter (fun e => decide (now ≤ e.1 + 3)) ++ [(now, n)]

/-- R206: groups an engine requests. -/
def wantsUp (s : State) (core : Nat) : Option Nat :=
  let d := (s.core core).data
  match d.run with
  | none => if d.groups = 0 then (nextDrawing s core).map groupsOf else none
  | some r => if r.done = false ∧ d.groups < groupsOf r.op then some (groupsOf r.op - d.groups) else none

/-- R206, R207: groups an engine asks to release: all of them after its last step or a cut, or the surplus of a hand-over. -/
def wantsDown (s : State) (core : Nat) : Option Nat :=
  let d := (s.core core).data
  match d.run with
  | none => if d.groups = 0 then none else some d.groups
  | some r =>
    if r.done then (if (nextDrawing s core).isSome then none else some d.groups)
    else if groupsOf r.op < d.groups then some (d.groups - groupsOf r.op) else none

/-- R206: a lower core of the die has a request of this kind, which is taken first. -/
def lowerFirst (s : State) (f : State → Nat → Option Nat) (core : Nat) : Bool :=
  (List.range (core % 64)).any (fun i => (f s (core / 64 * 64 + i)).isSome)

/-- An entry leaves the queue and runs; a step count of 0 completes in the same cycle (R199). -/
def startRun (s : State) (core : Nat) (o : EngineOp) : State :=
  let d := (s.core core).data
  let d1 := { d with queue := d.queue.filter (fun q => !(sameOp q o)) }
  if o.kind = .steps ∧ o.steps = 0 then finishPart (s.setData core d1) core o
  else
    let r : EngineRun :=
      { op := o, step := 0, done := false, retry := false, abase := o.abase.base, bbase := o.bbase.base, since := s.now,
        bound := { nan := false, inf := false, sums := [] } }
    s.setData core { d1 with run := some r }

/-- R207, R244: the pavilion of a core is being halted: its engine begins nothing. -/
def engineHalting (s : State) (core : Nat) : Bool := (s.pav (pavOfCore core)).halting

/-- R207: what an engine began in a cycle may end: its pavilion is not being halted, or the halt came later. -/
def mayEnd (s : State) (core t : Nat) : Bool := !(engineHalting s core) || decide (t < (s.pav (pavOfCore core)).haltAt)

/-- R206: hand-over: the finishing instruction completes and the next starts with its column groups; none while a halt is under way. -/
def handOver (s : State) (core : Nat) : State :=
  match (s.core core).data.run with
  | some r =>
    if r.done && !(engineHalting s core) then (match nextDrawing s core with
      | some o => startRun (finishPart (remember s core) core r.op) core o
      | none => s)
    else s
  | none => s

/-- R206: a grant that fits the window. -/
def grantGroups (s : State) (core n : Nat) : Option State :=
  let die := s.die (dieOfCore core)
  if lowerFirst s wantsUp core ∨ 32 < inWindow s.now die.ups + n then none
  else
    let s1 := (remember s core).setDie (dieOfCore core) { die with ups := windowAdd s.now die.ups n }
    let d := (s1.core core).data
    some (s1.setData core { d with groups := d.groups + n, run := d.run.map (fun r => { r with since := s.now }) })

/-- R206, R207. MATRIX_START. -/
def execMatrixStart (core : Nat) (s : State) : Out :=
  .next (if engineHalting s core then s else
    let d := (s.core core).data
    match d.run with
    | some r =>
      if r.done then handOver s core
      else (match wantsUp s core with | some n => (grantGroups s core n).getD s | none => s)
    | none =>
      if d.groups ≠ 0 then s
      else match nextOp s core with
        | none => s
        | some o =>
          if groupsOf o = 0 then startRun (remember s core) core o
          else match grantGroups s core (groupsOf o) with | some s1 => startRun s1 core o | none => s)

/-- R194. MATRIX_QUEUE_ARRIVAL: four cycles after issue. -/
def execMatrixQueueArrival (core : Nat) (s : State) : Out :=
  .next (
    let d := (s.core core).data
    match d.enroute with
    | [] => s
    | o :: r =>
      if s.now < o.queuedAt + 4 then s
      else (remember s core).setData core { d with enroute := r, queue := d.queue ++ [{ o with queuedAt := s.now }] })

/-- R206. MATRIX_RELEASE: a release that fits the window; after its last step the engine's part ends with it. -/
def execMatrixRelease (core : Nat) (s : State) : Out :=
  .next (if engineHalting s core then s else
    match wantsDown s core with
    | none => s
    | some n =>
      let die := s.die (dieOfCore core)
      if lowerFirst s wantsDown core ∨ 32 < inWindow s.now die.downs + n then s
      else
        let s1 := (remember s core).setDie (dieOfCore core) { die with downs := windowAdd s.now die.downs n }
        let d := (s1.core core).data
        let s2 := s1.setData core { d with groups := d.groups - n }
        match d.run with
        | some r => if r.done then finishPart s2 core r.op else s2
        | none => s2)

/-! ### The exponent check (R280) -/

/-- Stands for no limit, and its negative for no value at all. -/
def noLimit : Int := 1000000

/-- ⌊log2⌋ of a value's magnitude, at least the smallest normal exponent of its format; no limit for NaN and infinity. -/
def checkExp (lo : Int) (v : Val) : Int :=
  match v with | .fin _ m e => if m = 0 then lo else max lo (expOf m e) | _ => noLimit

/-- R280: the bound of a row or column, from its values and its exponent or scale bytes. -/
def checkBound (fmt : Nat) (vs : List Val) (xs : List Nat) : Int :=
  let top := fun (l : List Int) => l.foldl max (-noLimit)
  match fmt with
  | 8 => top (xs.map (fun (x : Nat) => if x = 0 then -noLimit else if x = 255 then noLimit else (x : Int) - 127))
  | 5 => top (xs.map (fun (x : Nat) => if x = 255 then noLimit else (x : Int) - 118))
  | 6 => top (xs.map (fun (x : Nat) => if x = 255 then noLimit else (x : Int) - 111))
  | 7 => 7
  | 1 => 1 + top (vs.map (checkExp Fmt.bf16.emin))
  | 2 => 1 + top (vs.map (checkExp Fmt.f16.emin))
  | 3 => 1 + top (vs.map (checkExp Fmt.e4m3.emin))
  | _ => 1 + top (vs.map (checkExp Fmt.e5m2.emin))

/-- R280: an element raises SUSPECT. -/
def suspect (old new : Word) (rho gamma : Int) (k : Nat) (odd : Bool) : Bool :=
  let vo := Fmt.f32.value old.toNat
  let a : Int := match vo with | .fin _ m e => if m = 0 then -150 else expOf m e | _ => noLimit
  let beta := max (a + 1) (rho + gamma + (if k = 32 then 5 else 6)) + 1
  match Fmt.f32.value new.toNat with
  | .fin _ m e => decide (m ≠ 0) && decide (beta < expOf m e)
  | .inf _ => decide (beta < 128)
  | .nan _ => !odd && (match vo with | .fin _ _ _ => true | _ => false)

/-- R280: an INT8 step changes an element by more than 2^20. -/
def suspectInt (old new : Word) : Bool := decide (1048576 < (new.toInt - old.toInt).natAbs)

/-! ### One step (R199) -/

/-- The piece of a step one engine performs: its tile afterwards, and whether an element raised SUSPECT. -/
def stepPiece (s : State) (r : EngineRun) (j : Nat) : (Nat → Nat → Word) × Bool :=
  let o := r.op
  let row := j / o.cols
  let col := j % o.cols
  let at' := fun (p base : Nat) => ({ core := o.cores.getD p 0, frame := (o.frames.getD p (0, 0)).1, base := base, st := r.step } : OpAt)
  let xa := at' (row * o.cols) r.abase
  let xb := at' col r.bbase
  let k := o.a.k
  let n := o.b.cols
  let rows := laneList.map (fun i => (List.range k).map (aVal s o xa i))
  let cols := (List.range n).map (fun c => (List.range k).map (fun q => bVal s o xb q c))
  let d := (s.core (o.cores.getD j 0)).data
  let int := decide (o.a.fmt = 7)
  let new := fun i c =>
    if n ≤ c then tileAt d o.z i c
    else if int then stepInt (tileAt d o.z i c) (rows.getD i []) (cols.getD c [])
    else stepFloat (tileAt d o.z i c) (rows.getD i []) (cols.getD c [])
  let isOdd := fun (v : Val) => match v with | .fin _ _ _ => false | _ => true
  let bytesOf := fun (x : OpDesc) (p : OpAt) (i : Nat) =>
    (List.range x.blocks).map (fun b => blockByte s p.core p.frame (x.scl + i * x.spitch + r.step * x.blocks + b))
  let rho := (List.range 96).map (fun i => checkBound o.a.fmt (rows.getD i []) (bytesOf o.a xa i))
  let gamma := (List.range n).map (fun c => checkBound o.b.fmt (cols.getD c []) (bytesOf o.b xb c))
  let bad := (List.range 96).any (fun i => (List.range n).any (fun c =>
    if int then suspectInt (tileAt d o.z i c) (new i c)
    else suspect (tileAt d o.z i c) (new i c) (rho.getD i 0) (gamma.getD c 0) k
      ((rows.getD i []).any isOdd || (cols.getD c []).any isOdd)))
  (new, bad)

/-- R196: cycles of a step. -/
def stepCycles (o : EngineOp) : Nat := if o.a.fmt = 8 then 15 * o.a.planes else 120

/-- R200: every engine of the grid runs the instruction and holds its groups; the cycle in which the last one did. -/
def gridSince (s : State) (o : EngineOp) : Option Nat :=
  o.cores.foldl (fun m x =>
    let d := (s.core x).data
    match m, d.run with
    | some t, some r => if sameOp r.op o ∧ r.done = false ∧ groupsOf o ≤ d.groups then some (max t r.since) else none
    | _, _ => none) (some 0)

/-- Every engine of a grid moves its run on. -/
def mapRuns (s : State) (o : EngineOp) (f : EngineRun → EngineRun) : State :=
  o.cores.foldl (fun s x => let d := (s.core x).data; s.setData x { d with run := d.run.map f }) s

/-- R199: a step takes effect on every element of the grid together. -/
def stepEffect (s : State) (r : EngineRun) (pieces : List (Nat → Nat → Word)) : State :=
  let o := r.op
  let s1 := (o.cores.zip pieces).foldl (fun t p =>
    let d := (t.core p.1).data
    t.setData p.1 (tileSet d o.z p.2)) s
  let s2 := mapRuns (linkGrid s1 o) o (fun r => { r with
    step := r.step + 1, done := decide (o.steps ≤ r.step + 1), retry := false, abase := (r.abase + o.aadv) % 2 ^ 19,
    bbase := (r.bbase + o.badv) % 2 ^ 19, since := s.now })
  o.cores.foldl handOver s2

/-- The granule of 8 bytes at `g` overlaps bytes `lo` to `lo + n`. -/
def overlaps (g lo n : Nat) : Bool := decide (lo < g + 8) && decide (g < lo + n)

/-- R197: step `st` reads a byte of A in the granule at `g` of the block. -/
def aUses (a : OpDesc) (o : OpBase) (base st g : Nat) : Bool :=
  let pb := a.len / 8
  let hit := fun i j => decide (place base o.pitch o.rot o.tile 0 i j / 8 * 8 = g)
  !a.vsrc && laneList.any (fun i =>
    (if a.fmt = 8 then
      (List.range a.blocks).any (fun be => (List.range (a.planes * pb)).any (fun q => hit i (be * a.m * pb + a.fp * pb + q)))
    else (List.range (a.k * elemSize a.fmt)).any (hit i)) ||
    (decide (a.fmt = 5 ∨ a.fmt = 6 ∨ a.fmt = 8) && overlaps g (a.scl + i * a.spitch + st * a.blocks) a.blocks))

/-- R197: step `st` reads a byte of B in the granule at `g` of the block. -/
def bUses (k : Nat) (b : OpDesc) (o : OpBase) (base st g : Nat) : Bool :=
  !b.vsrc && ((List.range k).any (fun i =>
      (List.range (b.cols * elemSize b.fmt)).any (fun j => decide (place base o.pitch o.rot o.tile 0 i j / 8 * 8 = g))) ||
    (decide (b.fmt = 5 ∨ b.fmt = 6) && (List.range b.cols).any (fun c => overlaps g (b.scl + c * b.spitch + st * 2) 2)))

/-- R200: a poisoned granule as the block at grid position p sees it. -/
def seenAt (o : EngineOp) (core b p : Nat) : Option Nat :=
  let f := o.frames.getD p (0, 0)
  if o.cores.getD p 0 = core ∧ f.1 * 1024 ≤ b ∧ b < (f.1 + f.2) * 1024 then some (b - f.1 * 1024) else none

/-- R197, R200: one step of an instruction, at given bases, reads the granule at byte b of a core's scratchpad. -/
def stepUses (o : EngineOp) (abase bbase st core b : Nat) : Bool :=
  (List.range o.rows).any (fun i => (seenAt o core b (i * o.cols)).any (aUses o.a o.abase abase st)) ||
  (List.range o.cols).any (fun j => (seenAt o core b j).any (bUses o.a.k o.b o.bbase bbase st))

/-- R275: what an instruction is about to use of a core's scratchpad: the operands of its step, or all that it reads. -/
def runUses (r : EngineRun) (core b : Nat) : Bool :=
  let o := r.op
  match o.kind with
  | .steps => stepUses o r.abase r.bbase r.step core b
  | .bound => (List.range o.steps).any (fun st =>
      stepUses o ((o.abase.base + st * o.aadv) % 2 ^ 19) ((o.bbase.base + st * o.badv) % 2 ^ 19) st core b)
  | .load => (seenAt o core b 0).any (fun g => laneList.any (fun i =>
      (List.range 640).any (fun j => decide (place o.dest.base o.dest.pitch o.dest.rot o.dest.tile 0 i j / 8 * 8 = g))))
  | _ => false

/-- R275: an instruction reads the tile element under key `i` of a core: those that a step updates, that MREAD or MSTORE moves out. -/
def tileUses (o : EngineOp) (core i : Nat) : Bool :=
  o.cores.contains core && decide (i / 15360 = o.z) &&
  (match o.kind with
   | .steps => decide (i % 160 < o.b.cols)
   | .read => decide (o.c0 ≤ i % 160) && decide (i % 160 < o.c0 + o.n) && o.lanes.getLsbD (i % 15360 / 160)
   | .store => true
   | _ => false)

/-- R275: the first poisoned granule that an engine instruction consumes, as an operand or as a tile element, with its unit (R287). -/
def enginePoison (s : State) (r : EngineRun) : Option (Nat × Nat) :=
  s.poison.findSome? (fun p => match p with
    | .scratch c b => if runUses r c b then some (1, b) else none
    | .tile c i => if tileUses r.op c i then some (2, p.place) else none
    | _ => none)

/-- R280, R281: what a step that has ended does: it takes effect; or the engines whose check it fails are marked for self-test, and the step is
recomputed once, and its gang is contained when that fails too. -/
def stepVerdict (s : State) (core : Nat) (r : EngineRun) (pieces : List ((Nat → Nat → Word) × Bool)) : State :=
  let bad := ((r.op.cores.zip pieces).filter (fun p => p.2.2)).map (fun p => p.1)
  let marked := bad.foldl (fun s x => markCore s x 3) s
  if bad.isEmpty then stepEffect (if r.retry then countUp s (dieOfCore core) (ctrCorr 3) else s) r (pieces.map (fun p => p.1))
  else if r.retry then containWave (countUp marked (dieOfCore core) ctrSuspect2) r.op.wave (bad.headD core) 0x61 3 0
  else mapRuns (countUp marked (dieOfCore core) ctrSuspect) r.op (fun r => { r with retry := true, since := s.now })

/-- R199, R207, R280, R275. MATRIX_STEP_END. -/
def execMatrixStepEnd (core : Nat) (s : State) : Out :=
  .next (match (s.core core).data.run with
    | none => s
    | some r =>
      match gridSince s r.op with
      | none => s
      | some t =>
        if r.op.kind ≠ .steps ∨ s.now < t + stepCycles r.op ∨ mayEnd s core t = false then s
        else if let some p := enginePoison s r then consume s r.op.wave core p.1 p.2
        else stepVerdict (rememberAll s r.op.cores) core r ((List.range r.op.cores.length).map (stepPiece s r)))

/-! ### Instructions without column groups (R201 to R203, R205) -/

/-- R205: cycles of an instruction that draws no groups. -/
def plainCycles (o : EngineOp) : Nat :=
  match o.kind with
  | .zero => 4
  | .load => 248
  | .store => (match convSize o.conv with | 4 => 248 | 2 => 128 | _ => 68)
  | .read => 3 * o.n + 8
  | .bound => 4 * o.steps + 8
  | .steps => 0

/-- R205, R207: the cycles that an instruction still takes; an MBOUND that has been halted has ended some of its steps. -/
def cyclesLeft (r : EngineRun) : Nat := plainCycles r.op - 4 * r.step

/-- R201: an element as MSTORE writes it. -/
def storeElem (o : EngineOp) (w : Word) : Nat :=
  let v := Fmt.f32.value w.toNat
  match o.conv with
  | 0 => w.toNat
  | 1 => (Fmt.bf16.round o.rm.toNat o.sat v).1
  | 2 => (Fmt.f16.round o.rm.toNat o.sat v).1
  | 3 => (Fmt.e4m3.round o.rm.toNat o.sat v).1
  | 4 => (Fmt.e5m2.round o.rm.toNat o.sat v).1
  | _ => if o.sat then (BitVec.ofInt 8 (clampInt (intLo 8 true) (intHi 8 true) w.toInt)).toNat else w.toNat % 256

/-- R201: the bytes MSTORE writes. -/
def storeTile (d : CoreData) (o : EngineOp) : Memory :=
  let size := convSize o.conv
  let base := (o.frames.headD (0, 0)).1 * 1024
  (List.range 15360).foldl (fun m q =>
    wrBytes m (base + place o.dest.base o.dest.pitch o.dest.rot o.dest.tile 0 (q / 160) (q % 160 * size))
      (leBytes size (storeElem o (tileAt d o.z (q / 160) (q % 160))))) d.scratch

/-- R275: MSTORE writes all of a granule of its core's scratchpad. -/
def storeCovers (o : EngineOp) (b : Nat) : Bool :=
  let base := (o.frames.headD (0, 0)).1 * 1024
  let size := convSize o.conv
  let at' := fun (q : Nat) => base + place o.dest.base o.dest.pitch o.dest.rot o.dest.tile 0 (q / 160) (q % 160 * size)
  (List.range 8).all (fun j => (List.range 15360).any (fun q => decide (at' q ≤ b + j) && decide (b + j < at' q + size)))

/-- R278: the bytes that MSTORE has written, in pieces of 8, beside the earlier writes of the strike window. -/
def noteTile (now : Nat) (o : EngineOp) (l : List (Nat × Nat × Nat)) : List (Nat × Nat × Nat) :=
  let base := (o.frames.headD (0, 0)).1 * 1024
  let row := 20 * convSize o.conv
  (List.range (96 * row)).foldl (fun l q =>
    let b := base + place o.dest.base o.dest.pitch o.dest.rot o.dest.tile 0 (q / row) (8 * (q % row))
    match l with
    | (t, x, k) :: rest => if t = now ∧ x + k = b then (t, x, k + 8) :: rest else (now, b, 8) :: (t, x, k) :: rest
    | [] => [(now, b, 8)]) (l.filter (fun r => decide (now < r.1 + Config.strikeWindow)))

/-- R275: every element of a tile is written. -/
def cleanTile (s : State) (core z : Nat) : State :=
  s.clean (fun p => match p with | .tile c i => decide (c = core) && decide (i / 15360 = z) | _ => false)

/-- R203: steps `lo` to `lo + n` of one piece of a bound, added to what its bound store holds. -/
def boundSteps (s : State) (o : EngineOp) (j lo n : Nat) (acc : BoundSum) : BoundSum :=
  let at' := fun (p base st : Nat) => ({ core := o.cores.getD p 0, frame := (o.frames.getD p (0, 0)).1, base := base, st := st } : OpAt)
  let xa := at' (j / o.cols * o.cols) 0
  let xb := fun (st : Nat) => at' (j % o.cols) ((o.bbase.base + st * o.badv) % 2 ^ 19) st
  let blocks := 64 / o.a.len
  let expo := fun i st b => blockByte s (xa st).core (xa st).frame (o.a.scl + i * o.a.spitch + st * blocks + b)
  let steps := (List.range n).map (fun q => lo + q)
  let cols := List.range o.b.cols
  let bs := steps.map (fun st => (st, cols.map (fun c => (List.range 64).map (fun k => bVal s o (xb st) k c))))
  let allB := bs.flatMap (fun x => x.2.flatMap (fun y => y))
  let mag := fun (v : Val) => match v with | .fin _ m e => Val.fin false m e | _ => Val.fin false 0 0
  let u := fun i st k => let e := expo i st (k / o.a.len)
    if e = 0 then Val.fin false 0 0 else Val.fin false 1 ((e : Int) - 127 - ((o.a.planes : Int) - 1))
  let t := fun i c =>
    let t0 := acc.sums.getD (i * o.b.cols + c) (0, 0)
    match bs.foldl (fun r x => (List.range 64).foldl (fun r k =>
      (Val.add 0 r (Val.mul (mag ((x.2.getD c []).getD k (.fin false 0 0))) (u i x.1 k)).1).1) r) (Val.fin false t0.1 t0.2) with
    | .fin _ m e => (m, e)
    | _ => t0
  { nan := acc.nan || allB.any Val.isNan || laneList.any (fun i => steps.any (fun st => (List.range blocks).any (fun b => decide (expo i st b = 255))))
    inf := acc.inf || allB.any (fun v => match v with | .inf _ => true | _ => false)
    sums := laneList.flatMap (fun i => cols.map (t i)) }

/-- R203, R207: one piece of a bound when its last step has ended: the engine's store with the steps that it still had to make. -/
def boundPiece (s : State) (o : EngineOp) (j : Nat) : BoundSum :=
  match (s.core (o.cores.getD j 0)).data.run with
  | some r => if sameOp r.op o then boundSteps s o j r.step (o.steps - r.step) r.bound else boundSteps s o j 0 o.steps ⟨false, false, []⟩
  | none => boundSteps s o j 0 o.steps ⟨false, false, []⟩

/-- R203: the bound over every piece of the grid, from the largest T. -/
def boundValue (s : State) (o : EngineOp) : Word :=
  let ps := (List.range o.cores.length).map (boundPiece s o)
  let top := fun (r : Val) (x : Nat × Int) => if Val.lt r (.fin false x.1 x.2) then Val.fin false x.1 x.2 else r
  if ps.any (fun p => p.nan) then BitVec.ofNat 32 Fmt.f32.canon
  else if ps.any (fun p => p.inf) then BitVec.ofNat 32 Fmt.f32.infCode
  else if o.a.planes = o.a.m then 0
  else BitVec.ofNat 32 (Fmt.f32.round 2 false (ps.foldl (fun r p => p.sums.foldl top r) (Val.fin false 0 0))).1

/-! ### A halt (R207) -/

/-- R207: the steps of 4 cycles that an MBOUND has ended when a halt at cycle `h` takes effect. -/
def boundDone (s : State) (r : EngineRun) (h : Nat) : Nat :=
  match gridSince s r.op with | some t => min (r.op.steps - r.step) ((h - t + 3) / 4) | none => 0

/-- R207: the engine of a core of a pavilion that is being halted stands between two steps, or between two instructions. -/
def engineHalted (s : State) (core : Nat) (r : EngineRun) : Bool :=
  let h := (s.pav (pavOfCore core)).haltAt
  match gridSince s r.op with
  | none => true
  | some t => decide (h ≤ t) || (decide (r.op.kind = .bound) && decide (t + 4 * boundDone s r h ≤ s.now))

/-- R207: an engine's instruction as a halt leaves it: the bases, and the partial sums of an MBOUND, at the step that it has ended. -/
def haltedRun (s : State) (core : Nat) (r : EngineRun) : EngineRun :=
  let o := r.op
  let h := (s.pav (pavOfCore core)).haltAt
  if o.kind = .bound then
    let n := boundDone s r h
    { r with
      step := r.step + n, abase := (r.abase + n * o.aadv) % 2 ^ 19, bbase := (r.bbase + n * o.badv) % 2 ^ 19, since := s.now
      bound := if n = 0 then r.bound else boundSteps s o (o.cores.idxOf core) r.step n r.bound }
  else if mayEnd s core r.since then r else { r with since := s.now }

/-- R201 to R203: the effect of an instruction that performs no steps. -/
def plainEffect (s : State) (o : EngineOp) : State :=
  let core := o.cores.headD 0
  let d := (s.core core).data
  match o.kind with
  | .zero => o.cores.foldl (fun s x => cleanTile (s.setData x (tileSet (s.core x).data o.z (fun _ _ => 0))) x o.z) s
  | .load =>
    let frame := (o.frames.headD (0, 0)).1
    cleanTile (s.setData core (tileSet d o.z (fun i c => BitVec.ofNat 32 (opBytes s core frame o.dest o.dest.base i (4 * c) 4)))) core o.z
  | .store =>
    let s1 := s.setCore core { s.core core with data := { d with scratch := storeTile d o }, recent := noteTile s.now o (s.core core).recent }
    s1.clean (fun p => match p with | .scratch c b => decide (c = core) && storeCovers o b | _ => false)
  | .read =>
    (s.modWave o.wave (fun v => (List.range o.n).foldl (fun v k => v.wV (o.reg + k) o.lanes (fun i => tileAt d o.z i (o.c0 + k))) v)).clean
      (fun p => match p with
        | .vector w r i => decide (w = o.wave) && decide (o.reg ≤ r) && decide (r < o.reg + o.n) && o.lanes.getLsbD i
        | _ => false)
  | .bound =>
    ((linkGrid s o).modEnt o.ent (fun e => if e.wave = o.wave then e.wS o.reg (boundValue s o) else e)).clean
      (fun p => decide (p = .scalar o.wave o.ent o.reg))
  | .steps => s

/-- R194. MATRIX_COMPLETE: an instruction that draws no column groups takes effect and completes on its whole grid. -/
def execMatrixComplete (core : Nat) (s : State) : Out :=
  .next (match (s.core core).data.run with
    | none => s
    | some r =>
      if r.op.kind = .steps then (if r.done then handOver s core else s)
      else
        match gridSince s r.op with
        | none => s
        | some t =>
          if s.now < t + cyclesLeft r ∨ mayEnd s core t = false ∨ (r.op.kind = .bound ∧ engineHalting s core = true) then s
          else if let some p := enginePoison s r then consume s r.op.wave core p.1 p.2
          else r.op.cores.foldl (fun s x => finishPart s x r.op) (plainEffect (rememberAll s r.op.cores) r.op))

/-! ### The queue watchdog (R268) -/

/-- R255, R268: HANG for an entity, or, when it has drained, a record of kind 3. -/
def hangOrRecord (s : State) (k w lid core : Nat) : State :=
  (holdCause s k w { cause := 0x70, addr := 0 }).getD (eventRecord s lid 3 0x70 core 0)

/-- R268. ENGINE_QUEUE_WATCHDOG: an entry has waited 2^24 cycles while its tile's ASN stood; the entry stays. -/
def execEngineQueueWatchdog (core k : Nat) (s : State) : Out :=
  .next (match (s.core core).data.queue[k]? with
    | none => s
    | some o =>
      if s.now < o.queuedAt + 2 ^ 24 then s
      else
        let rest := fun (q : EngineOp) => if sameOp q o then { q with queuedAt := s.now } else q
        let s1 := o.cores.foldl (fun s x => let d := (s.core x).data; s.setData x { d with queue := d.queue.map rest }) s
        hangOrRecord s1 o.ent o.wave o.lid core)

end Sys2Proof.Machine
end

