-- ==== Sys2Proof/WellFormed.lean ====
section
/-! DEFINITION. Well-formed instructions: what the field widths of Syntax do not already say of a word (R82, R130, R160, R162, R164, R184), and
the ranges of the numbers a device step names (R6, R234, R247, R300 to R302). -/

namespace Sys2Proof

/-- The check of one instruction. -/
def Instr.wellFormed : Instr → Bool
  | .vcmp _ _ _ _ c _ => decide (c.toNat < 10)
  | .vfcmpF32 _ _ _ _ c _ => decide (c.toNat < 7)
  | .vfcmpF16 _ _ _ _ c _ => decide (c.toNat < 7)
  | .vcvt _ _ _ src dst _ => decide (src.toNat < 13) && decide (dst.toNat < 13) && decide (src ≠ dst)
  | .vld _ _ _ _ _ t _ => decide (t.toNat < 6)
  | .vst _ _ _ _ _ t _ => decide (t.toNat < 6)
  | .vlds _ _ _ _ t _ => decide (t.toNat < 6)
  | .vsts _ _ _ _ t _ => decide (t.toNat < 6)
  | .vldsG _ _ _ _ t _ => decide (t.toNat < 6)
  | .vstsG _ _ _ _ t _ => decide (t.toNat < 6)
  | .sld _ _ _ _ _ t => decide (t.toNat < 6)
  | .sst _ _ _ _ _ t => decide (t.toNat < 6)
  | .slds _ _ _ _ _ t => decide (t.toNat < 6)
  | .ssts _ _ _ _ _ t => decide (t.toNat < 6)
  | .sldsG _ _ _ _ _ t => decide (t.toNat < 6)
  | .sstsG _ _ _ _ _ t => decide (t.toNat < 6)
  | .vatom _ _ _ _ _ c => decide (c.toNat < 14)
  | .satom _ _ _ _ _ c => decide (c.toNat < 14)
  | .old _ _ _ _ t => decide (t.toNat < 6)
  | .ost _ _ _ _ t => decide (t.toNat < 6)
  | .oatom _ _ _ _ c => decide (c.toNat < 14)
  | .oupd _ _ _ _ c => decide (c.toNat < 8 ∨ c.toNat = 10 ∨ c.toNat = 11)
  | .ored _ _ _ c => decide (c.toNat < 8 ∨ c.toNat = 10 ∨ c.toNat = 11)
  | .ordx _ _ _ _ c => decide (c.toNat = 0 ∨ c.toNat = 10 ∨ c.toNat = 11)
  | .fence _ kind scope => decide (kind ≠ 0) && decide (scope.toNat < 6)
  | .asyncTrapDelivery ent => decide (ent < 16384)
  | .runArbitration core slot => decide (core < 512) && decide (slot < 4)
  | .runFetch ent => decide (ent < 16384)
  | .pauseExpiry ent => decide (ent < 16384)
  | .faultRecordWrite die => decide (die < 8)
  | .drainComplete ent => decide (ent < 16384)
  | .binLaunch pav _ => decide (pav < 32)
  | .binIdleExpiry pav _ => decide (pav < 32)
  | .parentSpill ent => decide (ent < 16384)
  | .waitPoll ent => decide (ent < 16384)
  | .copyComplete core _ => decide (core < 512)
  | .copyPageFaultPark core _ => decide (core < 512)
  | .matrixQueueArrival core => decide (core < 512)
  | .matrixStart core => decide (core < 512)
  | .matrixStepEnd core => decide (core < 512)
  | .matrixRelease core => decide (core < 512)
  | .matrixComplete core => decide (core < 512)
  | .epochTimeout die => decide (die < 8)
  | .epochApply die src => decide (die < 8) && decide (src < 8) && decide (die ≠ src)
  | .hostEpochAck die => decide (die < 8)
  | .gfenceRelease ent => decide (ent < 16384)
  | .rinvStatusReturn _ status => decide (status < 4)
  | .wsendArrival win _ _ => decide (win < 1024)
  | .hangRunLimit ent => decide (ent < 16384)
  | .issueStallWatchdog ent => decide (ent < 16384)
  | .engineQueueWatchdog core _ => decide (core < 512)
  | .strikeReport core => decide (core < 512)
  | .strikeBufferSend core => decide (core < 512)
  | .containment ent _ unit _ => decide (ent < 16384) && decide (unit < 11)
  | .scrub die => decide (die < 8)
  | .selfTestStart core => decide (core < 512)
  | .selfTestVerdict core _ => decide (core < 512)
  | .pathDelayMeasure pav => decide (pav < 32)
  | .energyMeterInterval mj => decide (mj.length = 32)
  | .recordTake queue => decide (queue < 1024)
  | .preemption pav => decide (pav < 32)
  | .contextRestore _ pav => decide (pav < 32)
  | .signal ring => decide (ring < 259)
  | .dispatchCoreFailure dc => decide (dc < 2)
  | .heartbeat dc => decide (dc < 2)
  | .heartbeatMiss dc => decide (dc < 2)
  | .dispatchTakeover dc => decide (dc < 2)
  | .queueSet queue asid _ _ cq _ _ => decide (queue < 1024) && decide (asid < 512) && decide (cq < 256)
  | .asidBind asid fn _ _ => decide (asid < 512) && decide (fn < 65)
  | .vfBounds fn _ _ _ _ => decide (0 < fn) && decide (fn < 65)
  | .ounitGrant asid unit code => decide (asid < 512) && decide (unit < 512) && decide (code < 4)
  | .tlbInval asid _ _ => decide (asid < 512)
  | .faultAnswer die verdict park => decide (die < 8) && decide (verdict < 2) && decide (park < 65536)
  | .objCreate asid index _ _ _ _ _ _ => decide (asid < 512) && decide (index < 4096)
  | .objDestroy asid index => decide (asid < 512) && decide (index < 4096)
  | .handlerSet asid index _ _ _ => decide (asid < 512) && decide (index < 4096)
  | .rxqSet prio _ _ pav _ _ _ _ _ => decide (prio < 4) && decide (pav < 32)
  | .windowReg number _ _ _ _ _ _ _ _ _ => decide (number < 1024)
  | .windowDereg number => decide (number < 1024)
  | .fenceClear die core => decide (die < 8) && decide (core < 64)
  | .dispatchRestore dc => decide (dc < 2)
  | .cqSet cq _ _ => decide (cq < 256)
  | .doorbell queue _ => decide (queue < 1024)
  | .cqhead cq _ => decide (cq < 256)
  | .devstatOvfClear bits => decide (bits < 8)
  | .ringSetupWrite ring _ _ => decide (ring < 4)
  | .ringHeadWrite ring _ => decide (0 < ring) && decide (ring < 4)
  | .registerWrite offset _ => decide (offset < 65536)
  | .getCertificate slot => decide (slot < 4)
  | .getMeasurements index => decide (1 ≤ index) && decide (index ≤ 4)
  | .counterRead die _ => decide (die < 8)
  | .powerOnReset _ failed => failed.all (fun c => decide (c < 512))
  | .thermalThrottle pavs => pavs.all (fun p => decide (p < 32))
  | .pathDown chip => decide (chip < 4096)
  | .pathDelayMeasurementEnd pav margins => decide (pav < 32) && decide (margins.length = 9)
  | .add .. | .sub .. | .mul .. | .mulh .. | .mulhu .. | .div .. | .divu .. | .rem .. | .remu .. | .andS .. | .orS .. | .xorS ..
  | .shl .. | .shr .. | .sra .. | .slt .. | .sltu .. | .minS .. | .maxS .. | .minu .. | .maxu .. | .sextI8 .. | .sextI16 ..
  | .zextU8 .. | .zextU16 .. | .addi .. | .andi .. | .ori .. | .xori .. | .shli .. | .shri .. | .srai .. | .slti .. | .sltiu ..
  | .lih .. | .add64 .. | .sub64 .. | .shl64 .. | .shr64 .. | .popc .. | .clz .. | .ctz .. | .fns .. | .brev .. | .popcI64 ..
  | .clzI64 .. | .ctzI64 .. | .fnsI64 .. | .brevI64 .. | .vadd .. | .vsub .. | .vmul .. | .vmulh .. | .vmulhu .. | .vand ..
  | .vor .. | .vxor .. | .vshl .. | .vshr .. | .vsra .. | .vmin .. | .vmax .. | .vminu .. | .vmaxu .. | .vsel .. | .vaddI16x2 ..
  | .vsubI16x2 .. | .vmulI16x2 .. | .vshlI16x2 .. | .vshrI16x2 .. | .vsraI16x2 .. | .vminI16x2 .. | .vmaxI16x2 .. | .vminuU16x2 ..
  | .vmaxuU16x2 .. | .vmad .. | .vbcs .. | .vlane .. | .vpopc .. | .vclz .. | .vctz .. | .vfns .. | .vbrev .. | .vpopcI64 ..
  | .vclzI64 .. | .vctzI64 .. | .vfnsI64 .. | .vbrevI64 .. | .vfadd .. | .vfsub .. | .vfmul .. | .vfma .. | .vfnma .. | .vfmin ..
  | .vfmax .. | .vfaddF16x2 .. | .vfsubF16x2 .. | .vfmulF16x2 .. | .vfmaF16x2 .. | .vfnmaF16x2 .. | .vfminF16x2 ..
  | .vfmaxF16x2 .. | .vfaddF16 .. | .vfsubF16 .. | .vfmulF16 .. | .vfmaF16 .. | .vfnmaF16 .. | .vfminF16 .. | .vfmaxF16 ..
  | .vfaddBf16x2 .. | .vfsubBf16x2 .. | .vfmulBf16x2 .. | .vfmaBf16x2 .. | .vfnmaBf16x2 .. | .vfminBf16x2 .. | .vfmaxBf16x2 ..
  | .vfaddBf16 .. | .vfsubBf16 .. | .vfmulBf16 .. | .vfmaBf16 .. | .vfnmaBf16 .. | .vfminBf16 .. | .vfmaxBf16 .. | .vfrcp ..
  | .vfrsq .. | .vfexp2 .. | .vflog2 .. | .vfsin .. | .vfcos .. | .vqpack .. | .vqunp .. | .vxch .. | .vshfl .. | .vbcl ..
  | .vred .. | .vscan .. | .vballot .. | .vrand .. | .pset .. | .pget .. | .pand .. | .por .. | .pxor .. | .pnot .. | .gfence ..
  | .pref .. | .cpy .. | .cpyg .. | .twait .. | .tany .. | .tfirst .. | .mzero .. | .mma .. | .mloop .. | .mref .. | .mldz ..
  | .mstore .. | .mread .. | .mbound .. | .masn .. | .mwait .. | .pass .. | .seal .. | .vget .. | .vpin .. | .vrel ..
  | .qwaitQual .. | .qwaitVer .. | .qwaitDone .. | .qcvt .. | .budget .. | .jinit .. | .join .. | .fld .. | .fst .. | .yld ..
  | .gchk .. | .gret | .gend | .rinv .. | .wsend .. | .cwait .. | .cwaitOut .. | .spawn .. | .genb .. | .br .. | .beqz ..
  | .bnez .. | .bltz .. | .bgez .. | .bgtz .. | .blez .. | .call .. | .vbany .. | .vball .. | .vbr .. | .nop .. | .exit | .ret
  | .jmpr .. | .rcv .. | .bar .. | .gbar .. | .pause .. | .srd .. | .swr .. | .trap .. | .tret | .icinv .. | .ifence
  | .hintRegionNop .. | .ximm .. | .xmod .. | .hint .. | .illegalWord .. | .globalAccessResponse .. | .spillRingDrain ..
  | .parentRestore .. | .bankOperation .. | .bankPass .. | .bankSeal .. | .bankVget .. | .bankVpin .. | .bankVrel ..
  | .bankAnswer .. | .objectClose .. | .objectDrop .. | .icinvComplete .. | .rinvPacketArrival .. | .receiveQueueFeed
  | .retirementAck .. | .wsendAck .. | .wsendFailure .. | .timeBudgetExhausted .. | .gangPlace | .gangRetire .. | .contextEvict ..
  | .contextStageIn .. | .launchComplete .. | .completionPost | .tlbInvalComplete | .warmReset .. | .chipid .. | .orngVget ..
  | .orngVpin .. | .orngVrel .. | .dmemAccess .. | .orngAccess .. | .getVersion | .getCapabilities | .negotiateAlgorithms
  | .getDigests | .challenge .. | .pldmFirmwareUpdate .. | .pldmMonitor .. | .thermalTrip | .homeOperation .. => true

end Sys2Proof
end

