-- ==== Sys2Proof/Decode.lean ====
section
/-! DEFINITION. Decoding of an instruction word (R118 to R130), total, and after it the encoder, both written from the encodings of
spec/opcode_table.json. A word that no row assigns decodes to nothing and executes as ILLEGAL_WORD (R127). -/

namespace Sys2Proof

/-- Bits [lo + n − 1 : lo] of a word. -/
def fld (w : Word) (lo n : Nat) : BitVec n := w.extractLsb' lo n

/-- R130: an atomic operation that OUPD and ORED accept. -/
def updateOp (c : Nat) : Bool := decide (c < 8) || decide (c = 10) || decide (c = 11)

/-- R130: an atomic operation that ORDX accepts. -/
def orderedOp (c : Nat) : Bool := decide (c = 0) || decide (c = 10) || decide (c = 11)

/-- Major 0x01, of R129 and R130. -/
def dec01 (w : Word) : Option Instr :=
  match (fld w 0 7).toNat with
  | 0 => some (.add w.msb (fld w 19 6) (fld w 13 6) (fld w 7 6))
  | 1 => some (.sub w.msb (fld w 19 6) (fld w 13 6) (fld w 7 6))
  | 2 => some (.mul w.msb (fld w 19 6) (fld w 13 6) (fld w 7 6))
  | 3 => some (.mulh w.msb (fld w 19 6) (fld w 13 6) (fld w 7 6))
  | 4 => some (.mulhu w.msb (fld w 19 6) (fld w 13 6) (fld w 7 6))
  | 5 => some (.div w.msb (fld w 19 6) (fld w 13 6) (fld w 7 6))
  | 6 => some (.divu w.msb (fld w 19 6) (fld w 13 6) (fld w 7 6))
  | 7 => some (.rem w.msb (fld w 19 6) (fld w 13 6) (fld w 7 6))
  | 8 => some (.remu w.msb (fld w 19 6) (fld w 13 6) (fld w 7 6))
  | 9 => some (.andS w.msb (fld w 19 6) (fld w 13 6) (fld w 7 6))
  | 10 => some (.orS w.msb (fld w 19 6) (fld w 13 6) (fld w 7 6))
  | 11 => some (.xorS w.msb (fld w 19 6) (fld w 13 6) (fld w 7 6))
  | 12 => some (.shl w.msb (fld w 19 6) (fld w 13 6) (fld w 7 6))
  | 13 => some (.shr w.msb (fld w 19 6) (fld w 13 6) (fld w 7 6))
  | 14 => some (.sra w.msb (fld w 19 6) (fld w 13 6) (fld w 7 6))
  | 15 => some (.slt w.msb (fld w 19 6) (fld w 13 6) (fld w 7 6))
  | 16 => some (.sltu w.msb (fld w 19 6) (fld w 13 6) (fld w 7 6))
  | 17 => some (.minS w.msb (fld w 19 6) (fld w 13 6) (fld w 7 6))
  | 18 => some (.maxS w.msb (fld w 19 6) (fld w 13 6) (fld w 7 6))
  | 19 => some (.minu w.msb (fld w 19 6) (fld w 13 6) (fld w 7 6))
  | 20 => some (.maxu w.msb (fld w 19 6) (fld w 13 6) (fld w 7 6))
  | 21 => some (.sextI8 w.msb (fld w 19 6) (fld w 13 6))
  | 22 => some (.sextI16 w.msb (fld w 19 6) (fld w 13 6))
  | 23 => some (.zextU8 w.msb (fld w 19 6) (fld w 13 6))
  | 24 => some (.zextU16 w.msb (fld w 19 6) (fld w 13 6))
  | _ => none

/-- Major 0x0C, of R129 and R130. -/
def dec0C (w : Word) : Option Instr :=
  match (fld w 0 7).toNat with
  | 0 => some (.add64 w.msb (fld w 19 6) (fld w 13 6) (fld w 7 6))
  | 1 => some (.sub64 w.msb (fld w 19 6) (fld w 13 6) (fld w 7 6))
  | 2 => some (.shl64 w.msb (fld w 19 6) (fld w 13 6) (fld w 7 6))
  | 3 => some (.shr64 w.msb (fld w 19 6) (fld w 13 6) (fld w 7 6))
  | 16 => some (.popc w.msb (fld w 19 6) (fld w 13 6))
  | 17 => some (.clz w.msb (fld w 19 6) (fld w 13 6))
  | 18 => some (.ctz w.msb (fld w 19 6) (fld w 13 6))
  | 19 => some (.fns w.msb (fld w 19 6) (fld w 13 6) (fld w 7 6))
  | 20 => some (.brev w.msb (fld w 19 6) (fld w 13 6))
  | 24 => some (.popcI64 w.msb (fld w 19 6) (fld w 13 6))
  | 25 => some (.clzI64 w.msb (fld w 19 6) (fld w 13 6))
  | 26 => some (.ctzI64 w.msb (fld w 19 6) (fld w 13 6))
  | 27 => some (.fnsI64 w.msb (fld w 19 6) (fld w 13 6) (fld w 7 6))
  | 28 => some (.brevI64 w.msb (fld w 19 6) (fld w 13 6))
  | _ => none

/-- Major 0x10, of R129 and R130. -/
def dec10 (w : Word) : Option Instr :=
  match (fld w 3 4).toNat with
  | 0 => some (.vadd w.msb (fld w 19 6) (fld w 13 6) (fld w 7 6) (fld w 0 3))
  | 1 => some (.vsub w.msb (fld w 19 6) (fld w 13 6) (fld w 7 6) (fld w 0 3))
  | 2 => some (.vmul w.msb (fld w 19 6) (fld w 13 6) (fld w 7 6) (fld w 0 3))
  | 3 => some (.vmulh w.msb (fld w 19 6) (fld w 13 6) (fld w 7 6) (fld w 0 3))
  | 4 => some (.vmulhu w.msb (fld w 19 6) (fld w 13 6) (fld w 7 6) (fld w 0 3))
  | 5 => some (.vand w.msb (fld w 19 6) (fld w 13 6) (fld w 7 6) (fld w 0 3))
  | 6 => some (.vor w.msb (fld w 19 6) (fld w 13 6) (fld w 7 6) (fld w 0 3))
  | 7 => some (.vxor w.msb (fld w 19 6) (fld w 13 6) (fld w 7 6) (fld w 0 3))
  | 8 => some (.vshl w.msb (fld w 19 6) (fld w 13 6) (fld w 7 6) (fld w 0 3))
  | 9 => some (.vshr w.msb (fld w 19 6) (fld w 13 6) (fld w 7 6) (fld w 0 3))
  | 10 => some (.vsra w.msb (fld w 19 6) (fld w 13 6) (fld w 7 6) (fld w 0 3))
  | 11 => some (.vmin w.msb (fld w 19 6) (fld w 13 6) (fld w 7 6) (fld w 0 3))
  | 12 => some (.vmax w.msb (fld w 19 6) (fld w 13 6) (fld w 7 6) (fld w 0 3))
  | 13 => some (.vminu w.msb (fld w 19 6) (fld w 13 6) (fld w 7 6) (fld w 0 3))
  | 14 => some (.vmaxu w.msb (fld w 19 6) (fld w 13 6) (fld w 7 6) (fld w 0 3))
  | 15 => some (.vsel w.msb (fld w 19 6) (fld w 13 6) (fld w 7 6) (fld w 0 3))
  | _ => none

/-- Major 0x11, of R129 and R130. -/
def dec11 (w : Word) : Option Instr :=
  match (fld w 3 4).toNat with
  | 0 => some (.vaddI16x2 w.msb (fld w 19 6) (fld w 13 6) (fld w 7 6) (fld w 0 3))
  | 1 => some (.vsubI16x2 w.msb (fld w 19 6) (fld w 13 6) (fld w 7 6) (fld w 0 3))
  | 2 => some (.vmulI16x2 w.msb (fld w 19 6) (fld w 13 6) (fld w 7 6) (fld w 0 3))
  | 8 => some (.vshlI16x2 w.msb (fld w 19 6) (fld w 13 6) (fld w 7 6) (fld w 0 3))
  | 9 => some (.vshrI16x2 w.msb (fld w 19 6) (fld w 13 6) (fld w 7 6) (fld w 0 3))
  | 10 => some (.vsraI16x2 w.msb (fld w 19 6) (fld w 13 6) (fld w 7 6) (fld w 0 3))
  | 11 => some (.vminI16x2 w.msb (fld w 19 6) (fld w 13 6) (fld w 7 6) (fld w 0 3))
  | 12 => some (.vmaxI16x2 w.msb (fld w 19 6) (fld w 13 6) (fld w 7 6) (fld w 0 3))
  | 13 => some (.vminuU16x2 w.msb (fld w 19 6) (fld w 13 6) (fld w 7 6) (fld w 0 3))
  | 14 => some (.vmaxuU16x2 w.msb (fld w 19 6) (fld w 13 6) (fld w 7 6) (fld w 0 3))
  | _ => none

/-- Major 0x12, of R129 and R130. -/
def dec12 (w : Word) : Option Instr :=
  match (fld w 3 4).toNat with
  | 0 => some (.vmad w.msb (fld w 19 6) (fld w 13 6) (fld w 7 6) (fld w 0 3))
  | 1 => some (.vbcs w.msb (fld w 19 6) (fld w 13 6) (fld w 0 3))
  | 2 => some (.vlane w.msb (fld w 19 6) (fld w 0 3))
  | 3 => some (.vpopc w.msb (fld w 19 6) (fld w 13 6) (fld w 0 3))
  | 4 => some (.vclz w.msb (fld w 19 6) (fld w 13 6) (fld w 0 3))
  | 5 => some (.vctz w.msb (fld w 19 6) (fld w 13 6) (fld w 0 3))
  | 6 => some (.vfns w.msb (fld w 19 6) (fld w 13 6) (fld w 7 6) (fld w 0 3))
  | 7 => some (.vbrev w.msb (fld w 19 6) (fld w 13 6) (fld w 0 3))
  | 8 => some (.vpopcI64 w.msb (fld w 19 6) (fld w 13 6) (fld w 0 3))
  | 9 => some (.vclzI64 w.msb (fld w 19 6) (fld w 13 6) (fld w 0 3))
  | 10 => some (.vctzI64 w.msb (fld w 19 6) (fld w 13 6) (fld w 0 3))
  | 11 => some (.vfnsI64 w.msb (fld w 19 6) (fld w 13 6) (fld w 7 6) (fld w 0 3))
  | 12 => some (.vbrevI64 w.msb (fld w 19 6) (fld w 13 6) (fld w 0 3))
  | _ => none

/-- Major 0x14, of R129 and R130. -/
def dec14 (w : Word) : Option Instr :=
  match (fld w 3 4).toNat with
  | 0 => some (.vfadd w.msb (fld w 19 6) (fld w 13 6) (fld w 7 6) (fld w 0 3))
  | 1 => some (.vfsub w.msb (fld w 19 6) (fld w 13 6) (fld w 7 6) (fld w 0 3))
  | 2 => some (.vfmul w.msb (fld w 19 6) (fld w 13 6) (fld w 7 6) (fld w 0 3))
  | 3 => some (.vfma w.msb (fld w 19 6) (fld w 13 6) (fld w 7 6) (fld w 0 3))
  | 4 => some (.vfnma w.msb (fld w 19 6) (fld w 13 6) (fld w 7 6) (fld w 0 3))
  | 5 => some (.vfmin w.msb (fld w 19 6) (fld w 13 6) (fld w 7 6) (fld w 0 3))
  | 6 => some (.vfmax w.msb (fld w 19 6) (fld w 13 6) (fld w 7 6) (fld w 0 3))
  | _ => none

/-- Major 0x15, of R129 and R130. -/
def dec15 (w : Word) : Option Instr :=
  match (fld w 3 4).toNat with
  | 0 => some (.vfaddF16x2 w.msb (fld w 19 6) (fld w 13 6) (fld w 7 6) (fld w 0 3))
  | 1 => some (.vfsubF16x2 w.msb (fld w 19 6) (fld w 13 6) (fld w 7 6) (fld w 0 3))
  | 2 => some (.vfmulF16x2 w.msb (fld w 19 6) (fld w 13 6) (fld w 7 6) (fld w 0 3))
  | 3 => some (.vfmaF16x2 w.msb (fld w 19 6) (fld w 13 6) (fld w 7 6) (fld w 0 3))
  | 4 => some (.vfnmaF16x2 w.msb (fld w 19 6) (fld w 13 6) (fld w 7 6) (fld w 0 3))
  | 5 => some (.vfminF16x2 w.msb (fld w 19 6) (fld w 13 6) (fld w 7 6) (fld w 0 3))
  | 6 => some (.vfmaxF16x2 w.msb (fld w 19 6) (fld w 13 6) (fld w 7 6) (fld w 0 3))
  | 8 => some (.vfaddF16 w.msb (fld w 19 6) (fld w 13 6) (fld w 7 6) (fld w 0 3))
  | 9 => some (.vfsubF16 w.msb (fld w 19 6) (fld w 13 6) (fld w 7 6) (fld w 0 3))
  | 10 => some (.vfmulF16 w.msb (fld w 19 6) (fld w 13 6) (fld w 7 6) (fld w 0 3))
  | 11 => some (.vfmaF16 w.msb (fld w 19 6) (fld w 13 6) (fld w 7 6) (fld w 0 3))
  | 12 => some (.vfnmaF16 w.msb (fld w 19 6) (fld w 13 6) (fld w 7 6) (fld w 0 3))
  | 13 => some (.vfminF16 w.msb (fld w 19 6) (fld w 13 6) (fld w 7 6) (fld w 0 3))
  | 14 => some (.vfmaxF16 w.msb (fld w 19 6) (fld w 13 6) (fld w 7 6) (fld w 0 3))
  | _ => none

/-- Major 0x16, of R129 and R130. -/
def dec16 (w : Word) : Option Instr :=
  match (fld w 3 4).toNat with
  | 0 => some (.vfaddBf16x2 w.msb (fld w 19 6) (fld w 13 6) (fld w 7 6) (fld w 0 3))
  | 1 => some (.vfsubBf16x2 w.msb (fld w 19 6) (fld w 13 6) (fld w 7 6) (fld w 0 3))
  | 2 => some (.vfmulBf16x2 w.msb (fld w 19 6) (fld w 13 6) (fld w 7 6) (fld w 0 3))
  | 3 => some (.vfmaBf16x2 w.msb (fld w 19 6) (fld w 13 6) (fld w 7 6) (fld w 0 3))
  | 4 => some (.vfnmaBf16x2 w.msb (fld w 19 6) (fld w 13 6) (fld w 7 6) (fld w 0 3))
  | 5 => some (.vfminBf16x2 w.msb (fld w 19 6) (fld w 13 6) (fld w 7 6) (fld w 0 3))
  | 6 => some (.vfmaxBf16x2 w.msb (fld w 19 6) (fld w 13 6) (fld w 7 6) (fld w 0 3))
  | 8 => some (.vfaddBf16 w.msb (fld w 19 6) (fld w 13 6) (fld w 7 6) (fld w 0 3))
  | 9 => some (.vfsubBf16 w.msb (fld w 19 6) (fld w 13 6) (fld w 7 6) (fld w 0 3))
  | 10 => some (.vfmulBf16 w.msb (fld w 19 6) (fld w 13 6) (fld w 7 6) (fld w 0 3))
  | 11 => some (.vfmaBf16 w.msb (fld w 19 6) (fld w 13 6) (fld w 7 6) (fld w 0 3))
  | 12 => some (.vfnmaBf16 w.msb (fld w 19 6) (fld w 13 6) (fld w 7 6) (fld w 0 3))
  | 13 => some (.vfminBf16 w.msb (fld w 19 6) (fld w 13 6) (fld w 7 6) (fld w 0 3))
  | 14 => some (.vfmaxBf16 w.msb (fld w 19 6) (fld w 13 6) (fld w 7 6) (fld w 0 3))
  | _ => none

/-- Major 0x17, of R129 and R130. -/
def dec17 (w : Word) : Option Instr :=
  match (fld w 6 1).toNat with
  | 0 => if (fld w 3 3).toNat < 7 then some (.vfcmpF32 w.msb (fld w 19 3) (fld w 13 6) (fld w 7 6) (fld w 3 3) (fld w 0 3)) else none
  | 1 => if (fld w 3 3).toNat < 7 then some (.vfcmpF16 w.msb (fld w 19 3) (fld w 13 6) (fld w 7 6) (fld w 3 3) (fld w 0 3)) else none
  | _ => none

/-- Major 0x18, of R129 and R130. -/
def dec18 (w : Word) : Option Instr :=
  match (fld w 3 4).toNat with
  | 0 => some (.vfrcp w.msb (fld w 19 6) (fld w 13 6) (fld w 0 3))
  | 1 => some (.vfrsq w.msb (fld w 19 6) (fld w 13 6) (fld w 0 3))
  | 2 => some (.vfexp2 w.msb (fld w 19 6) (fld w 13 6) (fld w 0 3))
  | 3 => some (.vflog2 w.msb (fld w 19 6) (fld w 13 6) (fld w 0 3))
  | 4 => some (.vfsin w.msb (fld w 19 6) (fld w 13 6) (fld w 0 3))
  | 5 => some (.vfcos w.msb (fld w 19 6) (fld w 13 6) (fld w 0 3))
  | _ => none

/-- Major 0x19 (R164 to R166). -/
def dec19 (w : Word) : Option Instr :=
  match (fld w 3 4).toNat with
  | 13 => some (.vqpack w.msb (fld w 19 6) (fld w 13 6) (fld w 7 6) (fld w 0 3))
  | 14 => some (.vqunp w.msb (fld w 19 6) (fld w 13 6) (fld w 7 6) (fld w 0 3))
  | _ => if (fld w 7 4).toNat < 13 ∧ (fld w 3 4).toNat < 13 ∧ (fld w 7 4) ≠ (fld w 3 4) then some (.vcvt w.msb (fld w 19 6) (fld w 13 6) (fld w 7 4) (fld w 3 4) (fld w 0 3)) else none

/-- Major 0x1A, of R129 and R130. -/
def dec1A (w : Word) : Option Instr :=
  match (fld w 3 4).toNat with
  | 0 => some (.vxch w.msb (fld w 19 6) (fld w 13 6) (fld w 7 3) (fld w 0 3))
  | 1 => some (.vshfl w.msb (fld w 19 6) (fld w 13 6) (fld w 7 6) (fld w 0 3))
  | 2 => some (.vbcl w.msb (fld w 19 6) (fld w 13 6) (fld w 7 6) (fld w 0 3))
  | 3 => some (.vred w.msb (fld w 19 6) (fld w 13 6) (fld w 7 4) (fld w 0 3))
  | 4 => some (.vscan w.msb (fld w 19 6) (fld w 13 6) (w.getLsbD 11) (fld w 7 4) (fld w 0 3))
  | 5 => some (.vballot w.msb (fld w 19 6) (fld w 0 3))
  | 6 => some (.vrand w.msb (fld w 19 6) (fld w 13 6) (fld w 7 6) (fld w 0 3))
  | _ => none

/-- Major 0x1B, of R129 and R130. -/
def dec1B (w : Word) : Option Instr :=
  if fld w 3 4 = 0 then some (.pset w.msb (fld w 19 3) (fld w 13 6) (fld w 0 3))
  else if fld w 0 7 = 8 then some (.pget w.msb (fld w 19 6) (fld w 13 3))
  else if fld w 3 4 = 2 then some (.pand w.msb (fld w 19 3) (fld w 13 3) (fld w 7 3) (fld w 0 3))
  else if fld w 3 4 = 3 then some (.por w.msb (fld w 19 3) (fld w 13 3) (fld w 7 3) (fld w 0 3))
  else if fld w 3 4 = 4 then some (.pxor w.msb (fld w 19 3) (fld w 13 3) (fld w 7 3) (fld w 0 3))
  else if fld w 3 4 = 5 then some (.pnot w.msb (fld w 19 3) (fld w 13 3) (fld w 0 3))
  else none

/-- Major 0x22, of R129 and R130. -/
def dec22 (w : Word) : Option Instr :=
  match (fld w 6 1).toNat with
  | 0 => if (fld w 3 3).toNat < 6 then some (.vlds w.msb (fld w 19 6) (fld w 13 6) (fld w 7 6) (fld w 3 3) (fld w 0 3)) else none
  | 1 => if (fld w 3 3).toNat < 6 then some (.vsts w.msb (fld w 19 6) (fld w 13 6) (fld w 7 6) (fld w 3 3) (fld w 0 3)) else none
  | _ => none

/-- Major 0x23, of R129 and R130. -/
def dec23 (w : Word) : Option Instr :=
  match (fld w 6 1).toNat with
  | 0 => if (fld w 3 3).toNat < 6 then some (.vldsG w.msb (fld w 19 6) (fld w 13 6) (fld w 7 6) (fld w 3 3) (fld w 0 3)) else none
  | 1 => if (fld w 3 3).toNat < 6 then some (.vstsG w.msb (fld w 19 6) (fld w 13 6) (fld w 7 6) (fld w 3 3) (fld w 0 3)) else none
  | _ => none

/-- Major 0x24, of R129 and R130. -/
def dec24 (w : Word) : Option Instr :=
  if fld w 3 2 = 0 ∧ fld w 6 1 = 0 then (if (fld w 0 3).toNat < 6 then some (.sld w.msb (fld w 19 6) (fld w 13 6) (fld w 7 6) (w.getLsbD 5) (fld w 0 3)) else none)
  else if fld w 3 2 = 0 ∧ fld w 6 1 = 1 then (if (fld w 0 3).toNat < 6 then some (.sst w.msb (fld w 19 6) (fld w 13 6) (fld w 7 6) (w.getLsbD 5) (fld w 0 3)) else none)
  else if fld w 3 2 = 1 ∧ fld w 6 1 = 0 then (if (fld w 0 3).toNat < 6 then some (.slds w.msb (fld w 19 6) (fld w 13 6) (fld w 7 6) (w.getLsbD 5) (fld w 0 3)) else none)
  else if fld w 3 2 = 1 ∧ fld w 6 1 = 1 then (if (fld w 0 3).toNat < 6 then some (.ssts w.msb (fld w 19 6) (fld w 13 6) (fld w 7 6) (w.getLsbD 5) (fld w 0 3)) else none)
  else if fld w 3 2 = 2 ∧ fld w 6 1 = 0 then (if (fld w 0 3).toNat < 6 then some (.sldsG w.msb (fld w 19 6) (fld w 13 6) (fld w 7 6) (w.getLsbD 5) (fld w 0 3)) else none)
  else if fld w 3 2 = 2 ∧ fld w 6 1 = 1 then (if (fld w 0 3).toNat < 6 then some (.sstsG w.msb (fld w 19 6) (fld w 13 6) (fld w 7 6) (w.getLsbD 5) (fld w 0 3)) else none)
  else none

/-- Major 0x25, of R129 and R130. -/
def dec25 (w : Word) : Option Instr :=
  match (fld w 6 1).toNat with
  | 0 => if (fld w 0 4).toNat < 14 then some (.vatom w.msb (fld w 19 6) (fld w 13 6) (fld w 7 6) (fld w 4 2) (fld w 0 4)) else none
  | 1 => if (fld w 0 4).toNat < 14 then some (.satom w.msb (fld w 19 6) (fld w 13 6) (fld w 7 6) (fld w 4 2) (fld w 0 4)) else none
  | _ => none

/-- Major 0x26, of R129 and R130. -/
def dec26 (w : Word) : Option Instr :=
  match (fld w 4 3).toNat with
  | 0 => if (fld w 0 4).toNat < 6 then some (.old w.msb (fld w 19 6) (fld w 13 6) (fld w 7 6) (fld w 0 4)) else none
  | 1 => if (fld w 0 4).toNat < 6 then some (.ost w.msb (fld w 19 6) (fld w 13 6) (fld w 7 6) (fld w 0 4)) else none
  | 2 => if (fld w 0 4).toNat < 14 then some (.oatom w.msb (fld w 19 6) (fld w 13 6) (fld w 7 6) (fld w 0 4)) else none
  | 3 => if updateOp (fld w 0 4).toNat = true then some (.oupd w.msb (fld w 19 6) (fld w 13 6) (fld w 7 6) (fld w 0 4)) else none
  | 4 => if updateOp (fld w 0 4).toNat = true then some (.ored w.msb (fld w 19 6) (fld w 13 6) (fld w 0 4)) else none
  | 5 => if orderedOp (fld w 0 4).toNat = true then some (.ordx w.msb (fld w 19 6) (fld w 13 6) (fld w 7 6) (fld w 0 4)) else none
  | _ => none

/-- Major 0x27, of R129 and R130. -/
def dec27 (w : Word) : Option Instr :=
  if fld w 5 2 = 0 then (if (fld w 3 2) ≠ 0 ∧ (fld w 0 3).toNat < 6 then some (.fence w.msb (fld w 3 2) (fld w 0 3)) else none)
  else if fld w 0 7 = 64 then some (.gfence w.msb)
  else if fld w 0 7 = 65 then some (.pref w.msb (fld w 13 6) (fld w 7 6))
  else none

/-- Major 0x28, of R129 and R130. -/
def dec28 (w : Word) : Option Instr :=
  match (fld w 0 7).toNat with
  | 0 => some (.cpy w.msb (fld w 19 6) (fld w 13 6) (fld w 7 6))
  | 1 => some (.cpyg w.msb (fld w 19 6) (fld w 13 6) (fld w 7 6))
  | _ => none

/-- Major 0x29, of R129 and R130. -/
def dec29 (w : Word) : Option Instr :=
  match (fld w 0 7).toNat with
  | 0 => some (.twait w.msb (fld w 13 6))
  | 1 => some (.tany w.msb (fld w 13 6))
  | 2 => some (.tfirst w.msb (fld w 19 6) (fld w 13 6))
  | _ => none

/-- Major 0x2C, of R129 and R130. -/
def dec2C (w : Word) : Option Instr :=
  match (fld w 0 7).toNat with
  | 0 => some (.mzero w.msb (fld w 23 2) (fld w 21 2) (fld w 19 2) (fld w 13 6))
  | 1 => some (.mma w.msb (fld w 19 2) (fld w 13 6) (fld w 7 6))
  | 2 => some (.mloop w.msb (fld w 23 2) (fld w 21 2) (fld w 19 2) (fld w 13 6) (fld w 7 6))
  | 3 => some (.mref w.msb (fld w 23 2) (fld w 21 2) (fld w 19 2) (fld w 13 6) (fld w 7 6))
  | 4 => some (.mldz w.msb (fld w 19 2) (fld w 13 6) (fld w 7 6))
  | 5 => some (.mstore w.msb (fld w 19 2) (fld w 13 6) (fld w 7 6))
  | 6 => some (.mread w.msb (fld w 19 6) (fld w 13 6) (fld w 7 2))
  | 7 => some (.mbound w.msb (fld w 23 2) (fld w 21 2) (fld w 19 2) (fld w 13 6) (fld w 7 6))
  | 8 => some (.masn w.msb (fld w 19 6) (fld w 13 2))
  | 9 => if w.msb = true then some (.mwait (fld w 19 2) (fld w 13 6)) else none
  | _ => none

/-- Major 0x30, of R129 and R130. -/
def dec30 (w : Word) : Option Instr :=
  match (fld w 0 7).toNat with
  | 0 => some (.pass w.msb (fld w 19 6) (fld w 13 6))
  | 1 => some (.seal w.msb (fld w 13 6) (fld w 7 6))
  | 2 => some (.vget w.msb (fld w 19 6) (fld w 13 6))
  | 3 => some (.vpin w.msb (fld w 19 6) (fld w 13 6))
  | 4 => some (.vrel w.msb (fld w 13 6) (fld w 7 6))
  | 5 => some (.qwaitQual w.msb (fld w 19 6) (fld w 13 6) (fld w 7 6))
  | 6 => some (.qwaitVer w.msb (fld w 19 6) (fld w 13 6) (fld w 7 6))
  | 7 => some (.qwaitDone w.msb (fld w 19 6) (fld w 13 6))
  | 8 => some (.qcvt w.msb (fld w 19 6) (fld w 13 6))
  | 9 => some (.budget w.msb (fld w 19 6))
  | _ => none

/-- Major 0x31, of R129 and R130. -/
def dec31 (w : Word) : Option Instr :=
  if fld w 0 7 = 0 then some (.jinit w.msb (fld w 13 6) (fld w 7 6))
  else if fld w 0 7 = 1 then some (.join w.msb (fld w 13 6))
  else if fld w 0 7 = 2 then some (.fld w.msb (fld w 19 6) (fld w 13 6) (fld w 7 6))
  else if fld w 0 7 = 3 then some (.fst w.msb (fld w 19 6) (fld w 13 6) (fld w 7 6))
  else if fld w 0 7 = 8 then some (.yld w.msb (fld w 13 6) (fld w 7 6))
  else if fld w 0 7 = 9 then some (.gchk w.msb)
  else if w.msb = true ∧ fld w 0 7 = 10 then some (.gret)
  else if w.msb = true ∧ fld w 0 7 = 11 then some (.gend)
  else if fld w 0 7 = 16 then some (.rinv w.msb (fld w 19 6) (fld w 13 6) (fld w 7 6))
  else if fld w 0 7 = 17 then some (.wsend w.msb (fld w 13 6) (fld w 7 6))
  else if fld w 0 7 = 18 ∧ fld w 19 6 = 0 then some (.cwait w.msb (fld w 13 6) (fld w 7 6))
  else if fld w 0 7 = 18 ∧ fld w 19 6 = 1 then some (.cwaitOut w.msb)
  else none

/-- Major 0x34, of R129 and R130. -/
def dec34 (w : Word) : Option Instr :=
  match (fld w 22 3).toNat with
  | 0 => if w.msb = true then some (.br (fld w 0 16)) else none
  | 1 => if w.msb = true then some (.beqz (fld w 16 6) (fld w 0 16)) else none
  | 2 => if w.msb = true then some (.bnez (fld w 16 6) (fld w 0 16)) else none
  | 3 => if w.msb = true then some (.bltz (fld w 16 6) (fld w 0 16)) else none
  | 4 => if w.msb = true then some (.bgez (fld w 16 6) (fld w 0 16)) else none
  | 5 => if w.msb = true then some (.bgtz (fld w 16 6) (fld w 0 16)) else none
  | 6 => if w.msb = true then some (.blez (fld w 16 6) (fld w 0 16)) else none
  | 7 => if w.msb = true then some (.call (fld w 0 16)) else none
  | _ => none

/-- Major 0x35, of R129 and R130. -/
def dec35 (w : Word) : Option Instr :=
  match (fld w 16 6).toNat with
  | 0 => if w.msb = true then some (.vbany (fld w 22 3) (fld w 0 16)) else none
  | 1 => if w.msb = true then some (.vball (fld w 22 3) (fld w 0 16)) else none
  | _ => none

/-- Major 0x37, of R129 and R130. -/
def dec37 (w : Word) : Option Instr :=
  match (fld w 0 7).toNat with
  | 0 => some (.nop w.msb)
  | 1 => if w.msb = true then some (.exit) else none
  | 2 => if w.msb = true then some (.ret) else none
  | 3 => if w.msb = true then some (.jmpr (fld w 13 6)) else none
  | 4 => some (.rcv w.msb)
  | 5 => some (.bar w.msb)
  | 6 => some (.gbar w.msb)
  | 7 => some (.pause w.msb (fld w 13 6))
  | 8 => some (.srd w.msb (fld w 19 6) (fld w 7 6))
  | 9 => some (.swr w.msb (fld w 13 6) (fld w 7 6))
  | 10 => if w.msb = true then some (.trap (fld w 7 7)) else none
  | 11 => if w.msb = true then some (.tret) else none
  | 12 => some (.icinv w.msb (fld w 13 6) (fld w 7 6))
  | 13 => if w.msb = true then some (.ifence) else none
  | _ => none

/-- R118, R127: the instruction of a word; none for a word that the opcode map does not assign. -/
def decode (w : Word) : Option Instr :=
  match (fld w 25 6).toNat with
  | 0x01 => dec01 w
  | 0x02 => some (.addi w.msb (fld w 19 6) (fld w 13 6) (fld w 0 13))
  | 0x03 => some (.andi w.msb (fld w 19 6) (fld w 13 6) (fld w 0 13))
  | 0x04 => some (.ori w.msb (fld w 19 6) (fld w 13 6) (fld w 0 13))
  | 0x05 => some (.xori w.msb (fld w 19 6) (fld w 13 6) (fld w 0 13))
  | 0x06 => some (.shli w.msb (fld w 19 6) (fld w 13 6) (fld w 0 13))
  | 0x07 => some (.shri w.msb (fld w 19 6) (fld w 13 6) (fld w 0 13))
  | 0x08 => some (.srai w.msb (fld w 19 6) (fld w 13 6) (fld w 0 13))
  | 0x09 => some (.slti w.msb (fld w 19 6) (fld w 13 6) (fld w 0 13))
  | 0x0A => some (.sltiu w.msb (fld w 19 6) (fld w 13 6) (fld w 0 13))
  | 0x0B => some (.lih w.msb (fld w 19 6) (fld w 0 19))
  | 0x0C => dec0C w
  | 0x10 => dec10 w
  | 0x11 => dec11 w
  | 0x12 => dec12 w
  | 0x13 => if (fld w 3 4).toNat < 10 then some (.vcmp w.msb (fld w 19 3) (fld w 13 6) (fld w 7 6) (fld w 3 4) (fld w 0 3)) else none
  | 0x14 => dec14 w
  | 0x15 => dec15 w
  | 0x16 => dec16 w
  | 0x17 => dec17 w
  | 0x18 => dec18 w
  | 0x19 => dec19 w
  | 0x1A => dec1A w
  | 0x1B => dec1B w
  | 0x20 => if (fld w 3 3).toNat < 6 then some (.vld w.msb (fld w 19 6) (fld w 13 6) (fld w 7 6) (w.getLsbD 6) (fld w 3 3) (fld w 0 3)) else none
  | 0x21 => if (fld w 3 3).toNat < 6 then some (.vst w.msb (fld w 19 6) (fld w 13 6) (fld w 7 6) (w.getLsbD 6) (fld w 3 3) (fld w 0 3)) else none
  | 0x22 => dec22 w
  | 0x23 => dec23 w
  | 0x24 => dec24 w
  | 0x25 => dec25 w
  | 0x26 => dec26 w
  | 0x27 => dec27 w
  | 0x28 => dec28 w
  | 0x29 => dec29 w
  | 0x2C => dec2C w
  | 0x30 => dec30 w
  | 0x31 => dec31 w
  | 0x32 => some (.spawn w.msb (fld w 22 3) (fld w 16 6) (fld w 0 16))
  | 0x33 => if fld w 22 3 = 0 then some (.genb w.msb (fld w 16 6) (fld w 0 16)) else none
  | 0x34 => dec34 w
  | 0x35 => dec35 w
  | 0x36 => if w.msb = true then some (.vbr (fld w 22 3) (fld w 11 11) (fld w 0 11)) else none
  | 0x37 => dec37 w
  | 0x3C => if w.msb = false then some (.ximm (fld w 0 25)) else none
  | 0x3D => if w.msb = false then some (.xmod (w.getLsbD 20) (w.getLsbD 19) (fld w 17 2) (w.getLsbD 16) (w.getLsbD 15) (fld w 12 3) (fld w 10 2) (fld w 8 2)) else none
  | 0x3E => if w.msb = false then some (.hint (fld w 20 5)) else none
  | 0x38 => some (.hintRegionNop w.msb (fld w 25 2))
  | 0x39 => some (.hintRegionNop w.msb (fld w 25 2))
  | 0x3A => some (.hintRegionNop w.msb (fld w 25 2))
  | 0x3B => some (.hintRegionNop w.msb (fld w 25 2))
  | _ => none

/-- R127: what a word executes as. -/
def instrOf (w : Word) : Instr := (decode w).getD (.illegalWord w)

/-- The instruction of a table word: 32 bits, the only length (R3). -/
def decodeTableWord (nbits w : Nat) : Option Instr := if nbits = 32 then decode (BitVec.ofNat 32 w) else none

/-! ### Encoding (R118) -/

/-- E, OP and the 25 bits below them. -/
def wordOf (e : Bool) (op : BitVec 6) (body : BitVec 25) : Word := (BitVec.ofBool e ++ op ++ body : BitVec 32)

/-- R118: the word of an instruction, reserved fields zero; none for a step that has no word. -/
def encode : Instr → Option Word
  | .add e d a b => some (wordOf e 0x01 (d ++ a ++ b ++ 0#7))
  | .sub e d a b => some (wordOf e 0x01 (d ++ a ++ b ++ 1#7))
  | .mul e d a b => some (wordOf e 0x01 (d ++ a ++ b ++ 2#7))
  | .mulh e d a b => some (wordOf e 0x01 (d ++ a ++ b ++ 3#7))
  | .mulhu e d a b => some (wordOf e 0x01 (d ++ a ++ b ++ 4#7))
  | .div e d a b => some (wordOf e 0x01 (d ++ a ++ b ++ 5#7))
  | .divu e d a b => some (wordOf e 0x01 (d ++ a ++ b ++ 6#7))
  | .rem e d a b => some (wordOf e 0x01 (d ++ a ++ b ++ 7#7))
  | .remu e d a b => some (wordOf e 0x01 (d ++ a ++ b ++ 8#7))
  | .andS e d a b => some (wordOf e 0x01 (d ++ a ++ b ++ 9#7))
  | .orS e d a b => some (wordOf e 0x01 (d ++ a ++ b ++ 10#7))
  | .xorS e d a b => some (wordOf e 0x01 (d ++ a ++ b ++ 11#7))
  | .shl e d a b => some (wordOf e 0x01 (d ++ a ++ b ++ 12#7))
  | .shr e d a b => some (wordOf e 0x01 (d ++ a ++ b ++ 13#7))
  | .sra e d a b => some (wordOf e 0x01 (d ++ a ++ b ++ 14#7))
  | .slt e d a b => some (wordOf e 0x01 (d ++ a ++ b ++ 15#7))
  | .sltu e d a b => some (wordOf e 0x01 (d ++ a ++ b ++ 16#7))
  | .minS e d a b => some (wordOf e 0x01 (d ++ a ++ b ++ 17#7))
  | .maxS e d a b => some (wordOf e 0x01 (d ++ a ++ b ++ 18#7))
  | .minu e d a b => some (wordOf e 0x01 (d ++ a ++ b ++ 19#7))
  | .maxu e d a b => some (wordOf e 0x01 (d ++ a ++ b ++ 20#7))
  | .sextI8 e d a => some (wordOf e 0x01 (d ++ a ++ 21#13))
  | .sextI16 e d a => some (wordOf e 0x01 (d ++ a ++ 22#13))
  | .zextU8 e d a => some (wordOf e 0x01 (d ++ a ++ 23#13))
  | .zextU16 e d a => some (wordOf e 0x01 (d ++ a ++ 24#13))
  | .addi e d a imm => some (wordOf e 0x02 (d ++ a ++ imm))
  | .andi e d a imm => some (wordOf e 0x03 (d ++ a ++ imm))
  | .ori e d a imm => some (wordOf e 0x04 (d ++ a ++ imm))
  | .xori e d a imm => some (wordOf e 0x05 (d ++ a ++ imm))
  | .shli e d a imm => some (wordOf e 0x06 (d ++ a ++ imm))
  | .shri e d a imm => some (wordOf e 0x07 (d ++ a ++ imm))
  | .srai e d a imm => some (wordOf e 0x08 (d ++ a ++ imm))
  | .slti e d a imm => some (wordOf e 0x09 (d ++ a ++ imm))
  | .sltiu e d a imm => some (wordOf e 0x0A (d ++ a ++ imm))
  | .lih e d imm => some (wordOf e 0x0B (d ++ imm))
  | .add64 e d a b => some (wordOf e 0x0C (d ++ a ++ b ++ 0#7))
  | .sub64 e d a b => some (wordOf e 0x0C (d ++ a ++ b ++ 1#7))
  | .shl64 e d a b => some (wordOf e 0x0C (d ++ a ++ b ++ 2#7))
  | .shr64 e d a b => some (wordOf e 0x0C (d ++ a ++ b ++ 3#7))
  | .popc e d a => some (wordOf e 0x0C (d ++ a ++ 16#13))
  | .clz e d a => some (wordOf e 0x0C (d ++ a ++ 17#13))
  | .ctz e d a => some (wordOf e 0x0C (d ++ a ++ 18#13))
  | .fns e d a b => some (wordOf e 0x0C (d ++ a ++ b ++ 19#7))
  | .brev e d a => some (wordOf e 0x0C (d ++ a ++ 20#13))
  | .popcI64 e d a => some (wordOf e 0x0C (d ++ a ++ 24#13))
  | .clzI64 e d a => some (wordOf e 0x0C (d ++ a ++ 25#13))
  | .ctzI64 e d a => some (wordOf e 0x0C (d ++ a ++ 26#13))
  | .fnsI64 e d a b => some (wordOf e 0x0C (d ++ a ++ b ++ 27#7))
  | .brevI64 e d a => some (wordOf e 0x0C (d ++ a ++ 28#13))
  | .vadd e d a b p => some (wordOf e 0x10 (d ++ a ++ b ++ 0#4 ++ p))
  | .vsub e d a b p => some (wordOf e 0x10 (d ++ a ++ b ++ 1#4 ++ p))
  | .vmul e d a b p => some (wordOf e 0x10 (d ++ a ++ b ++ 2#4 ++ p))
  | .vmulh e d a b p => some (wordOf e 0x10 (d ++ a ++ b ++ 3#4 ++ p))
  | .vmulhu e d a b p => some (wordOf e 0x10 (d ++ a ++ b ++ 4#4 ++ p))
  | .vand e d a b p => some (wordOf e 0x10 (d ++ a ++ b ++ 5#4 ++ p))
  | .vor e d a b p => some (wordOf e 0x10 (d ++ a ++ b ++ 6#4 ++ p))
  | .vxor e d a b p => some (wordOf e 0x10 (d ++ a ++ b ++ 7#4 ++ p))
  | .vshl e d a b p => some (wordOf e 0x10 (d ++ a ++ b ++ 8#4 ++ p))
  | .vshr e d a b p => some (wordOf e 0x10 (d ++ a ++ b ++ 9#4 ++ p))
  | .vsra e d a b p => some (wordOf e 0x10 (d ++ a ++ b ++ 10#4 ++ p))
  | .vmin e d a b p => some (wordOf e 0x10 (d ++ a ++ b ++ 11#4 ++ p))
  | .vmax e d a b p => some (wordOf e 0x10 (d ++ a ++ b ++ 12#4 ++ p))
  | .vminu e d a b p => some (wordOf e 0x10 (d ++ a ++ b ++ 13#4 ++ p))
  | .vmaxu e d a b p => some (wordOf e 0x10 (d ++ a ++ b ++ 14#4 ++ p))
  | .vsel e d a b p => some (wordOf e 0x10 (d ++ a ++ b ++ 15#4 ++ p))
  | .vaddI16x2 e d a b p => some (wordOf e 0x11 (d ++ a ++ b ++ 0#4 ++ p))
  | .vsubI16x2 e d a b p => some (wordOf e 0x11 (d ++ a ++ b ++ 1#4 ++ p))
  | .vmulI16x2 e d a b p => some (wordOf e 0x11 (d ++ a ++ b ++ 2#4 ++ p))
  | .vshlI16x2 e d a b p => some (wordOf e 0x11 (d ++ a ++ b ++ 8#4 ++ p))
  | .vshrI16x2 e d a b p => some (wordOf e 0x11 (d ++ a ++ b ++ 9#4 ++ p))
  | .vsraI16x2 e d a b p => some (wordOf e 0x11 (d ++ a ++ b ++ 10#4 ++ p))
  | .vminI16x2 e d a b p => some (wordOf e 0x11 (d ++ a ++ b ++ 11#4 ++ p))
  | .vmaxI16x2 e d a b p => some (wordOf e 0x11 (d ++ a ++ b ++ 12#4 ++ p))
  | .vminuU16x2 e d a b p => some (wordOf e 0x11 (d ++ a ++ b ++ 13#4 ++ p))
  | .vmaxuU16x2 e d a b p => some (wordOf e 0x11 (d ++ a ++ b ++ 14#4 ++ p))
  | .vmad e d a b p => some (wordOf e 0x12 (d ++ a ++ b ++ 0#4 ++ p))
  | .vbcs e d a p => some (wordOf e 0x12 (d ++ a ++ 1#10 ++ p))
  | .vlane e d p => some (wordOf e 0x12 (d ++ 2#16 ++ p))
  | .vpopc e d a p => some (wordOf e 0x12 (d ++ a ++ 3#10 ++ p))
  | .vclz e d a p => some (wordOf e 0x12 (d ++ a ++ 4#10 ++ p))
  | .vctz e d a p => some (wordOf e 0x12 (d ++ a ++ 5#10 ++ p))
  | .vfns e d a b p => some (wordOf e 0x12 (d ++ a ++ b ++ 6#4 ++ p))
  | .vbrev e d a p => some (wordOf e 0x12 (d ++ a ++ 7#10 ++ p))
  | .vpopcI64 e d a p => some (wordOf e 0x12 (d ++ a ++ 8#10 ++ p))
  | .vclzI64 e d a p => some (wordOf e 0x12 (d ++ a ++ 9#10 ++ p))
  | .vctzI64 e d a p => some (wordOf e 0x12 (d ++ a ++ 10#10 ++ p))
  | .vfnsI64 e d a b p => some (wordOf e 0x12 (d ++ a ++ b ++ 11#4 ++ p))
  | .vbrevI64 e d a p => some (wordOf e 0x12 (d ++ a ++ 12#10 ++ p))
  | .vcmp e d a b c p => some (wordOf e 0x13 (0#3 ++ d ++ a ++ b ++ c ++ p))
  | .vfadd e d a b p => some (wordOf e 0x14 (d ++ a ++ b ++ 0#4 ++ p))
  | .vfsub e d a b p => some (wordOf e 0x14 (d ++ a ++ b ++ 1#4 ++ p))
  | .vfmul e d a b p => some (wordOf e 0x14 (d ++ a ++ b ++ 2#4 ++ p))
  | .vfma e d a b p => some (wordOf e 0x14 (d ++ a ++ b ++ 3#4 ++ p))
  | .vfnma e d a b p => some (wordOf e 0x14 (d ++ a ++ b ++ 4#4 ++ p))
  | .vfmin e d a b p => some (wordOf e 0x14 (d ++ a ++ b ++ 5#4 ++ p))
  | .vfmax e d a b p => some (wordOf e 0x14 (d ++ a ++ b ++ 6#4 ++ p))
  | .vfaddF16x2 e d a b p => some (wordOf e 0x15 (d ++ a ++ b ++ 0#4 ++ p))
  | .vfsubF16x2 e d a b p => some (wordOf e 0x15 (d ++ a ++ b ++ 1#4 ++ p))
  | .vfmulF16x2 e d a b p => some (wordOf e 0x15 (d ++ a ++ b ++ 2#4 ++ p))
  | .vfmaF16x2 e d a b p => some (wordOf e 0x15 (d ++ a ++ b ++ 3#4 ++ p))
  | .vfnmaF16x2 e d a b p => some (wordOf e 0x15 (d ++ a ++ b ++ 4#4 ++ p))
  | .vfminF16x2 e d a b p => some (wordOf e 0x15 (d ++ a ++ b ++ 5#4 ++ p))
  | .vfmaxF16x2 e d a b p => some (wordOf e 0x15 (d ++ a ++ b ++ 6#4 ++ p))
  | .vfaddF16 e d a b p => some (wordOf e 0x15 (d ++ a ++ b ++ 8#4 ++ p))
  | .vfsubF16 e d a b p => some (wordOf e 0x15 (d ++ a ++ b ++ 9#4 ++ p))
  | .vfmulF16 e d a b p => some (wordOf e 0x15 (d ++ a ++ b ++ 10#4 ++ p))
  | .vfmaF16 e d a b p => some (wordOf e 0x15 (d ++ a ++ b ++ 11#4 ++ p))
  | .vfnmaF16 e d a b p => some (wordOf e 0x15 (d ++ a ++ b ++ 12#4 ++ p))
  | .vfminF16 e d a b p => some (wordOf e 0x15 (d ++ a ++ b ++ 13#4 ++ p))
  | .vfmaxF16 e d a b p => some (wordOf e 0x15 (d ++ a ++ b ++ 14#4 ++ p))
  | .vfaddBf16x2 e d a b p => some (wordOf e 0x16 (d ++ a ++ b ++ 0#4 ++ p))
  | .vfsubBf16x2 e d a b p => some (wordOf e 0x16 (d ++ a ++ b ++ 1#4 ++ p))
  | .vfmulBf16x2 e d a b p => some (wordOf e 0x16 (d ++ a ++ b ++ 2#4 ++ p))
  | .vfmaBf16x2 e d a b p => some (wordOf e 0x16 (d ++ a ++ b ++ 3#4 ++ p))
  | .vfnmaBf16x2 e d a b p => some (wordOf e 0x16 (d ++ a ++ b ++ 4#4 ++ p))
  | .vfminBf16x2 e d a b p => some (wordOf e 0x16 (d ++ a ++ b ++ 5#4 ++ p))
  | .vfmaxBf16x2 e d a b p => some (wordOf e 0x16 (d ++ a ++ b ++ 6#4 ++ p))
  | .vfaddBf16 e d a b p => some (wordOf e 0x16 (d ++ a ++ b ++ 8#4 ++ p))
  | .vfsubBf16 e d a b p => some (wordOf e 0x16 (d ++ a ++ b ++ 9#4 ++ p))
  | .vfmulBf16 e d a b p => some (wordOf e 0x16 (d ++ a ++ b ++ 10#4 ++ p))
  | .vfmaBf16 e d a b p => some (wordOf e 0x16 (d ++ a ++ b ++ 11#4 ++ p))
  | .vfnmaBf16 e d a b p => some (wordOf e 0x16 (d ++ a ++ b ++ 12#4 ++ p))
  | .vfminBf16 e d a b p => some (wordOf e 0x16 (d ++ a ++ b ++ 13#4 ++ p))
  | .vfmaxBf16 e d a b p => some (wordOf e 0x16 (d ++ a ++ b ++ 14#4 ++ p))
  | .vfcmpF32 e d a b c p => some (wordOf e 0x17 (0#3 ++ d ++ a ++ b ++ 0#1 ++ c ++ p))
  | .vfcmpF16 e d a b c p => some (wordOf e 0x17 (0#3 ++ d ++ a ++ b ++ 1#1 ++ c ++ p))
  | .vfrcp e d a p => some (wordOf e 0x18 (d ++ a ++ 0#10 ++ p))
  | .vfrsq e d a p => some (wordOf e 0x18 (d ++ a ++ 1#10 ++ p))
  | .vfexp2 e d a p => some (wordOf e 0x18 (d ++ a ++ 2#10 ++ p))
  | .vflog2 e d a p => some (wordOf e 0x18 (d ++ a ++ 3#10 ++ p))
  | .vfsin e d a p => some (wordOf e 0x18 (d ++ a ++ 4#10 ++ p))
  | .vfcos e d a p => some (wordOf e 0x18 (d ++ a ++ 5#10 ++ p))
  | .vcvt e d a src dst p => some (wordOf e 0x19 (d ++ a ++ 0#2 ++ src ++ dst ++ p))
  | .vqpack e d a b p => some (wordOf e 0x19 (d ++ a ++ b ++ 13#4 ++ p))
  | .vqunp e d a b p => some (wordOf e 0x19 (d ++ a ++ b ++ 14#4 ++ p))
  | .vxch e d a g p => some (wordOf e 0x1A (d ++ a ++ 0#3 ++ g ++ 0#4 ++ p))
  | .vshfl e d a b p => some (wordOf e 0x1A (d ++ a ++ b ++ 1#4 ++ p))
  | .vbcl e d a b p => some (wordOf e 0x1A (d ++ a ++ b ++ 2#4 ++ p))
  | .vred e d a op p => some (wordOf e 0x1A (d ++ a ++ 0#2 ++ op ++ 3#4 ++ p))
  | .vscan e d a ex op p => some (wordOf e 0x1A (d ++ a ++ 0#1 ++ BitVec.ofBool ex ++ op ++ 4#4 ++ p))
  | .vballot e d p => some (wordOf e 0x1A (d ++ 5#16 ++ p))
  | .vrand e d a b p => some (wordOf e 0x1A (d ++ a ++ b ++ 6#4 ++ p))
  | .pset e d a p => some (wordOf e 0x1B (0#3 ++ d ++ a ++ 0#10 ++ p))
  | .pget e d q => some (wordOf e 0x1B (d ++ 0#3 ++ q ++ 8#13))
  | .pand e d a b p => some (wordOf e 0x1B (0#3 ++ d ++ 0#3 ++ a ++ 0#3 ++ b ++ 2#4 ++ p))
  | .por e d a b p => some (wordOf e 0x1B (0#3 ++ d ++ 0#3 ++ a ++ 0#3 ++ b ++ 3#4 ++ p))
  | .pxor e d a b p => some (wordOf e 0x1B (0#3 ++ d ++ 0#3 ++ a ++ 0#3 ++ b ++ 4#4 ++ p))
  | .pnot e d a p => some (wordOf e 0x1B (0#3 ++ d ++ 0#3 ++ a ++ 5#10 ++ p))
  | .vld e d a b q t p => some (wordOf e 0x20 (d ++ a ++ b ++ BitVec.ofBool q ++ t ++ p))
  | .vst e d a b q t p => some (wordOf e 0x21 (d ++ a ++ b ++ BitVec.ofBool q ++ t ++ p))
  | .vlds e d a b t p => some (wordOf e 0x22 (d ++ a ++ b ++ 0#1 ++ t ++ p))
  | .vsts e d a b t p => some (wordOf e 0x22 (d ++ a ++ b ++ 1#1 ++ t ++ p))
  | .vldsG e d a b t p => some (wordOf e 0x23 (d ++ a ++ b ++ 0#1 ++ t ++ p))
  | .vstsG e d a b t p => some (wordOf e 0x23 (d ++ a ++ b ++ 1#1 ++ t ++ p))
  | .sld e d a b q t => some (wordOf e 0x24 (d ++ a ++ b ++ 0#1 ++ BitVec.ofBool q ++ 0#2 ++ t))
  | .sst e d a b q t => some (wordOf e 0x24 (d ++ a ++ b ++ 1#1 ++ BitVec.ofBool q ++ 0#2 ++ t))
  | .slds e d a b q t => some (wordOf e 0x24 (d ++ a ++ b ++ 0#1 ++ BitVec.ofBool q ++ 1#2 ++ t))
  | .ssts e d a b q t => some (wordOf e 0x24 (d ++ a ++ b ++ 1#1 ++ BitVec.ofBool q ++ 1#2 ++ t))
  | .sldsG e d a b q t => some (wordOf e 0x24 (d ++ a ++ b ++ 0#1 ++ BitVec.ofBool q ++ 2#2 ++ t))
  | .sstsG e d a b q t => some (wordOf e 0x24 (d ++ a ++ b ++ 1#1 ++ BitVec.ofBool q ++ 2#2 ++ t))
  | .vatom e d a b q c => some (wordOf e 0x25 (d ++ a ++ b ++ 0#1 ++ q ++ c))
  | .satom e d a b q c => some (wordOf e 0x25 (d ++ a ++ b ++ 1#1 ++ q ++ c))
  | .old e d a b t => some (wordOf e 0x26 (d ++ a ++ b ++ 0#3 ++ t))
  | .ost e d a b t => some (wordOf e 0x26 (d ++ a ++ b ++ 1#3 ++ t))
  | .oatom e d a b c => some (wordOf e 0x26 (d ++ a ++ b ++ 2#3 ++ c))
  | .oupd e d a b c => some (wordOf e 0x26 (d ++ a ++ b ++ 3#3 ++ c))
  | .ored e d a c => some (wordOf e 0x26 (d ++ a ++ 4#9 ++ c))
  | .ordx e d a b c => some (wordOf e 0x26 (d ++ a ++ b ++ 5#3 ++ c))
  | .fence e kind scope => some (wordOf e 0x27 (0#20 ++ kind ++ scope))
  | .gfence e => some (wordOf e 0x27 (64#25))
  | .pref e a b => some (wordOf e 0x27 (0#6 ++ a ++ b ++ 65#7))
  | .cpy e t a b => some (wordOf e 0x28 (t ++ a ++ b ++ 0#7))
  | .cpyg e t a b => some (wordOf e 0x28 (t ++ a ++ b ++ 1#7))
  | .twait e a => some (wordOf e 0x29 (0#6 ++ a ++ 0#13))
  | .tany e a => some (wordOf e 0x29 (0#6 ++ a ++ 1#13))
  | .tfirst e d a => some (wordOf e 0x29 (d ++ a ++ 2#13))
  | .mzero e r c z a => some (wordOf e 0x2C (r ++ c ++ z ++ a ++ 0#13))
  | .mma e z a b => some (wordOf e 0x2C (0#4 ++ z ++ a ++ b ++ 1#7))
  | .mloop e r c z a b => some (wordOf e 0x2C (r ++ c ++ z ++ a ++ b ++ 2#7))
  | .mref e r c z a b => some (wordOf e 0x2C (r ++ c ++ z ++ a ++ b ++ 3#7))
  | .mldz e z a b => some (wordOf e 0x2C (0#4 ++ z ++ a ++ b ++ 4#7))
  | .mstore e z a b => some (wordOf e 0x2C (0#4 ++ z ++ a ++ b ++ 5#7))
  | .mread e d a z => some (wordOf e 0x2C (d ++ a ++ 0#4 ++ z ++ 6#7))
  | .mbound e r c z a b => some (wordOf e 0x2C (r ++ c ++ z ++ a ++ b ++ 7#7))
  | .masn e d z => some (wordOf e 0x2C (d ++ 0#4 ++ z ++ 8#13))
  | .mwait z a => some (wordOf true 0x2C (0#4 ++ z ++ a ++ 9#13))
  | .pass e d a => some (wordOf e 0x30 (d ++ a ++ 0#13))
  | .seal e a b => some (wordOf e 0x30 (0#6 ++ a ++ b ++ 1#7))
  | .vget e d a => some (wordOf e 0x30 (d ++ a ++ 2#13))
  | .vpin e d a => some (wordOf e 0x30 (d ++ a ++ 3#13))
  | .vrel e a b => some (wordOf e 0x30 (0#6 ++ a ++ b ++ 4#7))
  | .qwaitQual e d a b => some (wordOf e 0x30 (d ++ a ++ b ++ 5#7))
  | .qwaitVer e d a b => some (wordOf e 0x30 (d ++ a ++ b ++ 6#7))
  | .qwaitDone e d a => some (wordOf e 0x30 (d ++ a ++ 7#13))
  | .qcvt e d a => some (wordOf e 0x30 (d ++ a ++ 8#13))
  | .budget e d => some (wordOf e 0x30 (d ++ 9#19))
  | .jinit e a b => some (wordOf e 0x31 (0#6 ++ a ++ b ++ 0#7))
  | .join e a => some (wordOf e 0x31 (0#6 ++ a ++ 1#13))
  | .fld e d a b => some (wordOf e 0x31 (d ++ a ++ b ++ 2#7))
  | .fst e d a b => some (wordOf e 0x31 (d ++ a ++ b ++ 3#7))
  | .yld e a b => some (wordOf e 0x31 (0#6 ++ a ++ b ++ 8#7))
  | .gchk e => some (wordOf e 0x31 (9#25))
  | .gret => some (wordOf true 0x31 (10#25))
  | .gend => some (wordOf true 0x31 (11#25))
  | .rinv e d a b => some (wordOf e 0x31 (d ++ a ++ b ++ 16#7))
  | .wsend e a b => some (wordOf e 0x31 (0#6 ++ a ++ b ++ 17#7))
  | .cwait e a b => some (wordOf e 0x31 (0#6 ++ a ++ b ++ 18#7))
  | .cwaitOut e => some (wordOf e 0x31 (524306#25))
  | .spawn e k a o => some (wordOf e 0x32 (k ++ a ++ o))
  | .genb e a o => some (wordOf e 0x33 (0#3 ++ a ++ o))
  | .br o => some (wordOf true 0x34 (0#9 ++ o))
  | .beqz a o => some (wordOf true 0x34 (1#3 ++ a ++ o))
  | .bnez a o => some (wordOf true 0x34 (2#3 ++ a ++ o))
  | .bltz a o => some (wordOf true 0x34 (3#3 ++ a ++ o))
  | .bgez a o => some (wordOf true 0x34 (4#3 ++ a ++ o))
  | .bgtz a o => some (wordOf true 0x34 (5#3 ++ a ++ o))
  | .blez a o => some (wordOf true 0x34 (6#3 ++ a ++ o))
  | .call o => some (wordOf true 0x34 (448#9 ++ o))
  | .vbany k o => some (wordOf true 0x35 (k ++ 0#6 ++ o))
  | .vball k o => some (wordOf true 0x35 (k ++ 1#6 ++ o))
  | .vbr k toff koff => some (wordOf true 0x36 (k ++ toff ++ koff))
  | .nop e => some (wordOf e 0x37 (0#25))
  | .exit => some (wordOf true 0x37 (1#25))
  | .ret => some (wordOf true 0x37 (2#25))
  | .jmpr a => some (wordOf true 0x37 (0#6 ++ a ++ 3#13))
  | .rcv e => some (wordOf e 0x37 (4#25))
  | .bar e => some (wordOf e 0x37 (5#25))
  | .gbar e => some (wordOf e 0x37 (6#25))
  | .pause e a => some (wordOf e 0x37 (0#6 ++ a ++ 7#13))
  | .srd e d b => some (wordOf e 0x37 (d ++ 0#6 ++ b ++ 8#7))
  | .swr e a b => some (wordOf e 0x37 (0#6 ++ a ++ b ++ 9#7))
  | .trap n => some (wordOf true 0x37 (0#11 ++ n ++ 10#7))
  | .tret => some (wordOf true 0x37 (11#25))
  | .icinv e a b => some (wordOf e 0x37 (0#6 ++ a ++ b ++ 12#7))
  | .ifence => some (wordOf true 0x37 (13#25))
  | .hintRegionNop e m => some (BitVec.ofBool e ++ 14#4 ++ m ++ 0#25 : BitVec 32)
  | .ximm imm => some (wordOf false 0x3C (imm))
  | .xmod pneg rmv rm sat scv scope ch ord => some (wordOf false 0x3D (0#4 ++ BitVec.ofBool pneg ++ BitVec.ofBool rmv ++ rm ++ BitVec.ofBool sat ++ BitVec.ofBool scv ++ scope ++ ch ++ ord ++ 0#8))
  | .hint k => some (wordOf false 0x3E (k ++ 0#20))
  | .illegalWord .. | .asyncTrapDelivery .. | .runArbitration .. | .runFetch .. | .pauseExpiry ..
  | .globalAccessResponse .. | .faultRecordWrite .. | .drainComplete .. | .binLaunch .. | .binIdleExpiry ..
  | .spillRingDrain .. | .parentSpill .. | .parentRestore .. | .waitPoll .. | .bankOperation .. | .bankPass ..
  | .bankSeal .. | .bankVget .. | .bankVpin .. | .bankVrel .. | .bankAnswer .. | .objectClose ..
  | .objectDrop .. | .copyComplete .. | .copyPageFaultPark .. | .matrixQueueArrival .. | .matrixStart ..
  | .matrixStepEnd .. | .matrixRelease .. | .matrixComplete .. | .icinvComplete .. | .epochTimeout ..
  | .epochApply .. | .hostEpochAck .. | .gfenceRelease .. | .rinvPacketArrival .. | .rinvStatusReturn ..
  | .receiveQueueFeed | .retirementAck .. | .wsendArrival .. | .wsendAck .. | .wsendFailure ..
  | .hangRunLimit .. | .issueStallWatchdog .. | .engineQueueWatchdog .. | .strikeReport ..
  | .strikeBufferSend .. | .containment .. | .scrub .. | .selfTestStart .. | .selfTestVerdict ..
  | .pathDelayMeasure .. | .energyMeterInterval .. | .timeBudgetExhausted .. | .recordTake .. | .gangPlace
  | .gangRetire .. | .preemption .. | .contextEvict .. | .contextStageIn .. | .contextRestore ..
  | .launchComplete .. | .completionPost | .signal .. | .dispatchCoreFailure .. | .heartbeat ..
  | .heartbeatMiss .. | .dispatchTakeover .. | .queueSet .. | .asidBind .. | .vfBounds .. | .ounitGrant ..
  | .tlbInval .. | .tlbInvalComplete | .faultAnswer .. | .objCreate .. | .objDestroy .. | .handlerSet ..
  | .rxqSet .. | .windowReg .. | .windowDereg .. | .fenceClear .. | .dispatchRestore .. | .cqSet ..
  | .doorbell .. | .cqhead .. | .warmReset .. | .chipid .. | .devstatOvfClear .. | .ringSetupWrite ..
  | .ringHeadWrite .. | .registerWrite .. | .orngVget .. | .orngVpin .. | .orngVrel .. | .dmemAccess ..
  | .orngAccess .. | .getVersion | .getCapabilities | .negotiateAlgorithms | .getDigests | .getCertificate ..
  | .challenge .. | .getMeasurements .. | .pldmFirmwareUpdate .. | .pldmMonitor .. | .counterRead ..
  | .powerOnReset .. | .thermalThrottle .. | .thermalTrip | .homeOperation .. | .pathDown ..
  | .pathDelayMeasurementEnd .. => none

end Sys2Proof
end

