-- ==== Sys2Proof/Machine/Order.lean ====
section
/-! DEFINITION. Fences, prefetch and the steps of the epoch mechanism (R82 to R94, R184 to R186, R309): major 0x27. -/

namespace Sys2Proof.Machine

open Sys2Proof

/-- R184: a fence waits until every earlier access of the entity has reached its point of coherence; a release closes the die's epoch
at PKG and SYS scope (R94) and at SYS scope waits for the host (R309); an acquire gives up the core's L1 (R87). -/
def execFence (e : Bool) (kind : BitVec 2) (scope : BitVec 3) (s : State) : Out :=
  issue { e := e, ops := [], prog := true } noChk
    (fun c =>
      if 2 ≤ kind.toNat then
        afterRelease c scope.toNat (fun d => .done (if kind = 3 then afterAcquire d.s c.core scope.toNat else d.s))
      else if c.quiet then .done (afterAcquire c.s c.core scope.toNat) else .stall) s

/-- R93, R185: GFENCE closes the die's epoch and holds the entity until every die has applied it. -/
def execGfence (_ : Bool) (s : State) : Out :=
  issue { e := true, ops := [], prog := true } noChk
    (fun c =>
      if c.quiet = false then .stall
      else
        let s1 := dropL1 (closeEpoch c.s c.die) c.core
        .left ((c.progressed.withState s1).parkPast (.gfence (s1.die c.die).clock))) s

/-- R93. GFENCE_RELEASE. -/
def execGfenceRelease (ent : Nat) (s : State) : Out :=
  .next (match look s.ents ent with
    | some e => (match e.park with
      | .gfence clock => if appliedEverywhere s clock then s.setEnt ent (e.resumeAt e.resume) else s
      | _ => s)
    | none => s)

/-- R186: PREF has no architectural effect. -/
def execPref (e : Bool) (a b : Reg) (s : State) : Out :=
  issue { e := e, ops := [oS2 a, oS b], acc := { ch := true } } noChk (fun c => .done c.s) s

/-- R94. EPOCH_TIMEOUT: the open epoch of a die closes 1,024 cycles after its first write. -/
def execEpochTimeout (die : Nat) (s : State) : Out :=
  .next (match (s.die die).openAt with
    | some t => if die < 8 ∧ t + Config.epochCycles ≤ s.now then closeEpoch s die else s
    | none => s)

/-- R94. EPOCH_APPLY: a die applies the oldest arrived epoch of another die once its clock allows. -/
def execEpochApply (die src : Nat) (s : State) : Out :=
  .next (
    let d := s.die die
    match d.inbox.find? (fun x => decide (x.src = src)) with
    | some x =>
      if canApply d x then
        let s1 := s.setDie die { d with inbox := d.inbox.eraseP (fun y => decide (y.src = src)) }
        applyEpoch s1 die x
      else s
    | none => s)

/-- R91, R309: every die has applied the epochs that come causally before an epoch, and no other die has host writes of them on their way. -/
def hostTurn (s : State) (die : Nat) (e : Epoch) : Bool :=
  (List.range 8).all (fun x => covers (s.die x).clock (setNth e.stamp die (e.stamp.getD die 0 - 1)) && (decide (x = die) ||
    (s.die x).hostOut.all (fun h => decide (e.stamp.getD x 0 < h.stamp.getD x 0))))

/-- R309. HOST_EPOCH_ACK: Ikilink delivers the oldest epoch of host writes of a die, and the host's memory takes them. -/
def execHostEpochAck (die : Nat) (s : State) : Out :=
  .next (
    let d := s.die die
    match d.hostOut with
    | e :: rest =>
      if hostTurn s die e then e.writes.foldl (fun s w => hostWrite s w.addr w.data) (s.setDie die { d with hostOut := rest }) else s
    | [] => s)

end Sys2Proof.Machine
end

