-- ==== Sys2Proof/Machine/Pass.lean ====
section
/-! DEFINITION. Result objects (R43 to R54, R209 to R216, R59, R285): the descriptor, the wait tables (R38, R308), the pass group of major
0x30, and the steps of a home bank. -/

namespace Sys2Proof.Machine

open Sys2Proof

/-! ### The descriptor (R44, R45) -/

/-- R45: fields of a descriptor, as (low bit, width). -/
inductive ObjField where
  | version | quality | pqual | slotBase | slotSize | pin (k : Nat) | seals | parts | cur | work | open' | km1 | rule | hostVis | poison
  | age (j : Nat) | gen | plid | ldone | asid

/-- R45: where a field stands. -/
def ObjField.at' : ObjField → Nat × Nat
  | .version => (0, 64) | .quality => (64, 32) | .pqual => (96, 32) | .slotBase => (128, 44) | .slotSize => (172, 24)
  | .pin k => (196 + 8 * k, 8) | .seals => (260, 16) | .parts => (276, 16) | .cur => (292, 3) | .work => (295, 3) | .open' => (298, 1)
  | .km1 => (299, 3) | .rule => (302, 2) | .hostVis => (304, 1) | .poison => (305, 1) | .age j => (306 + 3 * j, 3) | .gen => (330, 20)
  | .plid => (350, 32) | .ldone => (382, 1) | .asid => (383, 9)

/-- A field of a descriptor's 512 bits. -/
def objGet (x : Nat) (f : ObjField) : Nat := bits x f.at'.1 f.at'.2

/-- A descriptor with one field replaced. -/
def objSet (x : Nat) (f : ObjField) (v : Nat) : Nat := setBits x f.at'.1 f.at'.2 v

/-- R44: the descriptor line of an index of an address space. -/
def objOff (s : State) (asid index : Nat) : Option Nat := (s.asid asid).objBase.map (fun b => b + 64 * (index % 4096))

/-- The 512 bits at a descriptor's offset; the reserved ones read zero (R5). -/
def objRead (s : State) (off : Nat) : Nat := rdN s.orangery off 64 % 2 ^ 392

/-- One bank operation's new descriptor. -/
def objWrite (s : State) (off x : Nat) : State := { s with orangery := wrN s.orangery off 64 x }

/-- R44, R45: the line of an offset holds the descriptor of an object. Its fields are read only and its other bits reserved, so every write to it
but a bank's own operations on the object is ignored (R4, R5). -/
def descAt (s : State) (off : Nat) : Bool :=
  s.asids.any (fun a => match a.2.objBase with
    | some b => decide (b ≤ off / 64 * 64) && decide (off / 64 * 64 < b + 64 * 4096) && (look a.2.objs ((off / 64 * 64 - b) / 64)).getD false
    | none => false)

/-- R4, R5, R238: an offset of the Orangery whose fields are read only or reserved: of an object's descriptor, or of the journal ring
(assumption 64). -/
def fixedAt (s : State) (off : Nat) : Bool := descAt s off || (decide (0x27000000 ≤ off) && decide (off < 0x27100000))

/-- R4, R45: what is written to an Orangery line, ignored where its fields are read only or reserved. -/
def orngPut (s : State) (off : Nat) (m : Memory) : State := { s with orangery := if fixedAt s off then s.orangery else m }

/-- R209: the descriptor a handle names: its offset and bits, if the object exists and GEN matches. -/
def objNamed (s : State) (asid : Nat) (handle : Word) : Option (Nat × Nat) :=
  let index := handle.toNat % 4096
  if (look (s.asid asid).objs index).getD false then
    (objOff s asid index).bind (fun off =>
      let x := objRead s off
      if objGet x .gen = handle.toNat / 4096 then some (off, x) else none)
  else none

/-- R43, R47: address of slot i. -/
def slotAddress (x i : Nat) : Nat := objGet x .slotBase * 4096 + i * objGet x .slotSize * 4096

/-- R50. -/
def qualityIdentity (rule : Nat) : Nat := if rule = 0 then 0xFFFFFFFF else 0

/-- R50. -/
def combine (rule p q : Nat) : Nat :=
  match rule with | 0 => min p q | 1 => max p q | _ => min (p + q) 0xFFFFFFFF

/-- R210: the result group. -/
def resultGroup (x : Nat) : List Word :=
  let w := fun (n : Nat) => BitVec.ofNat 32 n
  let v := objGet x .version
  let a := slotAddress x (objGet x .cur)
  [w v, w (v / 2 ^ 32), w (objGet x .quality),
   w (objGet x .cur + objGet x .ldone * 2 ^ 8 + objGet x .open' * 2 ^ 9 + objGet x .poison * 2 ^ 10),
   w a, w (a / 2 ^ 32), w (objGet x .plid), 0]

/-- R47: the working slot an opening pass takes. -/
def freeSlot (x : Nat) : Option Nat :=
  ((List.range (objGet x .km1 + 1)).map (fun j => objGet x (.age j))).find? (fun w =>
    decide (w ≠ objGet x .cur) && decide (objGet x (.pin w) = 0))

/-- R47: PASS at the home bank: the descriptor afterwards, or none when every non-current slot is pinned. -/
def passOp (x : Nat) : Option Nat :=
  if objGet x .open' = 1 then some x
  else (freeSlot x).map (fun w =>
    objSet (objSet (objSet (objSet x .work w) .open' 1) .seals 0) .pqual (qualityIdentity (objGet x .rule)))

/-- R49: a slot moves to the newest end of AGEORD. -/
def ageNewest (x w : Nat) : Nat :=
  let n := objGet x .km1 + 1
  let order := ((List.range n).map (fun j => objGet x (.age j))).filter (fun i => decide (i ≠ w)) ++ [w]
  (List.range n).foldl (fun x j => objSet x (.age j) (order.getD j 0)) x

/-- R49, R285: publication. -/
def publish (x : Nat) : Nat :=
  let w := objGet x .work
  let x1 := ageNewest x w
  let x2 := objSet (objSet (objSet x1 .cur w) .open' 0) .seals 0
  let x3 := objSet x2 .version (objGet x .version + 1)
  objSet (objSet x3 .quality (objGet x .pqual)) .poison 0

/-- R48: SEAL at the home bank, and whether it published. -/
def sealOp (x q : Nat) : Nat × Bool :=
  let x1 := objSet x .pqual (combine (objGet x .rule) (objGet x .pqual) q)
  let x2 := objSet x1 .seals (objGet x .seals + 1)
  if (objGet x .seals + 1) % 65536 = objGet x .parts then (publish x2, true) else (x2, false)

/-- R59: an open pass is discarded. -/
def discardPass (x : Nat) : Nat :=
  if objGet x .open' = 1 then objSet (objSet (objSet x .open' 0) .seals 0) .pqual (qualityIdentity (objGet x .rule)) else x

/-- R53: VPIN at the home bank. -/
def pinOp (x : Nat) : Option Nat :=
  let c := objGet x .cur
  if objGet x (.pin c) = 255 then none else some (objSet x (.pin c) (objGet x (.pin c) + 1))

/-- R53, R214: VREL at the home bank. -/
def relOp (x slot : Nat) : Option Nat :=
  if objGet x .km1 + 1 ≤ slot ∨ objGet x (.pin slot) = 0 then none else some (objSet x (.pin slot) (objGet x (.pin slot) - 1))

/-! ### Wait tables (R38, R308) -/

/-- Keys in use in a die's wait table. -/
def keysUsed (s : State) (die : Nat) : Nat :=
  s.ents.foldl (fun n e => if dieOfCore (coreOfKey e.1) = die then (match e.2.park with | .wait _ ks => n + ks.length | _ => n) else n) 0

/-- R38, R308, R264: an entity waits under keys, or polls every 256 cycles when its die's table has too few free. -/
def waitPark (s : State) (k : Nat) (join : Option Nat) (keys : List WaitKey) : Park :=
  if keysUsed s (dieOfCore (coreOfKey k)) + keys.length ≤ Config.waitKeys then .wait join keys else .poll join (s.now + 256)

/-- R308: an instruction whose condition is not met parks at its chain, which it executes again from its start at each wake. -/
def Ctx.waitOn (c : Ctx) (keys : List WaitKey) : State := c.park (waitPark c.s c.k none keys)

/-- R308: wake on an Orangery line. -/
def wakeLine (s : State) (off : Nat) : State := wake s (.orangery (off / 64))

/-! ### Order at a bank (R79, R278) -/

/-- R78: the bank of an offset. -/
def bankId (o : Nat) : Nat := orngDie o * 256 + o / 64 % 256

/-- The offset a pass-group message goes to. -/
def PassMsg.off (s : State) (m : PassMsg) : Nat := (objOff s m.asid m.handle.toNat).getD 0

/-- R79, R278: the entity's earlier writes have left the strike buffer, and nothing that the operation must stay behind is still on its way to
its bank. -/
def turnAtBank (s : State) (core ent wave : Nat) (lanes : Lanes) (serial off : Nat) : Bool :=
  let first := comesFirst s ent wave lanes serial
  sent s core ent serial &&
  !((s.core core).data.held.any (fun h => first h.ent h.wave h.lanes h.serial &&
    (match h.dst with | .orangery o => decide (bankId o = bankId off) | _ => false))) &&
  !(s.bankQ.any (fun o => first o.ent o.wave o.lanes o.serial && decide (bankId o.off = bankId off))) &&
  !(s.passQ.any (fun m => first m.ent m.wave 0 m.serial && decide (bankId (m.off s) = bankId off)))

/-- The same for an operation that a word is about to perform at a bank. -/
def Ctx.turn (c : Ctx) (off : Nat) : Bool := turnAtBank c.s c.core c.k c.e.wave 0 c.s.fresh off

/-- R94, R97: what an acquire at a bank asks of the entity's die: all that the bank's die has applied. -/
def bankClock (s : State) (off : Nat) : List Nat := (s.die (orngDie off)).clock

/-- R94: an entity's die has applied what an acquire at a bank brings. -/
def Ctx.caughtUp (c : Ctx) (off : Nat) : Bool := covers (c.s.die c.die).clock (bankClock c.s off)

/-! ### The pass group (R211 to R216) -/

/-- R209: the handle of a bound object. -/
def boundHandle (c : Ctx) (a : Reg) : Option (Nat × Word) :=
  let i := (c.e.rS a.toNat).toNat
  (launchOf c.s c.v.owner).bind (fun v => (v.record.objs[i]?).map (fun o => (i, BitVec.ofNat 32 o.1)))

/-- A pass-group message leaves for the home bank. -/
def sendPass (c : Ctx) (s : State) (handle : Word) (kind : PassKind) (dep : List Nat) : State :=
  let m : PassMsg :=
    { ent := c.k, wave := c.e.wave, core := c.core, serial := s.fresh, block := c.v.block, asid := c.v.asid, handle := handle, kind := kind,
      dep := dep }
  State.bump { s with passQ := s.passQ ++ [m] }

/-- R211: an entity that waits, within its run, for a home bank's answer. -/
def Ctx.hold (c : Ctx) (s : State) : State := s.modEnt c.k (fun e => { e with park := .bank })

/-- R211, R212, R47. -/
def execPass (_ : Bool) (d a : Reg) (s : State) : Out :=
  issue { e := true, ops := [oS2 d, oS a], prog := true, dst := 1 }
    (fun c => if (boundHandle c a).isSome then [] else [bare 0x50])
    (fun c => match boundHandle c a with
      | none => .stall
      | some (i, h) =>
        if c.acquiring then .stall
        else
          let s1 := committed c (c.progressed.parkPast .bank) false false
          .left (sendPass c s1 h (.pass i d.toNat) (depOf s1 c.core c.k))) s

/-- The seal record of a bound object (R212). -/
def Block.sealOf (b : Block) (i : Nat) : SealRec := (look b.seals i).getD { isSealed := false, pass := 0, received := false }

/-- R48: scope of a SEAL, or of a reader's acquire: SYS when the object is host-visible. -/
def objScope (s : State) (asid : Nat) (handle : Word) : Nat :=
  match objNamed s asid handle with | some (_, x) => if objGet x .hostVis = 1 then 5 else 4 | none => 4

/-- R48, R213: SEAL is a release; its message waits until what it releases is applied. -/
def execSeal (e : Bool) (a b : Reg) (s : State) : Out :=
  issue { e := e, ops := [oS a, oS b], prog := true }
    (fun c => match boundHandle c a with
      | none => [bare 0x50]
      | some (i, _) => if ((c.block.map (fun x => (x.sealOf i).received)).getD false) then [] else [bare 0x50])
    (fun c => match boundHandle c a with
      | none => .stall
      | some (i, h) =>
        if c.acquiring then .stall
        else afterRelease c (objScope c.s c.v.asid h) (fun c =>
          let s1 := committed c c.s true false
          let s2 := s1.modBlock c.v.block (fun x => { x with seals := put x.seals i { x.sealOf i with isSealed := true, received := false } })
          .done (sendPass c s2 h (.seal (c.e.rS b.toNat)) (depOf s2 c.core c.k)))) s

/-- R210: the result group starts at a multiple of 8 from 8 to 48. -/
def groupTraps (d : Reg) : List Trap := if 8 ≤ d.toNat ∧ d.toNat ≤ 48 ∧ d.toNat % 8 = 0 then [] else [bare 0x02]

/-- A reader's operation at a home bank (R214). -/
def readerWord (e : Bool) (ops : List Operand) (chk : Ctx → List Trap) (a : Reg) (commit : Bool) (kind : Ctx → PassKind) : State → Out :=
  issue { e := e, ops := ops, dst := 1 } chk
    (fun c =>
      if c.acquiring then .stall
      else
        let s1 := if commit then committed c c.s true true else c.s
        .left (sendPass c (c.hold s1) (c.e.rS a.toNat) (kind c) (depOf s1 c.core c.k)))

/-- R52, R214. -/
def execVget (e : Bool) (d a : Reg) (s : State) : Out :=
  readerWord e [oGroup d 8, oS a] (fun _ => groupTraps d) a false (fun _ => .vget d.toNat) s

/-- R53, R214. -/
def execVpin (e : Bool) (d a : Reg) (s : State) : Out :=
  readerWord e [oGroup d 8, oS a] (fun _ => groupTraps d) a true (fun _ => .vpin d.toNat) s

/-- R53, R214: VREL waits for the entity's earlier loads. -/
def execVrel (e : Bool) (a b : Reg) (s : State) : Out :=
  issue { e := e, ops := [oS a, oS b] } noChk
    (fun c =>
      if c.s.replies.any (fun r => decide (r.ent = c.k) && decide (r.wave = c.e.wave)) then .stall
      else
        let s1 := committed c c.s true true
        .left (sendPass c (c.hold s1) (c.e.rS a.toNat) (.vrel ((c.e.rS b.toNat).toNat % 8)) (depOf s1 c.core c.k))) s

/-- R54, R215: QWAIT, whose condition is tested in the descriptor's bank. -/
def qwaitWord (ops : List Operand) (d a : Reg) (test : Ctx → Nat → Bool) : State → Out :=
  issue { e := true, ops := [oGroup d 8, oS a] ++ ops, dst := 1 }
    (fun c => groupTraps d ++ (if (objNamed c.s c.v.asid (c.e.rS a.toNat)).isSome then [] else [bare 0x50]))
    (fun c => match objNamed c.s c.v.asid (c.e.rS a.toNat) with
      | none => .stall
      | some (off, x) =>
        if c.acquiring || !(c.turn off) then .stall
        else if test c x || decide (objGet x .ldone = 1) then
          if c.caughtUp off = false then .stall
          else if let some g := orngPoison c.s off 64 then .left (consume c.s c.e.wave c.core 5 g)
          else .done ((dropL1 c.s c.core).setEnt c.k (c.e.wMany d.toNat (resultGroup x)))
        else .left (c.waitOn [.orangery (off / 64)]))

/-- R54, R215. -/
def execQwaitQual (_ : Bool) (d a b : Reg) (s : State) : Out :=
  qwaitWord [oS b] d a (fun c x => decide ((c.e.rS b.toNat).toNat ≤ objGet x .quality)) s

/-- R54, R215. -/
def execQwaitVer (_ : Bool) (d a b : Reg) (s : State) : Out :=
  qwaitWord [oS2 b] d a (fun c x => decide ((c.e.rPair b.toNat).toNat < objGet x .version)) s

/-- R54, R215. -/
def execQwaitDone (_ : Bool) (d a : Reg) (s : State) : Out := qwaitWord [] d a (fun _ _ => false) s

/-- R51, R216. -/
def execQcvt (e : Bool) (d a : Reg) (s : State) : Out :=
  scalarWord e [oS d, oS a] {} (fun c => c.e.wS d.toNat (BitVec.ofNat 32 (qcvt (c.e.rS a.toNat).toNat))) s

/-- R57, R216. -/
def execBudget (e : Bool) (d : Reg) (s : State) : Out :=
  scalarWord e [oS2 d] {} (fun c => (c.e.wS d.toNat (timeLeft c.s c.v.owner)).wS (d.toNat + 1) (energyLeft c.s c.v.owner)) s

/-! ### Steps of a home bank (R47 to R53, R211 to R214) -/

/-- Remove the k-th element. -/
def dropNth {α : Type} : List α → Nat → List α
  | [], _ => []
  | _ :: r, 0 => r
  | a :: r, n + 1 => a :: dropNth r n

/-- An answer leaves the bank. -/
def answer (s : State) (m : PassMsg) (off : Nat) (kind : AnswerKind) : State :=
  { s with answers := s.answers ++ [{ ent := m.ent, wave := m.wave, block := m.block, line := off, kind := kind, needs := bankClock s off }] }

/-- R94: a write of the Orangery by an agent of a die belongs to the die's open epoch; it is at its bank, and no die has it to apply. -/
def bankWrite (s : State) (d ent w serial off : Nat) : State :=
  joinEpoch s d { ent := ent, wave := w, serial := serial, addr := 2 ^ 60 + off, data := [], stamp := s.fresh }

/-- R94: what a message writes of a descriptor; VGET only reads. -/
def bankMark (s : State) (m : PassMsg) (off : Nat) : State :=
  match m.kind with | .vget _ => s | _ => bankWrite s (dieOfCore m.core) m.ent m.wave m.serial off

/-- A message whose turn has come and whose releases the bank's die has applied is taken from its way and performed. -/
def atBank (s : State) (k : Nat) (f : State → PassMsg → Nat → Option State) : Out :=
  .next (match s.passQ[k]? with
    | none => s
    | some m =>
      let off := m.off s
      if turnAtBank s m.core m.ent m.wave 0 m.serial off && covers (bankClock s off) m.dep then
        (f (bankMark (markSent { s with passQ := dropNth s.passQ k } m.core) m off) m off).getD s
      else s)

/-- R212: the block has sealed a pass that is not published yet. -/
def sealPending (s : State) (m : PassMsg) (obj x : Nat) : Bool :=
  match look s.blocks m.block with
  | some b => let r := b.sealOf obj
    r.isSealed && decide (objGet x .ldone = 0) && decide (2 ^ 31 ≤ (objGet x .version + 2 ^ 32 - r.pass.toNat) % 2 ^ 32)
  | none => false

/-- R47, R212, R275: PASS at the bank, or the word that it must wait; a poisoned descriptor is consumed. -/
def passAt (s : State) (m : PassMsg) (off obj reg : Nat) : State :=
  match objNamed s m.asid m.handle with
  | none => answer s m off .refusedObject
  | some (_, x) =>
    if let some g := orngPoison s off 64 then consume s m.wave m.core 5 g
    else if sealPending s m obj x then answer s m off (.noSlot obj)
    else match passOp x with
      | none => answer s m off (.noSlot obj)
      | some y =>
        answer (objWrite s off y) m off
          (.slot obj reg (BitVec.ofNat 64 (slotAddress y (objGet y .work))) (BitVec.ofNat 32 (objGet y .version + 1)))

/-- R47. BANK_PASS. -/
def execBankPass (k : Nat) (s : State) : Out :=
  atBank s k (fun s m off => match m.kind with | .pass obj reg => some (passAt s m off obj reg) | _ => none)

/-- R48, R213, R49, R275: a SEAL at its bank, which folds its quality into the descriptor; with no pass open it is discarded. -/
def sealAt (s : State) (m : PassMsg) (off : Nat) (q : Word) : State :=
  match objNamed s m.asid m.handle with
  | none => s
  | some (_, x) =>
    if objGet x .open' = 0 then s
    else if let some g := orngPoison s off 64 then consume s m.wave m.core 5 g
    else
      let r := sealOp x q.toNat
      if r.2 then wakeLine (objWrite s off r.1) off else objWrite s off r.1

/-- R48: what a message releases is applied by every die. -/
def appliedByDies (s : State) (clock : List Nat) : Bool := (List.range 8).all (fun d => covers (s.die d).clock clock)

/-- R48. BANK_SEAL. -/
def execBankSeal (k : Nat) (s : State) : Out :=
  atBank s k (fun s m off => match m.kind with
    | .seal q => if appliedByDies s m.dep then some (sealAt s m off q) else none
    | _ => none)

/-- R52, R275: what VGET answers; a poisoned descriptor is consumed. -/
def vgetAt (s : State) (m : PassMsg) (off reg : Nat) : State :=
  match objNamed s m.asid m.handle, orngPoison s off 64 with
  | none, _ => answer s m off .refusedObject
  | some _, some g => consume s m.wave m.core 5 g
  | some (_, x), none => answer s m off (.group reg (resultGroup x))

/-- R52. BANK_VGET. -/
def execBankVget (k : Nat) (s : State) : Out :=
  atBank s k (fun s m off => match m.kind with | .vget reg => some (vgetAt s m off reg) | _ => none)

/-- R53, R275: VPIN: the pin and the read are one operation; a poisoned descriptor is consumed. -/
def vpinAt (s : State) (m : PassMsg) (off reg : Nat) : State :=
  match objNamed s m.asid m.handle, orngPoison s off 64 with
  | none, _ => answer s m off .refusedObject
  | some _, some g => consume s m.wave m.core 5 g
  | some (_, x), none => match pinOp x with
    | none => answer s m off .refusedObject
    | some y => answer (objWrite s off y) m off (.group reg (resultGroup y))

/-- R53. BANK_VPIN. -/
def execBankVpin (k : Nat) (s : State) : Out :=
  atBank s k (fun s m off => match m.kind with | .vpin reg => some (vpinAt s m off reg) | _ => none)

/-- R53, R214, R47, R275: VREL; a pin that reaches 0 wakes a PASS that waits for it. -/
def vrelAt (s : State) (m : PassMsg) (off slot : Nat) : State :=
  match objNamed s m.asid m.handle with
  | none => answer s m off .refusedObject
  | some (_, x) => match orngPoison s off 64, relOp x slot with
    | some g, _ => consume s m.wave m.core 5 g
    | none, none => answer s m off .refusedObject
    | none, some y =>
      let s1 := answer (objWrite s off y) m off .done
      if objGet y (.pin slot) = 0 then wakeLine s1 off else s1

/-- R214. BANK_VREL. -/
def execBankVrel (k : Nat) (s : State) : Out :=
  atBank s k (fun s m off => match m.kind with | .vrel slot => some (vrelAt s m off slot) | _ => none)

/-! ### Answers (R211, R212, R217) -/

/-- R211: the entity has its answer within its run and goes on after its word. -/
def Entity.answered (e : Entity) : Entity := { e with park := .running }.retire ((e.buf.headD 0).msb)

/-- R212, R213: what PASS leaves of a seal record. An answer that comes after the block has sealed its pass does not undo the seal. -/
def SealRec.slot (r : SealRec) (pass : Word) : SealRec :=
  if r.isSealed = true ∧ r.pass = pass then r else { isSealed := false, pass := pass, received := true }

/-- R212, R213: PASS completes: the slot, PASS_IDX and the block's seal record. -/
def slotAnswer (s : State) (a : Answer) (e : Entity) (obj reg : Nat) (addr : Dword) (pass : Word) : State :=
  let s1 := (s.setEnt a.ent ((e.wPair reg addr).resumeAt e.resume)).clean
    (fun p => decide (p = .scalar a.wave a.ent reg) || decide (p = .scalar a.wave a.ent (reg + 1)))
  let s2 := s1.modWave a.wave (fun v => { v with passIdx := pass })
  s2.modBlock a.block (fun b => { b with seals := put b.seals obj ((b.sealOf obj).slot pass) })

/-- R308: a PASS that must wait tests once more when its key is registered. -/
def passWait (s : State) (a : Answer) (e : Entity) (obj : Nat) : State :=
  let x := objRead s a.line
  let open' := decide (objGet x .open' = 1) || (freeSlot x).isSome || decide (objGet x .ldone = 1)
  let pend := match look s.blocks a.block with
    | some b => let r := b.sealOf obj
      r.isSealed && decide (objGet x .ldone = 0) && decide (2 ^ 31 ≤ (objGet x .version + 2 ^ 32 - r.pass.toNat) % 2 ^ 32)
    | none => false
  s.setEnt a.ent { e with park := if open' && !pend then .running else waitPark s a.ent none [.orangery (a.line / 64)] }

/-- R30, R31, R217: children of a SPAWN on their way from the bank to the Bobbin, in ascending lane order; the first one the spill ring
refuses raises SPAWN_OVERFLOW. -/
def deliverAll (put' : State → Child → Option State) (s : State) : List (Nat × Child) → State × Option Nat
  | [] => (s, none)
  | (lane, c) :: r => match put' s c with
    | some t => deliverAll put' t r
    | none => (s, some lane)

end Sys2Proof.Machine
end

