-- ==== Sys2Proof/Machine/Bobbin.lean ====
section
/-! DEFINITION. The Bobbin's bins and spill rings (R30, R31, R39), a core's free resources and child reserves (R33, R241), and the start of
a wave (R14, R32, R39, R40). -/

namespace Sys2Proof.Machine

open Sys2Proof

/-! ### Bins (R30, R31) -/

/-- Entries of a bin. -/
def Bin.size (b : Bin) : Nat := b.children.length + b.packets.length

/-- R30: the bin is the one of this child's entry point; entries of one wave have one owner (assumption 20). -/
def Bin.takes (b : Bin) (c : Child) : Bool :=
  decide (b.handler = none) && decide (b.asid = c.asid) && decide (b.entry = c.entry) &&
  (match b.children with | x :: _ => decide (x.owner = c.owner) | [] => true)

/-- R39: the bin is the one of this packet's handler index. -/
def Bin.takesPacket (b : Bin) (p : Packet) : Bool := decide (b.handler = some p.handler) && decide (b.asid = p.asid)

/-- R30: an entry goes into its bin, or into a free one; none when its bin is full, or all 32 bins are occupied. Bins with keys from 32 up
hold entries that run again (R284). -/
def binPlace (now : Nat) (bins : NMap Bin) (fits : Bin → Bool) (new : Bin) (add : Bin → Bin) : Option (NMap Bin) :=
  match bins.find? (fun b => decide (b.1 < 32) && fits b.2) with
  | some (k, b) => if b.size < 96 then some (put bins k { add b with lastAt := now, idle := false }) else none
  | none => ((List.range 32).find? (fun k => (look bins k).isNone)).map (fun k => put bins k { add new with firstAt := now, lastAt := now })

/-- R31: a child's place in its pavilion's bins. -/
def binChild (s : State) (c : Child) : Option State :=
  let p := s.pav c.pav
  let new : Bin :=
    { asid := c.asid, entry := c.entry, handler := none, children := [], packets := [], firstAt := 0, lastAt := 0, idle := false, due := false, relaunch := 0 }
  (binPlace s.now p.bins (fun b => b.takes c) new (fun b => { b with children := b.children ++ [c] })).map (fun m => s.setPav c.pav { p with bins := m })

/-- R39: a packet's place in the bins of the pavilion its queue is assigned. -/
def binPacket (s : State) (pav : Nat) (h : Handler) (p : Packet) : Option State :=
  let q := s.pav pav
  let new : Bin :=
    { asid := p.asid, entry := BitVec.ofNat 64 h.entry, handler := some p.handler, children := [], packets := [], firstAt := 0, lastAt := 0,
      idle := false, due := false, relaunch := 0 }
  (binPlace s.now q.bins (fun b => b.takesPacket p) new (fun b => { b with packets := b.packets ++ [p] })).map (fun m => s.setPav pav { q with bins := m })

/-! ### Room for a child (R33) -/

/-- R33, R281: how a child of an owner can be placed on a core: in ordinary resources (`some false`), in its reserve (`some true`), or not. -/
def childRoom (s : State) (core asid vlimit : Nat) (rx : Option Nat) (own : Owner) : Option Bool :=
  let f := ordinaryFree s core
  let r := match rx with | some q => rxReserveLeft s core q | none => reserveLeft s core own
  let hasBlock : Bool := match rx, own with | none, .launch l => (launchesOn s core).contains l | _, _ => true
  let c := s.core core
  if (fetchSlot (usedKeys s) core 0).isNone ∨ asidFree s core asid = false ∨ s.mgmt.fences.contains core ∨ c.marked.isSome ∨ c.testing then none
  else if 1 ≤ f.1 ∧ (vlimit : Int) ≤ f.2 then some false
  else if hasBlock = true ∧ 1 ≤ r.1 ∧ vlimit ≤ r.2 ∧ regsUsed s core + vlimit ≤ coreRegs then some true
  else none

/-! ### The start of a wave (R14, R32, R39, R40, R192) -/

/-- An entity as its wave starts. -/
def Entity.start (wave : Nat) (pc : Dword) (mask own : Lanes) (sregs : NMap Word) : Entity :=
  { wave := wave, pc := pc, resume := 0, boundary := true, buf := [], words := 0, chain := Chain.empty, park := .running, mask := mask,
    own := own, sregs := sregs, fpctl := 0, trapCause := 0, trapPc := 0, trapAddr := 0, fmask := 0, hsave := [], level := false,
    pairs := [], replay := false, pending := [], stalled := none, runs := 0, fold := 0, lastFold := 0, progress := false, seen := [], released := 0,
    await := [], parking := false, retest := false }

/-- A wave as it starts (R14, R153). -/
def Wave.start (kind : WaveKind) (block wib asid : Nat) (owner : Owner) (vlimit : Nat) (passIdx : Word) (handler entry : Dword) : Wave :=
  { kind := kind, block := block, wib := wib, asid := asid, owner := owner, vlimit := vlimit, vregs := [], preds := [], fpstat := 0,
    passIdx := passIdx, gen := none, handler := handler, entry := entry, joins := [], acks := [], origin := none, reserved := false, gbars := 0
    ended := false }

/-- R192: a core on which nothing is resident starts with tiles and ASNs of zero, whatever a strike brings back. -/
def clearTiles (s : State) (core : Nat) : State :=
  if coreEmpty s core then
    let mine := fun (p : Poison) => match p with | .tile c _ => decide (c = core) | _ => false
    let s1 := (s.setData core { (s.core core).data with tiles := [], asn := [] }).clean mine
    { s1 with hist := s1.hist.map (fun h =>
      if h.core = core then { h with data := { h.data with tiles := [], asn := [] }, poison := h.poison.filter (fun p => !(mine p)) } else h) }
  else s

/-- R14: the argument address in s1 and s59. -/
def argRegs (args : Dword) : NMap Word := put (put [] 1 (args.setWidth 32)) 59 ((args >>> 32).setWidth 32)

/-- R289: a pavilion that receives a gang is not idle. -/
def usePav (s : State) (pav : Nat) : State := s.setPav pav { s.pav pav with idleAt := 0 }

/-- R28, R32, R229: a block of one wave, with its gang and its entity, on a core. Its start is an acquire: no older value stands in the L1 (R87). -/
def startSingle (s : State) (core key : Nat) (v : Wave) (e : Entity) (frames ntags : Nat) (relaunch : Nat) : State :=
  let s0 := usePav (dropL1 (clearTiles s core) core) (pavOfCore core)
  let id := s0.fresh + 1
  let b : Block :=
    { core := core, gang := id, lin := 0xFFFFFFFF, x := 0xFFFFFFFF, y := 0xFFFFFFFF, z := 0xFFFFFFFF, rank := 0, frame := 0, frames := frames,
      ntags := ntags, tags := BitVec.allOnes 64, nwaves := 1, done := 0, seals := [] }
  let g : Gang :=
    { owner := v.owner, id := 0xFFFFFFFF, pav := pavOfCore core, valid := true, cores := [core % 16], blocks := [id], ie := false, iex := false,
      relaunch := relaunch, gbars := 0, releases := 0, position := 0, stopped := false, retired := false, placed := id }
  (((({ s0 with fresh := id }).setBlock id b).setGang id g).setWave id { v with block := id }).setEnt key { e with wave := id }

/-- R30, R32, R39: the wave of a bin. A child of a launch may name the tags its launch declares, a child of a handler wave all 64 (assumption 35).
A handler wave belongs to the receive queue of its first packet (assumption 78). -/
def binWave (s : State) (b : Bin) (core key : Nat) (reserved : Bool) : State :=
  let n := b.size
  let mask := lanesOf (fun i => decide (i < n))
  match b.children with
  | c :: _ =>
    let record := (launchOf s c.owner).map (fun l => l.record)
    let args := (record.map (fun r => r.args)).getD 0
    let resume := (record.map (fun r => r.resume)).getD 0
    let tags := (record.map (fun r => r.tags)).getD 64
    let v := Wave.start .child 0 0 b.asid c.owner c.vlimit resume c.handler b.entry
    let cols := fun j => laneList.map (fun i => ((b.children[i]?).map (fun x => x.payload.getD j 0)).getD 0)
    let vregs := (List.range 4).foldl (fun m j => put m j (cols j)) []
    let regs := match c.owner with | .launch _ => argRegs args | .tree _ => []
    let joins := (b.children.zipIdx).map (fun (p : Child × Nat) => (p.2, p.1.join))
    let v1 : Wave := { v with vregs := vregs, joins := joins, origin := some b, reserved := reserved }
    let s1 := match c.owner with | .tree t => s.modTree t (fun x => { x with live := x.live + 1 }) | .launch _ => s
    startSingle s1 core key v1 (Entity.start 0 b.entry mask (BitVec.allOnes 96) regs) 0 tags b.relaunch
  | [] =>
    let h := (look (s.asid b.asid).handlers (b.handler.getD 0)).getD { vregs := 8, entry := 0, handler := 0 }
    let prio := ((b.packets.head?).map (fun p => p.prio)).getD 0
    let tree := s.fresh + 1
    let t : Tree :=
      { rxq := prio, asid := b.asid, outstanding := 0, live := 1, vlimit := h.vregs, handler := BitVec.ofNat 64 h.handler, ackClock := [] }
    let v := Wave.start .handler 0 0 b.asid (.tree tree) h.vregs 0 (BitVec.ofNat 64 h.handler) (BitVec.ofNat 64 h.entry)
    let cols := fun j => laneList.map (fun i => ((b.packets[i]?).map (fun x => x.args.getD j 0)).getD 0)
    let vregs := (List.range 8).foldl (fun m j => put m j (cols j)) []
    let ack := fun (p : Packet × Nat) =>
      ({ lane := p.2, peer := p.1.peer, prio := p.1.prio, ent := p.1.ent, wave := p.1.wave,
         owner := if p.1.peer = none then some (ownerOf s p.1.wave) else none, target := p.1.target } : AckTo)
    let v1 : Wave := { v with vregs := vregs, acks := (b.packets.zipIdx).map ack, origin := some b, reserved := reserved }
    startSingle (({ s with fresh := tree }).setTree tree t) core key v1
      (Entity.start 0 (BitVec.ofNat 64 h.entry) mask (BitVec.allOnes 96) []) 0 64 b.relaunch

/-! ### The launch of a bin (R30, R33) -/

/-- R36: a generator switch of the wave holds the entity. -/
def heldByGen (s : State) (k : Nat) (e : Entity) : Bool :=
  match (look s.waves e.wave).bind (fun v => v.gen) with | some g => g.consumer && g.held.contains k | none => false

/-- R20: the entity is ready: not parked, its next run in its buffer, not held by a generator switch. -/
def Entity.ready (e : Entity) (s : State) (k : Nat) : Bool := decide (e.park = .running) && !e.buf.isEmpty && !(heldByGen s k e)

/-- R20: an issue slot with a ready entity. -/
def readyIn (s : State) (core slot : Nat) : Bool :=
  s.ents.any (fun e => decide (coreOfKey e.1 = core) && decide (slotOfKey e.1 = slot) && e.2.ready s e.1)

/-- R30: the four conditions; BIN_IDLE_EXPIRY marks a bin idle for the second. -/
def binQualifies (s : State) (pav : Nat) (b : Bin) : Bool :=
  b.idle || b.due || decide (96 ≤ b.size) ||
  ((List.range 16).any (fun c => (List.range 4).any (fun i => !(readyIn s (16 * pav + c) i))) &&
   (s.pav pav).bins.all (fun x => decide (x.2.size < 96)))

/-- R33: who a bin's wave belongs to, its registers and its receive queue. -/
def binOwner (s : State) (b : Bin) : Owner × Nat × Option Nat :=
  match b.children with
  | c :: _ => (c.owner, c.vlimit, match c.owner with | .tree t => some (((look s.trees t).map (fun v => v.rxq)).getD 0) | .launch _ => none)
  | [] =>
    let h := (look (s.asid b.asid).handlers (b.handler.getD 0)).getD { vregs := 8, entry := 0, handler := 0 }
    (.tree 0, h.vregs, some (((b.packets.head?).map (fun p => p.prio)).getD 0))

/-- R30, R33: the lowest core of the pavilion that can take a bin's wave, and whether it uses the reserve there. Ordinary resources of any
core come before a reserve. -/
def binPlaceOn (s : State) (pav : Nat) (b : Bin) : Option (Nat × Bool) :=
  let o := binOwner s b
  let rooms := (List.range 16).filterMap (fun c => (childRoom s (16 * pav + c) b.asid o.2.1 o.2.2 o.1).map (fun r => (16 * pav + c, r)))
  match rooms.find? (fun r => !r.2) with | some r => some r | none => rooms.head?

/-- R39: the starvation count after a handler wave of this priority has launched. -/
def countStarve (s : State) (prio : Nat) : State :=
  let lower := (List.range prio).any (fun q => match look s.rxqs q with | some x => !x.waiting.isEmpty | none => false)
  { s with dispatch := { s.dispatch with starve := if lower then s.dispatch.starve + 1 else 0, starvePrio := prio } }

/-- R91: stores that a packet's RINV released are applied by the die on which its handler starts. -/
def packetsReady (s : State) (pav : Nat) (b : Bin) : Bool := b.packets.all (fun p => covers (s.die (pav / 4)).clock p.dep)

/-- R30: the core and reserve for a bin's wave when it launches now: it qualifies and can be placed, and no bin with an older entry that also
qualifies can be placed. A younger bin passes an older one that finds no room (assumption 77). Nothing launches in a pavilion that is being
halted or measured (R244, R289), or after a thermal trip (R307). -/
def launchPlace (s : State) (pav : Nat) (b : Bin) : Option (Nat × Bool) :=
  let able := fun (x : Bin) => binQualifies s pav x && (binPlaceOn s pav x).isSome
  let p := s.pav pav
  if !(binQualifies s pav b) || !(packetsReady s pav b) || p.measuring || p.halting || s.ctl.tripped ||
      p.bins.any (fun x => decide (x.2.firstAt < b.firstAt) && able x.2) then none
  else binPlaceOn s pav b

/-- R30: a bin launches its wave, if it can now. -/
def launchBin (s : State) (pav bin : Nat) : Option State :=
  (look (s.pav pav).bins bin).bind (fun b => (launchPlace s pav b).bind (fun r => (fetchSlot (usedKeys s) r.1 0).map (fun key =>
    let p := s.pav pav
    let s1 := s.setPav pav { p with bins := erase p.bins bin }
    let s2 := match b.packets with | q :: _ => countStarve s1 q.prio | [] => s1
    binWave s2 b r.1 key r.2)))

/-- R30. BIN_LAUNCH: of several bins that qualify and can be placed, the one with the oldest entry launches. -/
def execBinLaunch (pav bin : Nat) (s : State) : Out := .next ((launchBin s pav bin).getD s)

/-- R30. BIN_IDLE_EXPIRY: no entry for 2,048 cycles. -/
def execBinIdleExpiry (pav bin : Nat) (s : State) : Out :=
  .next (match look (s.pav pav).bins bin with
    | none => s
    | some b =>
      if b.lastAt + 2048 ≤ s.now then
        let p := s.pav pav
        s.setPav pav { p with bins := put p.bins bin { b with idle := true } }
      else s)

/-! ### Spill rings (R31, R39) -/

/-- The receive queue of a handler wave's tree, with its number. -/
def queueOf (s : State) (t : Nat) : Option (Nat × Rxq) := (look s.trees t).bind (fun v => (look s.rxqs v.rxq).map (fun q => (v.rxq, q)))

/-- R31, R39: an owner's spill ring and its size in records: its launch's, or that of its receive queue. -/
def spillRing (s : State) (o : Owner) : List Child × Nat :=
  match o with
  | .launch l => ((look s.launches l).map (fun v => (v.spillRing, v.record.ring))).getD ([], 0)
  | .tree t => ((queueOf s t).map (fun q => (q.2.spillRing, q.2.ring))).getD ([], 0)

/-- R31: an owner's spill ring replaced. -/
def setSpillRing (s : State) (o : Owner) (r : List Child) : State :=
  match o with
  | .launch l => s.modLaunch l (fun v => { v with spillRing := r })
  | .tree t => match queueOf s t with | some (n, q) => { s with rxqs := put s.rxqs n { q with spillRing := r } } | none => s

/-- R33, R302: the physical address of a byte of an owner's spill area: a virtual address of its address space for a launch (R236), an address of
HBM for a receive queue (assumption 80). -/
def spillAt (s : State) (die : Nat) (o : Owner) (off : Nat) : Option Nat :=
  match o with
  | .launch l => (look s.launches l).bind (fun v =>
      let va := v.record.spill.toNat + off
      match walk s die v.asid (s.asid v.asid).fn va levels (s.asid v.asid).root with
      | .page t => some (t.pa + (va - t.va))
      | _ => none)
  | .tree t => (queueOf s t).map (fun q => q.2.spill + off)

/-- The number under which the Bobbins of a die write its spill areas. -/
def spillEnt : Nat := 2 ^ 21

/-- The device writes bytes of a spill area through a die; where no page is mapped it writes nothing (assumption 80). -/
def spillWrite (s : State) (die : Nat) (o : Owner) (off : Nat) (data : List Byte) : State :=
  match spillAt s die o off with | some pa => agentWrite s die spillEnt 0 s.fresh pa data | none => s

/-- R31: a record of the ring: entry address, join object offset, four reserved bytes, payload. -/
def Child.record (c : Child) : List Byte :=
  leBytes 8 c.entry.toNat ++ leBytes 4 c.join ++ leBytes 4 0 ++ c.payload.flatMap (fun w => leBytes 4 w.toNat)

/-- R31: records written to the ring of an owner so far, and one more counted. -/
def ringCount (s : State) (o : Owner) : Nat :=
  match o with
  | .launch l => ((look s.launches l).map (fun v => v.ringAt)).getD 0
  | .tree t => ((queueOf s t).map (fun q => q.2.ringAt)).getD 0
def countRing (s : State) (o : Owner) : State :=
  match o with
  | .launch l => s.modLaunch l (fun v => { v with ringAt := v.ringAt + 1 })
  | .tree t => match queueOf s t with | some (n, q) => { s with rxqs := put s.rxqs n { q with ringAt := q.ringAt + 1 } } | none => s

/-- R31: a child goes to the end of its ring, as a record in memory too; none when the ring is full. -/
def toRing (s : State) (c : Child) : Option State :=
  let r := spillRing s c.owner
  if r.1.length < r.2 then
    let s1 := spillWrite s (c.pav / 4) c.owner (ringCount s c.owner % r.2 * 32) c.record
    some (countRing (setSpillRing s1 c.owner (r.1 ++ [c])) c.owner)
  else none

/-- The full bin that a child waits for, if its wave can start. -/
def startFull (s : State) (c : Child) : Option State :=
  (((s.pav c.pav).bins.find? (fun b => decide (b.1 < 32) && b.2.takes c && decide (96 ≤ b.2.size))).bind (fun b => launchBin s c.pav b.1))

/-- R31, R217: a child goes into its bin, also when that is full and its wave can start at once; else into its spill ring, as it does behind others
there; none when the ring is full. -/
def deliverChild (s : State) (c : Child) : Option State :=
  if (spillRing s c.owner).1.isEmpty = false then toRing s c
  else match binChild s c with
    | some t => some t
    | none => match (startFull s c).bind (fun t => binChild t c) with
      | some t => some t
      | none => toRing s c

/-- R31. SPILL_RING_DRAIN: the head child leaves its ring for its bin. -/
def execSpillRingDrain (tree : Nat) (s : State) : Out :=
  .next (
    let o := ownerOfKey tree
    match (spillRing s o).1 with
    | [] => s
    | c :: r => match binChild s c with | some t => setSpillRing t o r | none => s)

/-! ### The spill and return of a parent (R33, R34, R264) -/

/-- Parents in the spill area that an owner's are spilled to: its launch's, or its receive queue's (R33). -/
def spilledOf (s : State) (o : Owner) : List Spilled :=
  let queue := fun (t : Nat) => (look s.trees t).map (fun x => x.rxq)
  s.spilled.filter (fun p => match look s.waves p.waveId with
    | some v => (match o, v.owner with
      | .launch l, .launch m => decide (l = m)
      | .tree t, .tree u => decide (queue t = queue u)
      | _, _ => false)
    | none => false)

/-- R33, R236: size of an owner's spill area in bytes, and of the ring at its start. -/
def spillArea (s : State) (o : Owner) : Nat × Nat :=
  match o with
  | .launch l => ((look s.launches l).map (fun v => (v.record.spillSize * 4096, v.record.ring * 32))).getD (0, 0)
  | .tree t => ((queueOf s t).map (fun q => (q.2.spillSize * 4096, q.2.ring * 32))).getD (0, 0)

/-- R33: bytes of a parent. -/
def parentBytes : Nat := 26624

/-- R33: the lowest place for a parent in its spill area behind the ring, if there is one. -/
def spillPlace (s : State) (o : Owner) : Option Nat :=
  let a := spillArea s o
  let used := (spilledOf s o).map (fun p => p.place)
  (List.range ((a.1 - a.2) / parentBytes)).find? (fun i => !(used.contains i))

/-- R33: a waiting child's bin qualifies in the pavilion and no core has room for its wave, but one has in `t`, where the parent is gone. -/
def childStarved (s t : State) (pav : Nat) : Bool :=
  (s.pav pav).bins.any (fun b => binQualifies s pav b.2 && (binPlaceOn s pav b.2).isNone && (binPlaceOn t pav b.2).isSome)

end Sys2Proof.Machine
end

