-- ==== Sys2Proof/Machine/Task.lean ====
section
/-! DEFINITION. Tasks (R30 to R38, R217 to R226): spawn and join, futures, generators: majors 0x31 to 0x33. -/

namespace Sys2Proof.Machine

open Sys2Proof

/-! ### Spawn and join (R217 to R219) -/

/-- R217 to R219, R259: the checks of a join object's offset: 16-byte aligned, in a unit with code 0b10 or 0b11. -/
def joinTraps (c : Ctx) (a : Reg) : List Trap := orngTraps c.s c.v.asid 255 (c.e.rS a.toNat).toNat 16 [2, 3]

/-- R218. -/
def execJinit (e : Bool) (a b : Reg) (s : State) : Out :=
  issue { e := e, ops := [oS a, oS b] } (fun c => joinTraps c a)
    (fun c =>
      if c.acquiring then .stall
      else .done (sendBank c (committed c c.s true true) 0 (c.e.rS a.toNat).toNat (.jinit (c.e.rS b.toNat)) none false false)) s

/-- R30 (condition 4): bins that hold children of a join object are due to launch. -/
def dueBins (s : State) (off : Nat) : State :=
  { s with pavs := s.pavs.map (fun p => (p.1, { p.2 with
      bins := p.2.bins.map (fun b => (b.1, { b.2 with due := b.2.due || b.2.children.any (fun x => decide (x.join = off)) })) })) }

/-- R219; a poisoned count that ends the wait is consumed (R275). -/
def execJoin (_ : Bool) (a : Reg) (s : State) : Out :=
  issue { e := true, ops := [oS a] } (fun c => joinTraps c a)
    (fun c =>
      let off := (c.e.rS a.toNat).toNat
      if c.acquiring || !(c.turn off) then .stall
      else if rdN c.s.orangery off 4 = 0 then
        if c.caughtUp off = false then .stall
        else if let some g := orngPoison c.s off 4 then .left (consume c.s c.e.wave c.core 5 g)
        else .done (dropL1 c.s c.core)
      else .left (dueBins (c.park (waitPark c.s c.k (some off) [.orangery (off / 64)])) off)) s

/-- R217: an entry label lies in the kernel's 4 GiB region (R141). -/
def entryTraps (c : Ctx) (o : BitVec 16) : List Trap :=
  if (c.jtarget o).toNat / 2 ^ 32 = c.e.pc.toNat / 2 ^ 32 then [] else [bare 0x02]

/-- R217: the children of a SPAWN, in ascending lane order. -/
def spawnChildren (c : Ctx) (k : Nat) (a : Reg) (o : BitVec 16) : List Child :=
  (lanesIn c.lanes).map (fun i =>
    { asid := c.v.asid, entry := c.jtarget o, join := (c.e.rS a.toNat).toNat, payload := (List.range 4).map (fun j => c.v.rV (8 * k + j) i),
      owner := c.v.owner, vlimit := c.v.vlimit, handler := c.v.handler, pav := pavOfCore c.core })

/-- R217: SPAWN releases the entity's stores, adds to the count in its bank, and holds the entity until the bank has answered. -/
def execSpawn (e : Bool) (k : BitVec 3) (a : Reg) (o : BitVec 16) (s : State) : Out :=
  issue { e := e, ops := [oVs (8 * k.toNat) 4, oS a], acc := { ximm := true }, prog := true }
    (fun c => joinTraps c a ++ entryTraps c o)
    (fun c =>
      if (lanesIn c.lanes).isEmpty then .done c.s
      else if c.acquiring then .stall
      else afterRelease c 4 (fun c =>
        let cs := spawnChildren c k.toNat a o
        .left (sendBank c (c.hold (committed c c.s true true)) 0 (c.e.rS a.toNat).toNat (.spawn cs.length cs) none false false))) s

/-! ### Futures (R38, R220 to R222) -/

/-- R220: the cells of the lanes. -/
def futureAddrs (c : Ctx) (lanes : Lanes) (a b : Reg) : List LaneAcc := laneAddrs c lanes a b

/-- R220, R310, R84: an own store or future operation on a cell's line has not reached its home. -/
def ownOnLine (s : State) (k w pa : Nat) : Bool :=
  (s.core (coreOfKey k)).data.held.any (fun h => forEnt s k w h.ent h.wave h.lanes &&
    (match h.dst with | .memory x => decide (x / 64 = pa / 64) | _ => false)) ||
  s.homeQ.any (fun o => forEnt s k w o.ent o.wave o.lanes && decide (o.addr / 64 = pa / 64))

/-- The distinct elements of a list in order, at most n. -/
def firstDistinct (n : Nat) (l : List Nat) : List Nat := (l.eraseDups).take n

/-- R275: the first poisoned line of the cells read. -/
def futurePoison (s : State) (ok : List (LaneAcc × Nat)) : Option Nat := ok.findSome? (fun a => memPoison s a.2)

/-- R221, R86: the entity's die has applied what the homes of the cells had, and the cells' own writes. -/
def futureCaught (c : Ctx) (ok : List (LaneAcc × Nat)) : Bool :=
  ok.all (fun a => covers (c.s.die c.die).clock (c.s.die ((homeDie a.2).getD 0)).clock && hasApplied c.s c.die a.2 16)

/-- R221: the values of full cells are written, and loads after them do not use an older L1 copy (R87). -/
def futureValues (c : Ctx) (d : Reg) (ok : List (LaneAcc × Nat)) : State :=
  let val := fun (i : Nat) => match ok.find? (fun a => decide (a.1.lane = i)) with
    | some a => BitVec.ofNat 64 (rdN c.s.mem (a.2 + 8) 8)
    | none => 0
  let vs : NMap Dword := ok.map (fun a => (a.1.lane, val a.1.lane))
  let fold := vs.foldl (fun (r : Word) (v : Nat × Dword) => r ^^^ v.2.setWidth 32 ^^^ (v.2 >>> 32).setWidth 32) c.e.fold
  ((dropL1 c.s c.core).setWave c.e.wave (c.v.wVPair d.toNat (lanesOf (fun i => ok.any (fun a => decide (a.1.lane = i)))) val)).setEnt c.k
    { c.e with fold := fold }

/-- R38, R221: FLD waits on the lines of its empty cells; in a replay its lanes are still those that had not finished (R262). -/
def futureWait (c : Ctx) (empty : List Nat) : State :=
  c.s.setEnt c.k { c.e.uncounted.jump c.e.chainPc with park := waitPark c.s c.k none ((firstDistinct 8 empty).map WaitKey.global), replay := c.e.replay }

/-- R221, R260: FLD for the lanes whose pages are mapped, `u` being the others. It waits while a cell is empty; with all of them full it writes
its lanes, and then parks when lanes are left (assumption 37). -/
def futureLoad (c : Ctx) (d : Reg) (ok : List (LaneAcc × Nat)) (u : List LaneAcc) : Res :=
  let empty := (ok.filter (fun a => decide (rdN c.s.mem a.2 4 = 0))).map (fun a => a.2 / 64)
  if empty.isEmpty = false then .left (futureWait c empty)
  else if let some g := futurePoison c.s ok then .left (consume c.s c.e.wave c.core (memUnit g) g)
  else if futureCaught c ok = false then .stall
  else match u with
    | [] => .done (futureValues c d ok)
    | _ => .left (parkEntity (futureValues c d ok) c.k c.v.asid .future (laneSet c u) (u.map (fun x => x.va)))

/-- R38, R221. -/
def execFld (_ : Bool) (d a b : Reg) (s : State) : Out :=
  issue { e := true, ops := [oV2 d, oS2 a, oV b], dst := 1 }
    (fun c => globalTraps c .future 16 (futureAddrs c c.lanes a b))
    (fun c =>
      let as := futureAddrs c c.lanes a b
      let ok := mappedOf c .future as
      if c.acquiring || ok.any (fun x => lineBusy c.s c.k c.e.wave true x.2 || ownOnLine c.s c.k c.e.wave x.2) then .stall
      else futureLoad (c.withState (fillTlb c.s c.core (entriesOf c .future as))) d ok (unmappedOf c .future as)) s

/-- R222: one lane's fill on its way to its home. -/
def sendFill (c : Ctx) (d : Reg) (s : State) (a : LaneAcc) (pa : Nat) : State :=
  let o : HomeOp :=
    { core := c.core, ent := c.k, wave := c.e.wave, serial := s.fresh, kind := .fill, addr := pa,
      data := leBytes 8 (c.v.rVPair d.toNat a.lane).toNat, dep := (s.die c.die).clock, acq := false, lanes := laneBit a.lane, reg := none,
      wide := false }
  let s1 := committed c s true true
  { s1 with homeQ := s1.homeQ ++ [o] }

/-- R38, R222. -/
def execFst (e : Bool) (d a b : Reg) (s : State) : Out :=
  issue { e := e, ops := [oV2 d, oS2 a, oV b], prog := true }
    (fun c => globalTraps c .futureWrite 16 (futureAddrs c c.lanes a b))
    (fun c => afterRelease c 4 (fun c => globalWord c .futureWrite true (futureAddrs c c.lanes a b) (eachLine (sendFill c d)))) s

/-! ### Generators (R35 to R37, R223 to R226) -/

/-- The byte of a core's scratchpad where a pleat buffer stands. -/
def pleatAt (c : Ctx) (buf : Nat) : Nat := ((c.block.map (fun b => b.frame)).getD 0) * 1024 + buf

/-- R35: a header field: offset and bytes. -/
def pleatGet (c : Ctx) (buf off n : Nat) : Nat := rdN c.data.scratch (pleatAt c buf + off) n

/-- R35: header fields written, as (offset, bytes, value). -/
def pleatSet (c : Ctx) (buf : Nat) (s : State) (fs : List (Nat × Nat × Nat)) : State :=
  fs.foldl (fun s f => spadWrite s c.core (pleatAt c buf + f.1) (leBytes f.2.1 f.2.2)) s

/-- R275: a poisoned granule among those of the buffer that a switch reads, by their offsets. -/
def pleatPoison (c : Ctx) (buf : Nat) (offs : List Nat) : Option Nat := offs.findSome? (fun o => scratchPoison c.s c.core (pleatAt c buf + o) 8)

/-- R74: an engine or a copy holds a frame of the buffer. -/
def pleatBusy (c : Ctx) (buf : Nat) : Bool := frameBusy c.s c.core (pleatAt c buf) || frameBusy c.s c.core (pleatAt c buf + 1024)

/-- R223: GENB. A buffer beyond the block's allocation is an access beyond it (R71). A consumer entry outside the kernel's region is no listed
condition (R259): the consumer then runs at the label (assumption 76). -/
def execGenb (e : Bool) (a : Reg) (o : BitVec 16) (s : State) : Out :=
  issue { e := e, ops := [oS a], acc := { ximm := true } }
    (fun c =>
      let x := (c.e.rS a.toNat).toNat
      let buf := bits x 0 19
      let t := bits x 24 8
      (if t = 0 ∨ 96 < t ∨ buf % 2048 ≠ 0 then [bare 0x02] else []) ++
      (if (spadAt c.s c.v.block 2048 buf).isSome then [] else [{ cause := 0x12, lane := 255, addr := buf }]) ++
      (if c.v.gen.isSome ∨ c.v.vlimit ≠ 64 then [bare 0x32] else []))
    (fun c =>
      let x := (c.e.rS a.toNat).toNat
      let buf := bits x 0 19
      if pleatBusy c buf then .stall
      else
        let g : Gen :=
          { buf := buf, consumer := false, draining := false, holder := c.k, entry := c.jtarget o, producer := 0, n := 0, group := [],
            own := 0, held := [] }
        let s1 := pleatSet c buf c.s
          [(1552, 8, pack [(16, 8, bits x 24 8), (24, 8, fslotOfKey c.k), (32, 32, (c.jtarget o).toNat)])]
        .done (s1.setWave c.e.wave { c.v with gen := some g })) s

/-- R36: the pending group in the order it is committed: by lane, then by YLD order. -/
def groupOrder (g : List (Nat × Word × Word)) : List (Nat × Word × Word) := laneList.flatMap (fun i => g.filter (fun x => decide (x.1 = i)))

/-- R36: a group is committed to the ring. -/
def commitGroup (c : Ctx) (g : Gen) : State :=
  let head := pleatGet c g.buf 1552 1
  let count := pleatGet c g.buf 1553 1
  let es := groupOrder g.group
  let ring := (es.zipIdx).map (fun p => ((head + count + p.2) % 192 * 8, 8, p.1.2.1.toNat + p.1.2.2.toNat * 2 ^ 32))
  pleatSet c g.buf c.s (ring ++ [(1553, 1, count + es.length)])

/-- R275: the lanes of v32 and v33 that a switch writes. -/
def receives (w n : Nat) (p : Poison) : Bool :=
  match p with | .vector x r i => decide (x = w) && (decide (r = 32) || decide (r = 33)) && decide (i < n) | _ => false

/-- R36: the consumer's registers and mask from the oldest entries of the ring; one that is poisoned is consumed (R275). -/
def loadConsumer (c : Ctx) (g : Gen) (e : Entity) (v : Wave) : State :=
  let head := pleatGet c g.buf 1552 1
  let n := min (pleatGet c g.buf 1553 1) 96
  let entry := fun i j => BitVec.ofNat 32 (pleatGet c g.buf ((head + i) % 192 * 8 + 4 * j) 4)
  let lanes := lanesOf (fun i => decide (i < n))
  let v1 := (v.wV 32 lanes (fun i => entry i 0)).wV 33 lanes (fun i => entry i 1)
  let pc := regionAddr g.entry (BitVec.ofNat 32 (pleatGet c g.buf 1556 4))
  match pleatPoison c g.buf (1552 :: (List.range n).map (fun i => (head + i) % 192 * 8)) with
  | some o => consume c.s c.e.wave c.core 1 o
  | none =>
    let s1 := (c.s.setWave c.e.wave { v1 with gen := some { g with consumer := true, holder := c.k, n := n, group := [] } }).clean (receives c.e.wave n)
    s1.setEnt c.k { (e.jump pc) with mask := lanes, own := BitVec.allOnes 96 }

/-- R36, R226: a switch to the consumer; the producer goes on at `pc`. -/
def generatorSwitch (c : Ctx) (g : Gen) (pc : Dword) : State :=
  let s1 := pleatSet c g.buf c.s
    [(1536, 8, pc.toNat % 2 ^ 32 + (beatOf c.e.mask 0).toNat * 2 ^ 32), (1544, 8, (beatOf c.e.mask 1).toNat + (beatOf c.e.mask 2).toNat * 2 ^ 32),
     (1555, 1, fslotOfKey c.k)]
  let held := ((entsOf c.s c.e.wave).map (fun e => e.1)).filter (fun x => decide (x ≠ c.k))
  loadConsumer (c.withState s1) { g with producer := pc, own := c.e.own, held := held } c.e c.v

/-- R36, R37: the producer goes on where the header says, with its mask; a poisoned header is consumed (R275). -/
def generatorResume (c : Ctx) (g : Gen) (done : Bool) : State :=
  let mask : Lanes := BitVec.ofNat 96 (pleatGet c g.buf 1540 12)
  let pc := regionAddr g.producer (BitVec.ofNat 32 (pleatGet c g.buf 1536 4))
  let g1 : Gen := { g with consumer := false, draining := false, n := 0, held := [] }
  match pleatPoison c g.buf [1536, 1544] with
  | some o => consume c.s c.e.wave c.core 1 o
  | none => (c.s.setWave c.e.wave { c.v with gen := if done then none else some g1 }).setEnt c.k { (c.e.jump pc) with mask := mask, own := g.own }

/-- R22, R74: a switch to the consumer cannot be made yet: an engine or a copy holds a frame of the buffer, or a result for v32 or v33, which the
switch writes in every lane, is still to come. -/
def switchBusy (c : Ctx) (buf : Nat) : Bool := pleatBusy c buf || pendAll c.s c.core c.e.wave 32 2

/-- R224, R225: YLD, GCHK and GEND belong to the producer of an active generator. -/
def producerTraps (c : Ctx) : List Trap :=
  match c.v.gen with | some g => if g.consumer then [bare 0x32] else [] | none => [bare 0x32]

/-- R36, R225, R226: YLD appends an entry for each active lane; one that would overflow the ring commits and switches first. -/
def execYld (e : Bool) (a b : Reg) (s : State) : Out :=
  issue { e := e, ops := [oV a, oV b] } (fun c => producerTraps c ++ (if 32 ≤ a.toNat ∨ 32 ≤ b.toNat then [bare 0x32] else []))
    (fun c => match c.v.gen with
      | none => .stall
      | some g =>
        let new := (lanesIn c.lanes).map (fun i => (i, c.v.rV a.toNat i, c.v.rV b.toNat i))
        if pleatGet c g.buf 1553 1 + g.group.length + new.length ≤ 192 then
          .done (c.s.setWave c.e.wave { c.v with gen := some { g with group := g.group ++ new } })
        else if switchBusy c g.buf then .stall
        else .left (generatorSwitch (c.withState (commitGroup c g)) { g with group := [] } c.e.chainPc)) s

/-- R36, R226: GCHK commits the group and switches at the threshold. -/
def execGchk (e : Bool) (s : State) : Out :=
  issue { e := e, ops := [] } producerTraps
    (fun c => match c.v.gen with
      | none => .stall
      | some g =>
        if pleatBusy c g.buf then .stall
        else
          let s1 := commitGroup c g
          let c1 := c.withState s1
          let g1 : Gen := { g with group := [] }
          if pleatGet c1 g.buf 1554 1 ≤ pleatGet c1 g.buf 1553 1 then (if switchBusy c g.buf then .stall else .left (generatorSwitch c1 g1 (c.e.pc + 4)))
          else .done (s1.setWave c.e.wave { c.v with gen := some g1 })) s

/-- R37, R226: GRET retires what the consumer received, and runs it again or resumes the producer. -/
def execGret (s : State) : Out :=
  issue { e := true, ops := [] }
    (fun c => match c.v.gen with | some g => if g.consumer && decide (g.holder = c.k) then [] else [bare 0x32] | none => [bare 0x32])
    (fun c => match c.v.gen with
      | none => .stall
      | some g =>
        if pleatBusy c g.buf then .stall
        else
          let count := pleatGet c g.buf 1553 1 - g.n
          let c1 := c.withState (pleatSet c g.buf c.s [(1552, 1, (pleatGet c g.buf 1552 1 + g.n) % 192), (1553, 1, count)])
          if (if g.draining then 0 < count else pleatGet c g.buf 1554 1 ≤ count) then
            (if switchBusy c g.buf then .stall else .left (loadConsumer c1 g c.e c.v))
          else .left (generatorResume c1 g g.draining)) s

/-- R37, R226: GEND commits the group, drains the ring, and ends the generator. -/
def execGend (s : State) : Out :=
  issue { e := true, ops := [] } producerTraps
    (fun c => match c.v.gen with
      | none => .stall
      | some g =>
        if pleatBusy c g.buf then .stall
        else
          let c1 := c.withState (commitGroup c g)
          if pleatGet c1 g.buf 1553 1 = 0 then
            .left ((c1.s.setWave c.e.wave { c.v with gen := none }).setEnt c.k (c.e.jump (c.e.pc + 4)))
          else if switchBusy c g.buf then .stall
          else .left (generatorSwitch c1 { g with group := [], draining := true } (c.e.pc + 4))) s

end Sys2Proof.Machine
end

