-- ==== Sys2Proof/Machine/Remote.lean ====
section
/-! DEFINITION. Remote invocation, window sends and counters (R39, R96, R227 to R232, R248, R249, R265, R266): the remote group of major
0x31 and the steps of packets and sends. -/

namespace Sys2Proof.Machine

open Sys2Proof

/-! ### RINV (R227 to R229, R249) -/

/-- R229: at most 2^24 packets of an owner are outstanding. -/
def outFull (s : State) (o : Owner) : Bool := decide (2 ^ 24 - 96 < outstanding s o)

/-- R227: the packets of a RINV, in ascending lane order. -/
def rinvPackets (c : Ctx) (d a b : Reg) : List Packet :=
  let t := (c.e.rS b.toNat).toNat
  (lanesIn c.lanes).map (fun i =>
    { peer := none, asid := c.v.asid, handler := bits t 16 12, prio := bits t 12 2, chip := bits t 0 12,
      args := (List.range 8).map (fun j => c.v.rV (a.toNat + j) i), ent := c.k, wave := c.e.wave, lane := i, reg := d.toNat, serial := c.s.fresh,
      target := c.e.rS b.toNat, dep := (c.s.die c.die).clock })

/-- The packet's target is this package (R227). -/
def isLocal (s : State) (p : Packet) : Bool := decide (p.chip = s.ctl.chipId.toNat)

/-- R227, R229: a local target makes RINV a release at PKG scope. -/
def execRinv (e : Bool) (d a b : Reg) (s : State) : Out :=
  issue { e := e, ops := [oV d, { oVs a.toNat 8 with align := 8 }, oS b], prog := true, dst := 1 } noChk
    (fun c =>
      let go := fun (c : Ctx) =>
        let ps := rinvPackets c d a b
        let s1 := committed c c.s true true
        Res.done (State.bump (countOut { s1 with packets := s1.packets ++ ps } c.v.owner (fun n => n + ps.length)))
      if (lanesIn c.lanes).isEmpty then .done c.s
      else if c.acquiring || outFull c.s c.v.owner then .stall
      else if (rinvPackets c d a b).any (isLocal c.s) then afterRelease c 4 go else go c) s

/-- R39, R228, R248: a packet is tested at its receive queue: its status, and the queue with it if accepted. -/
def acceptPacket (s : State) (p : Packet) : State × Nat :=
  match look s.rxqs p.prio, look (s.asid p.asid).handlers p.handler with
  | some q, some _ =>
    if q.entries ≤ q.taken then (s, 1)
    else ({ s with rxqs := put s.rxqs p.prio { q with waiting := q.waiting ++ [p], taken := q.taken + 1 } }, 0)
  | _, _ => (s, 2)

/-- R227: an earlier packet of the entity to the same target and priority is still on its way. -/
def packetBehind (l : List Packet) (p : Packet) : Bool :=
  l.any (fun q => decide (q.ent = p.ent) && decide (q.wave = p.wave) && decide (q.chip = p.chip) && decide (q.prio = p.prio))

/-- R228, R278, R305: a packet of this package leaves its core: to its receive queue, or to Draow Fabric, which has no path before its ports
have trained. -/
def packetLeaves (s : State) (k : Nat) (p : Packet) : State :=
  if packetBehind (s.packets.take k) p ∨ sent s (coreOfKey p.ent) p.ent p.serial = false then s
  else
    let s1 := markSent { s with packets := dropNth s.packets k } (coreOfKey p.ent)
    let o := ownerOf s p.wave
    if isLocal s p then
      let r := acceptPacket s1 p
      { r.1 with statuses := r.1.statuses ++ [{ pkt := p, owner := o, status := some r.2, time := s.now }] }
    else if s.pathsDown.contains p.chip || !s.ctl.trained then { s1 with statuses := s1.statuses ++ [{ pkt := p, owner := o, status := some 3, time := s.now }] }
    else { s1 with fabric := s1.fabric ++ [p], statuses := s1.statuses ++ [{ pkt := p, owner := o, status := none, time := s.now }] }

/-- R248, R305. RINV_PACKET_ARRIVAL: a packet of this package, or one that a peer sent through trained ports. -/
def execRinvPacketArrival (src : Arrival) (s : State) : Out :=
  .next (match src with
    | .local k => (match s.packets[k]? with | some p => packetLeaves s k p | none => s)
    | .peer p =>
      if p.peer.isNone || !s.ctl.trained then s
      else
        let r := acceptPacket s p
        { r.1 with statuses := r.1.statuses ++ [{ pkt := p, owner := .tree 0, status := some r.2, time := s.now }] })

/-- R228, R277: a status reaches its sender: it is written to the lane, also in the states that a strike may bring back if they stand after the
RINV; a refused packet is no longer outstanding. -/
def statusBack (s : State) (m : StatusMsg) (st : Nat) : State :=
  let p := m.pkt
  let write := fun (v : Wave) => v.wV p.reg (lanesOf (fun i => decide (i = p.lane))) (fun _ => BitVec.ofNat 32 st)
  let s0 := (s.modWave p.wave write).clean (fun x => decide (x = .vector p.wave p.reg p.lane))
  let s1 := { s0 with hist := s0.hist.map (fun h =>
    if h.core = coreOfKey p.ent ∧ p.serial < h.serial then { h with waves := modMap h.waves p.wave write } else h) }
  if st ≠ 0 then countOut s1 m.owner (fun n => n - 1)
  else if isLocal s p then s1
  else { s1 with acks := s1.acks ++ [{ owner := m.owner, ent := p.ent, wave := p.wave, target := p.target, failed := none, needs := [] }] }

/-- R228, R248. RINV_STATUS_RETURN; `status` is a peer's answer where one is awaited. A refusal stands once its cycle is over. -/
def execRinvStatusReturn (k status : Nat) (s : State) : Out :=
  .next (match s.statuses[k]? with
    | none => s
    | some m =>
      let s1 := { s with statuses := dropNth s.statuses k }
      if m.status = some 1 ∧ s.now ≤ m.time then s
      else if m.pkt.peer.isSome then s1 else statusBack s1 m (m.status.getD (status % 4)))

/-! ### Receive queues (R39) -/

/-- R39: the order in which priorities feed the bins. -/
def feedOrder (s : State) : List Nat :=
  let waits := fun q => match look s.rxqs q with | some x => !x.waiting.isEmpty | none => false
  let all := [3, 2, 1, 0].filter waits
  if 16 ≤ s.dispatch.starve then
    match all.find? (fun q => decide (q < s.dispatch.starvePrio)) with | some q => [q] | none => all
  else all

/-- R39: the head packet of a queue enters its bin. -/
def feedFrom (s : State) (prio : Nat) : Option State :=
  match look s.rxqs prio with
  | none => none
  | some q => match q.waiting with
    | [] => none
    | p :: r => match look (s.asid p.asid).handlers p.handler with
      | none => none
      | some h => (binPacket s q.pav h p).map (fun t => { t with rxqs := put t.rxqs prio { q with waiting := r } })

/-- R39: the first queue in order whose head packet has a bin: a lower priority's packet passes a higher one that finds no bin. R39 does not say
whether it may (assumption 87). -/
def feedFirst (s : State) : List Nat → Option State
  | [] => none
  | p :: r => match feedFrom s p with | some t => some t | none => feedFirst s r

/-- R39: a priority below this one holds a waiting packet. -/
def lowerWaits (s : State) (prio : Nat) : Bool :=
  (List.range prio).any (fun q => match look s.rxqs q with | some x => !x.waiting.isEmpty | none => false)

/-- R39. RECEIVE_QUEUE_FEED: the starvation count restarts with the packet it forces, and when no lower priority waits any more. -/
def execReceiveQueueFeed (s : State) : Out :=
  .next (match feedFirst s (feedOrder s) with
    | some t =>
      if 16 ≤ s.dispatch.starve ∨ lowerWaits t s.dispatch.starvePrio = false then { t with dispatch := { t.dispatch with starve := 0 } } else t
    | none => s)

/-! ### Remote faults and acknowledgements (R229, R265, R266) -/

/-- R265, R266: REMOTE_FAULT for an entity, or, when it has drained, a record of kind 2 and the launch completes FAULTED. -/
def remoteFault (s : State) (ent wave : Nat) (o : Owner) (addr : Nat) : State :=
  (holdCause s ent wave { cause := 0x40, addr := BitVec.ofNat 64 addr }).getD
    (setStatus (eventRecord s (lidOf s o) 2 0x40 (coreOfKey ent) addr) o .faulted)

/-- R232: an owner's acknowledgements have come with what the dies of their handler waves had applied. -/
def noteAck (s : State) (a : AckMsg) : State :=
  match a.owner with
  | .launch l => s.modLaunch l (fun v => { v with ackClock := joinClock v.ackClock a.needs })
  | .tree t => s.modTree t (fun v => { v with ackClock := joinClock v.ackClock a.needs })

/-- R232: what the acknowledgements of an owner have come with. -/
def ackClock (s : State) (o : Owner) : List Nat :=
  match o with
  | .launch l => ((look s.launches l).map (fun v => v.ackClock)).getD []
  | .tree t => ((look s.trees t).map (fun v => v.ackClock)).getD []

/-- R229. RETIREMENT_ACK; `failed` is a peer's mark where one is awaited. -/
def execRetirementAck (k : Nat) (failed : Bool) (s : State) : Out :=
  .next (match s.acks[k]? with
    | none => s
    | some a =>
      if covers (s.die (dieOfCore (coreOfKey a.ent))).clock a.needs then
        let s1 := countOut (noteAck { s with acks := dropNth s.acks k } a) a.owner (fun n => n - 1)
        if a.failed.getD failed then remoteFault s1 a.ent a.wave a.owner a.target.toNat else s1
      else s)

/-- R228. PATH_DOWN: packets to a chip whose path is down are dropped with status 3. -/
def execPathDown (chip : Nat) (s : State) : Out :=
  .next { s with
    pathsDown := if s.pathsDown.contains chip then s.pathsDown else chip :: s.pathsDown
    statuses := s.statuses.map (fun m => if m.pkt.chip = chip ∧ m.pkt.peer = none ∧ m.status = none then { m with status := some 3 } else m) }

/-! ### Window sends (R96, R230, R231) -/

/-- R230: what a WSEND names: destination, source, length. -/
def wsendArgs (c : Ctx) (a b : Reg) : Nat × Nat × Nat :=
  ((c.e.rPair a.toNat).toNat, (c.e.rPair (a.toNat + 2)).toNat, (c.e.rS b.toNat).toNat)

/-- R230, R260: the pages of a send: virtual address and what it needs. -/
def wsendPages (c : Ctx) (a b : Reg) : List (Nat × Need) :=
  let x := wsendArgs c a b
  (pageStarts x.2.1 x.2.2).map (fun v => (v, .sendSource)) ++ (pageStarts x.1 x.2.2).map (fun v => (v, .sendTarget))

/-- R63, R230: the window and the offset in it that a destination names. -/
def wsendWindow (c : Ctx) (va : Nat) : Option (Nat × Nat) :=
  (xlate c.s c.core c.v.asid .sendTarget va).pa.bind (fun pa => match target pa with | .peer w off => some (w, off) | _ => none)

/-- R230, R259: the checks of a WSEND. -/
def wsendTraps (c : Ctx) (a b : Reg) : List Trap :=
  let x := wsendArgs c a b
  let at' := fun (cause addr : Nat) => ({ cause := cause, lane := 255, addr := addr } : Trap)
  (if x.2.2 % 8 ≠ 0 ∨ x.2.2 < 8 ∨ 2 ^ 24 < x.2.2 then [bare 0x02] else []) ++
  (if x.2.1 % 8 = 0 then [] else [at' 0x03 x.2.1]) ++ (if x.1 % 8 = 0 then [] else [at' 0x03 x.1]) ++
  (wsendPages c a b).flatMap (fun p => (xlate c.s c.core c.v.asid p.2 p.1).causes.map (fun k => at' k p.1)) ++
  (match wsendWindow c x.1 with
    | some (w, off) => (match look c.s.windows w with
      | some r => if off + x.2.2 ≤ r.length then [] else [at' 0x12 x.1]
      | none => [at' 0x12 x.1])
    | none => [])

/-- R81, R277: bytes of global memory as an entity sees them at their point of coherence, through the pages of a range. -/
def readRange (c : Ctx) (va : Nat) : Nat → List Byte
  | 0 => []
  | n + 1 =>
    (match (xlate c.s c.core c.v.asid .sendSource va).pa with | some pa => coreByte c.s c.k c.e.wave c.s.fresh false pa | none => 0) ::
      readRange c (va + 1) n

/-- R86, R277: the places of other entities' held stores that the source of a send meets. -/
def wsendSeen (c : Ctx) (va n : Nat) : List Nat :=
  let xs := coreStores c.s c.core c.s.fresh
  if xs.isEmpty then []
  else (pageStarts va n).flatMap (fun v => match (xlate c.s c.core c.v.asid .sendSource v).pa with
    | some pa => othersSeen c.k c.e.wave pa (min (4096 - v % 4096) (va + n - v)) xs
    | none => [])

/-- R230: WSEND, a release at PKG scope, which reads its source at issue (assumption 21). -/
def execWsend (e : Bool) (a b : Reg) (s : State) : Out :=
  issue { e := e, ops := [oGroup a 4, oS b], prog := true } (fun c => wsendTraps c a b)
    (fun c =>
      let x := wsendArgs c a b
      if c.acquiring || decide (16 ≤ (c.s.sends.filter (fun w => decide (w.core = c.core))).length) then .stall
      else
        match (wsendPages c a b).filter (fun p => (xlate c.s c.core c.v.asid p.2 p.1).pa.isNone) with
        | [] => afterRelease c 4 (fun c =>
          let w := (wsendWindow c x.1).getD (0, 0)
          let m : Send :=
            { ent := c.k, wave := c.e.wave, core := c.core, serial := c.s.fresh, owner := c.v.owner, window := w.1, offset := w.2,
              dest := c.e.rPair a.toNat, data := readRange c x.2.1 x.2.2, failed := false }
          let s1 := committed c c.s true true
          .done (observe (State.bump { s1 with sends := s1.sends ++ [m] }) c.k c.e.wave (wsendSeen c x.2.1 x.2.2)))
        | u => .left (parkOn c.s c.k c.v.asid c.e.mask (u.map (fun p => (p.1, faultKind p.2))))) s

/-- A 64-bit counter in the Orangery rises, and waits on its line are looked at again (R230, R308). -/
def countWord (s : State) (off n : Nat) : State :=
  wakeLine (orngPut s off (wrN s.orangery off 8 ((rdN s.orangery off 8 + n) % 2 ^ 64))) off

/-- R96, R230, R265, R302. WSEND_ACK: the target has acknowledged a send: the origin counter of its window rises. A send whose window was
deregistered while it was in flight cannot but fail. -/
def execWsendAck (k : Nat) (s : State) : Out :=
  .next (match s.sends[k]? with
    | none => s
    | some m => match look s.windows m.window with
      | none => s
      | some w =>
        if sent s m.core m.ent m.serial && !m.failed && s.ctl.trained then
          countWord (markSent { s with sends := dropNth s.sends k } m.core) w.origin 1
        else s)

/-- R265. WSEND_FAILURE. -/
def execWsendFailure (k : Nat) (s : State) : Out :=
  .next (match s.sends[k]? with
    | none => s
    | some m =>
      if sent s m.core m.ent m.serial then
        remoteFault (markSent { s with sends := dropNth s.sends k } m.core) m.ent m.wave m.owner m.dest.toNat
      else s)

/-- R231: a contribution's integer F, and whether it was clamped. -/
def reduceF (x : Int) (v : Val) : Int × Bool :=
  match v with
  | .fin n m e =>
    let q := (roundTo 0 n m e (x - 86)).1
    let top := 2 ^ 87 - 1
    let f : Int := if n then -((min q top : Nat) : Int) else ((min q top : Nat) : Int)
    (f, decide (top < q))
  | _ => (0, false)

/-- R231: an element of a reduce window's result. -/
def reduceResult (fmt : Fmt) (x sum : Int) (nan pos neg : Bool) : Nat :=
  if nan || (pos && neg) then fmt.canon
  else if pos then fmt.infCode
  else if neg then fmt.infCode + fmt.signBit
  else (fmt.round 0 false (.fin (decide (sum < 0)) sum.natAbs (x - 86))).1

/-- R231: the result format of a reduce window. -/
def windowFmt (f : Nat) : Fmt := match f with | 0 => Fmt.f32 | 1 => Fmt.f16 | _ => Fmt.bf16

/-- R231: a contribution is added to a reduce window. -/
def contribute (w : Window) (data : List Byte) : Window :=
  let vs := (List.range w.elements).map (fun i => Fmt.f32.value (leNat ((data.drop (4 * i)).take 4)))
  let fs := vs.map (reduceF w.expo)
  let z := fun (l : List Int) => (List.range w.elements).map (fun i => l.getD i 0)
  let b := fun (l : List Bool) (f : Val → Bool) => ((List.range w.elements).zip vs).map (fun p => l.getD p.1 false || f p.2)
  { w with
    arrived := w.arrived + 1, sums := ((z w.sums).zip fs).map (fun p => p.1 + p.2.1), nans := b w.nans Val.isNan,
    posInf := b w.posInf (fun v => match v with | .inf n => !n | _ => false), negInf := b w.negInf (fun v => match v with | .inf n => n | _ => false),
    saturated := w.saturated || fs.any (fun f => f.2) }

/-- R231. REDUCE_WINDOW_RESULT: with the last contribution the root rounds each sum once and writes it. -/
def reduceDone (s : State) (win : Nat) (w : Window) : State :=
  let fmt := windowFmt w.format
  let size := if w.format = 0 then 4 else 2
  let out := (List.range w.elements).flatMap (fun i => leBytes size
    (reduceResult fmt w.expo (w.sums.getD i 0) (w.nans.getD i false) (w.posInf.getD i false) (w.negInf.getD i false)))
  let s1 := { s with windows := put s.windows win { w with arrived := 0, sums := [], nans := [], posInf := [], negInf := [] } }
  countWord (hostWrite s1 w.base out) w.arrival w.contributors

/-- R96, R231. WSEND_ARRIVAL: a send of a peer is applied at its window, and the arrival counter rises; a send into no window, or past its end,
fails at its origin (R265); none comes before the ports have trained (R305). A contribution of another length, or at another offset, is dropped
(assumption 93). -/
def execWsendArrival (win off : Nat) (data : List Byte) (s : State) : Out :=
  .next (match look s.windows win with
    | none => s
    | some w =>
      if s.ctl.trained = false ∨ w.length < off + data.length then s
      else if w.reduce then
        if off ≠ 0 ∨ data.length ≠ 4 * w.elements then s
        else
          let w1 := contribute w data
          if w1.arrived = w1.contributors then reduceDone s win w1 else { s with windows := put s.windows win w1 }
      else countWord (hostWrite s (w.base + off) data) w.arrival 1)

/-! ### CWAIT (R232) -/

/-- R232, R96, R87, R275. -/
def execCwait (_ : Bool) (a b : Reg) (s : State) : Out :=
  issue { e := true, ops := [oS a, oS2 b] } (fun c => orngTraps c.s c.v.asid 255 (c.e.rS a.toNat).toNat 8 [1, 2])
    (fun c =>
      let off := (c.e.rS a.toNat).toNat
      if c.acquiring || !(c.turn off) then .stall
      else if (rdN c.s.orangery off 8 + 2 ^ 64 - (c.e.rPair b.toNat).toNat) % 2 ^ 64 < 2 ^ 63 then
        if c.caughtUp off = false then .stall
        else if let some g := orngPoison c.s off 8 then .left (consume c.s c.e.wave c.core 5 g)
        else .done (dropL1 c.s c.core)
      else .left (c.waitOn [.orangery (off / 64)])) s

/-- R232, R87: CWAIT.OUT; it goes on when the entity's die has applied what the handler waves had written before they drained. -/
def execCwaitOut (_ : Bool) (s : State) : Out :=
  issue { e := true, ops := [] } noChk
    (fun c =>
      if outstanding c.s c.v.owner ≠ 0 then .left (c.waitOn [.count (ownerKey c.v.owner)])
      else if covers (c.s.die c.die).clock (ackClock c.s c.v.owner) then .done (dropL1 c.s c.core) else .stall) s

end Sys2Proof.Machine
end

