-- ==== Sys2Proof/Machine/Bank.lean ====
section
/-! DEFINITION. Steps of memory: Orangery banks (R79, R181 to R183, R217, R218), homes of global locations (R88, R222), replies (R94, R178),
the strike buffer's sends (R277), answers to the entities (R211, R217), closes and drops of result objects (R59, R285), code
invalidation (R151), polls (R308). -/

namespace Sys2Proof.Machine

open Sys2Proof

/-! ### Operations of a bank -/

/-- R183: the fields of an ORDX cell: whether slots are 8 bytes wide, and control word, slots. -/
def ordxWide (op : Nat) : Bool := decide (op = 11)
def ordxCtl (op : Nat) : Nat := if ordxWide op then 8 else 4
def ordxSlot (op k : Nat) : Nat := if ordxWide op then 16 + 8 * k else 8 + 4 * k
def ordxSlots (op : Nat) : Nat := if ordxWide op then 6 else 14

/-- R183: one contribution at the bank. The operation is folded whenever ARR[N − 1:0] is complete, as the pseudocode tests it, also in a cell whose N
is above its slots and whose upper ARR bits software has set (assumption 98). -/
def ordxAt (m : Memory) (line op k : Nat) (v : Dword) : Memory :=
  let size := atomSize op
  let ctl := rdN m (line + ordxCtl op) 4
  let n := bits ctl 16 4
  let arr := bits ctl 0 14
  if bits ctl 24 1 = 1 ∨ n ≤ k ∨ ordxSlots op ≤ k ∨ arr.testBit k = true then m
  else
    let arr1 := arr + 2 ^ k
    let m1 := wrN m (line + ordxSlot op k) size v.toNat
    if (List.range n).all (fun i => arr1.testBit i) then
      let slot := fun (i : Nat) => BitVec.ofNat 64 (rdN m1 (line + ordxSlot op i) size)
      let x := (List.range (n - 1)).foldl (fun (r : Dword) i => atomNew op r (slot (i + 1)) 0) (slot 0)
      wrN (wrN m1 line size x.toNat) (line + ordxCtl op) 4 (setBits (setBits ctl 0 14 0) 24 1 1)
    else wrN m1 (line + ordxCtl op) 4 (setBits ctl 0 14 arr1)

/-- R264: a decrement that finds 0 leaves 0 and is recorded. -/
def decrementAt (s : State) (o : BankOp) (owner : Owner) (count : Nat) : State :=
  let c0 := rdN s.orangery o.off 4
  let s1 := orngPut s o.off (wrN s.orangery o.off 4 (c0 - count))
  let s2 := (List.range (count - c0)).foldl (fun s _ => eventRecord s (lidOf s owner) 1 0x31 o.core o.off) s1
  if c0 ≤ count then wakeLine s2 o.off else s2

/-- Orangery stores that a core still holds, oldest first, made before `lim` (R277). -/
def orngStores (s : State) (core lim : Nat) : List CoreStore :=
  (s.core core).data.held.filterMap (fun h => match h.dst with
    | .orangery o => if h.serial < lim then some { ent := h.ent, wave := h.wave, serial := h.serial, addr := o, data := h.data, bad := h.bad } else none
    | _ => none)

/-- R277, R181: the value a bank's load brings: what its core still holds of earlier stores lies over what the bank has. -/
def bankLoad (s : State) (o : BankOp) (n : Nat) : Nat :=
  let xs := (orngStores s o.core o.serial).map (fun x => (x.addr, x.data))
  leNat ((List.range n).map (fun i => (lastByte xs (o.off + i)).getD (rd s.orangery (o.off + i))))

/-- A bank's reply with a value, or its acknowledgement of an acquire (R181). -/
def bankReply (s : State) (o : BankOp) (v : Option Dword) : State :=
  let r : Reply :=
    { core := o.core, ent := o.ent, wave := o.wave, serial := o.serial, reg := o.reg, wide := o.wide,
      kind := match v with | some x => .value (2 ^ 60 + o.off) x | none => .ack
      needs := bankClock s o.off, acq := o.acq }
  if v.isSome || o.acq then { s with replies := s.replies ++ [r] } else s

/-- R79, R181 to R183, R217, R218: one operation of a bank. What a program writes to an object's descriptor is ignored (R4, R45). -/
def bankEffect (s : State) (o : BankOp) : State :=
  let put' := fun (m : Memory) => wakeLine (orngPut s o.off m) o.off
  match o.kind with
  | .load n signed => bankReply (observe s o.ent o.wave (othersSeen o.ent o.wave o.off n (orngStores s o.core o.serial))) o
      (some (extend n signed (bankLoad s o n)))
  | .store bytes => put' (wrBytes s.orangery o.off bytes)
  | .atom op v c =>
    let size := atomSize op
    let m := BitVec.ofNat 64 (rdN s.orangery o.off size)
    bankReply (put' (wrN s.orangery o.off size (atomNew op m v c).toNat)) o (some m)
  | .update op v =>
    let size := atomSize op
    put' (wrN s.orangery o.off size (atomNew op (BitVec.ofNat 64 (rdN s.orangery o.off size)) v 0).toNat)
  | .fold op vs =>
    let size := atomSize op
    let x := vs.foldl (fun (r : Dword) v => atomNew op r v 0) (BitVec.ofNat 64 (rdN s.orangery o.off size))
    bankReply (put' (wrN s.orangery o.off size x.toNat)) o none
  | .ordx op slot v => bankReply (put' (ordxAt s.orangery o.off op slot v)) o none
  | .jinit n => put' (wrN s.orangery o.off 16 n.toNat)
  | .spawn n cs =>
    let c0 := rdN s.orangery o.off 4
    let ans := fun (s : State) (k : AnswerKind) =>
      ({ s with answers := s.answers ++ [{ ent := o.ent, wave := o.wave, block := 0, line := o.off, kind := k, needs := [] }] } : State)
    if 2 ^ 32 ≤ c0 + n then ans s (.joinMisuse o.off)
    else ans (orngPut s o.off (wrN s.orangery o.off 4 (c0 + n))) (.children ((cs.zipIdx).map (fun p => (p.2, p.1))))
  | .decrement owner count => decrementAt s o owner count

/-- R275: the bytes of a bank that an operation consumes: those it delivers to a register or folds. -/
def BankOp.consumes (o : BankOp) : Nat :=
  match o.kind with
  | .load n _ => n
  | .atom op _ _ => atomSize op
  | .update op _ => atomSize op
  | .fold op _ => atomSize op
  | .ordx _ _ _ => 64
  | .store _ => 0
  | .jinit _ => 0
  | .spawn _ _ => 4
  | .decrement _ _ => 4

/-- R275: the granules that an operation writes whole lose their poison, when it is performed; those that a copy writes with poisoned bytes are
poisoned. A store that is ignored (R4) writes nothing, and so ends no poison (assumption 81). -/
def BankOp.cleans (s : State) (o : BankOp) : State :=
  if fixedAt s o.off then s
  else if o.bad then s.taint (.orangery (o.off / 8 * 8))
  else match o.kind with | .store bytes => cleanOrng s o.off bytes.length | .jinit _ => cleanOrng s o.off 16 | _ => s

/-- R275: the poison that an operation consumes; what its core still holds of earlier stores lies over it for a load. -/
def BankOp.readsPoison (s : State) (o : BankOp) : Option Nat :=
  match o.kind with
  | .load n _ => meetsPoison (orngStores s o.core o.serial) o.off n (fun a => orngPoison s a 1)
  | _ => orngPoison s o.off o.consumes

/-- R181, R182: an operation that may write its bank. -/
def BankOp.writes (o : BankOp) : Bool := match o.kind with | .load _ _ => false | _ => true

/-- R79. BANK_OPERATION: the k-th operation under way, when its turn at its bank has come; one that meets poison starts containment. -/
def execBankOperation (k : Nat) (s : State) : Out :=
  .next (match s.bankQ[k]? with
    | none => s
    | some o =>
      if turnAtBank s o.core o.ent o.wave o.lanes o.serial o.off && covers (bankClock s o.off) o.dep then
        let s1 := markSent { s with bankQ := dropNth s.bankQ k } o.core
        (match o.readsPoison s with
          | some g => consume s1 o.wave o.core 5 g
          | none => bankEffect (if o.writes then bankWrite (o.cleans s1) (dieOfCore o.core) o.ent o.wave o.serial o.off else s1) o)
      else s)

/-! ### Homes of global locations -/

/-- R84, R87, R88: another operation on the line stays before operation `o`: it comes first for its entity or one of its lanes, or both are
stores of one core, which leave it in the order its loads have seen. -/
def homeFirst (s : State) (o x : HomeOp) : Bool :=
  decide (x.addr / 64 = o.addr / 64) &&
  (comesFirst s o.ent o.wave o.lanes o.serial x.ent x.wave x.lanes x.serial ||
    (decide (x.core = o.core) && decide (x.kind = .store) && decide (o.kind = .store) && decide (x.serial < o.serial)))

/-- R88, R91: the home has applied what the operation releases, the issuing die what an atomic meets at its home (R89), and nothing on the line
that stays before it is under way. -/
def turnAtHome (s : State) (o : HomeOp) : Bool :=
  sent s o.core o.ent o.serial &&
  !((s.core o.core).data.held.any (fun h => comesFirst s o.ent o.wave o.lanes o.serial h.ent h.wave h.lanes h.serial &&
    (match h.dst with | .memory a => decide (a / 64 = o.addr / 64) | _ => false))) &&
  !(s.homeQ.any (homeFirst s o)) &&
  (match homeDie o.addr with | some d => covers (s.die d).clock o.dep | none => true) &&
  (match o.kind with | .atom op _ _ => hasApplied s (dieOfCore o.core) o.addr (atomSize op) | _ => true)

/-- R88, R179, R222: an operation performed at its home; the core that made it gives up its L1 copy of the line (R81). -/
def homeEffect (s : State) (o : HomeOp) : State :=
  let d := dieOfCore o.core
  match o.kind with
  | .store => dropLines (agentWrite s d o.ent o.wave o.serial o.addr o.data) (fun c => decide (c = o.core)) o.addr o.data.length
  | .atom op v c =>
    let size := atomSize op
    let m := BitVec.ofNat 64 (rdN s.mem o.addr size)
    let s1 := dropLines (agentWrite s d o.ent o.wave o.serial o.addr (leBytes size (atomNew op m v c).toNat)) (fun c => decide (c = o.core)) o.addr size
    let r : Reply :=
      { core := o.core, ent := o.ent, wave := o.wave, serial := o.serial, reg := o.reg, wide := o.wide, kind := .value o.addr m,
        needs := (s.die ((homeDie o.addr).getD d)).clock, acq := o.acq }
    { s1 with replies := s1.replies ++ [r] }
  | .fill =>
    let s1 := agentWrite (agentWrite s d o.ent o.wave o.serial (o.addr + 8) o.data) d o.ent o.wave o.serial o.addr [1, 0, 0, 0]
    wake (dropLines s1 (fun c => decide (c = o.core)) o.addr 16) (.global (o.addr / 64))

/-- R66: two operations are lanes of one word on one line, and so one access. -/
def sameAccess (o x : HomeOp) : Bool :=
  decide (x.core = o.core) && decide (x.ent = o.ent) && decide (x.wave = o.wave) && decide (x.serial = o.serial) && decide (x.addr / 64 = o.addr / 64)

/-- R275: what the stores of one access do to the poison of their line when they are performed: written whole, it is poisoned no more; bytes that a
copy read from a poisoned granule poison it. -/
def homePoison (s : State) (ops : List HomeOp) : State :=
  match ops with
  | [] => s
  | o :: _ =>
    let line := o.addr / 64 * 64
    if ops.any (fun x => x.bad) then s.taint (.memory line)
    else s.clean (fun p => decide (p = .memory line) && (List.range 64).all (fun i => ops.any (fun x =>
      decide (x.kind = .store) && decide (x.addr ≤ line + i) && decide (line + i < x.addr + x.data.length))))

/-- R66, R88, R275. HOME_OPERATION: the access that the k-th operation is part of, its lanes in order. -/
def execHomeOperation (k : Nat) (s : State) : Out :=
  .next (match s.homeQ[k]? with
    | none => s
    | some o =>
      let ops := s.homeQ.filter (sameAccess o)
      if ops.all (turnAtHome s) then
        let s1 := markSent { s with homeQ := s.homeQ.filter (fun x => !(sameAccess o x)) } o.core
        (match o.kind, memPoison s o.addr with
          | .atom _ _ _, some g => consume s1 o.wave o.core (memUnit g) g
          | _, _ => homePoison (ops.foldl homeEffect s1) ops)
      else s)

/-! ### Replies (R94, R178) -/

/-- The line of memory that a load's reply brings. -/
def Reply.line (r : Reply) : Option Nat := match r.kind with | .load items _ _ _ => (items.head?).map (fun x => x.2 / 64 * 64) | _ => none

/-- R84: no earlier load of the entity, or of one of its lanes, from the line is still to return. -/
def loadTurn (s : State) (r : Reply) : Bool :=
  !(s.replies.any (fun x => r.line.isSome && decide (x.line = r.line) && decide (x.wave = r.wave) && decide (x.serial < r.serial) &&
    (decide (x.ent = r.ent) || x.lanes.any (fun i => decide (i < 96) && r.lanes.contains i))))

/-- R87: the load takes its line from its core's L1: it may, the line is there, and the cache answers (assumption 17). -/
def usesL1 (s : State) (r : Reply) : Bool :=
  match r.kind, r.line with
  | .load _ _ _ cached, some a => cached && !r.acq && (l1Find s r.core a).isSome && Config.l1Hit r.serial
  | _, _ => false

/-- What a reply brings, lane by lane; 255 is the scalar unit. -/
def replyValues (s : State) (r : Reply) : NMap Dword :=
  match r.kind with
  | .load items n signed _ => items.map (fun x => (x.1, extend n signed (coreLoad s r.ent r.wave r.serial (usesL1 s r) x.2 n)))
  | .value _ v => [((r.reg.bind (fun x => x.2)).getD 255, v)]
  | .ack => []

/-- R275: the poison that a load's reply brings. -/
def Reply.readsPoison (s : State) (r : Reply) : Option Nat :=
  match r.kind with
  | .load items n _ _ =>
    if s.poison.isEmpty && !((coreStores s r.core r.serial).any (fun x => x.bad)) then none
    else items.findSome? (fun x => meetsPoison (coreStores s r.core r.serial) x.2 n (memPoison s))
  | _ => none

/-- R267: the fold of a loaded value. -/
def foldIn (wide : Bool) (f : Word) (v : Dword) : Word := f ^^^ v.setWidth 32 ^^^ (if wide then (v >>> 32).setWidth 32 else 0)

/-- R175, R179: an entity that receives a reply: its scalar register, and the fold of the loaded values (R267). -/
def Entity.receive (e : Entity) (r : Reply) (vs : NMap Dword) : Entity :=
  vs.foldl (fun (e : Entity) x =>
    let e1 := match r.reg with
      | some (n, none) => if r.wide then e.wPair n x.2 else e.wS n (x.2.setWidth 32)
      | _ => e
    { e1 with fold := foldIn r.wide e1.fold x.2 }) e

/-- R175, R179: a wave that receives a reply: the lanes of its vector register. -/
def Wave.receive (w : Wave) (r : Reply) (vs : NMap Dword) : Wave :=
  match r.reg with
  | some (n, some _) =>
    let act := lanesOf (fun i => (look vs i).isSome)
    let f := fun i => (look vs i).getD 0
    if r.wide then w.wVPair n act f else w.wV n act (fun i => (f i).setWidth 32)
  | _ => w

/-- R275: the granules of registers that a reply writes. -/
def Reply.fills (r : Reply) (vs : NMap Dword) (p : Poison) : Bool :=
  let mine := fun (d n : Nat) => decide (d ≤ n) && decide (n < d + (if r.wide then 2 else 1))
  match r.reg, p with
  | some (d, none), .scalar w k n => decide (w = r.wave) && decide (k = r.ent) && mine d n
  | some (d, some _), .vector w n i => decide (w = r.wave) && mine d n && (look vs i).isSome
  | _, _ => false

/-- A reply in the state, and in the states that its core could be brought back to, if they stand after its word (R277). -/
def deliverReply (s : State) (r : Reply) (vs : NMap Dword) : State :=
  let ent := fun (e : Entity) => if e.wave = r.wave then e.receive r vs else e
  let s1 := (((s.modEnt r.ent ent).modWave r.wave (fun w => w.receive r vs))).clean (r.fills vs)
  { s1 with hist := s1.hist.map (fun h =>
      if h.core = r.core ∧ r.serial < h.serial then
        { h with ents := modMap h.ents r.ent ent, waves := modMap h.waves r.wave (fun w => w.receive r vs) }
      else h) }

/-- One more L2 miss of a 2 MiB range, counted by the range's home die. -/
def countMiss (s : State) (a : Nat) : State :=
  match homeDie a with
  | some d =>
    let die := s.die d
    s.setDie d { die with misses := put die.misses (a / 2 ^ 21) (min 65535 ((look die.misses (a / 2 ^ 21)).getD 0 + 1)) }
  | none => s

/-- R81: the line of an address stands in a die's L2. What it holds there is what the die sees. -/
def inL2 (s : State) (d a : Nat) : Bool := (s.die d).l2.contains (a / 64 * 64)

/-- R9, R81: a load of a line that a core's L1 does not serve is served by its die's L2, or misses there, counts (assumption 19), and brings
the line in when its page lets it be cached. -/
def l2Load (s : State) (d a n : Nat) (cacheable : Bool) : State :=
  if inL2 s d a then s
  else
    let s1 := countMiss s a
    if cacheable then s1.setDie d { s1.die d with l2 := cacheAdd Config.l2Lines n (s1.die d).l2 (a / 64 * 64) } else s1

/-- R81: a line comes into a core's L1 as the core's die sees it, in place of an older copy. -/
def fillL1 (s : State) (core a n : Nat) : State :=
  let c := s.core core
  let x : L1Line := { addr := a, bytes := (List.range 64).map (fun i => dieByte s (dieOfCore core) (a + i)) }
  s.setCore core { c with l1 := cacheAdd Config.l1Lines n (c.l1.filter (fun l => decide (l.addr ≠ a))) x }

/-- R86, R277: what a load ties its entity to: the stores of other entities of its core that it has read. -/
def loadSeen (s : State) (r : Reply) : List Nat :=
  match r.kind with
  | .load items n _ _ => items.flatMap (fun x => othersSeen r.ent r.wave x.2 n (coreStores s r.core r.serial))
  | _ => []

/-- R9, R81, R87: a load that its L1 did not serve goes to the die's L2, and brings its line into both when its page lets them hold it. An
acquire leaves nothing in the L1. -/
def loadFills (s : State) (r : Reply) (used : Bool) : State :=
  match r.kind, r.line with
  | .load _ _ _ cached, some a =>
    if used then s
    else
      let s1 := l2Load s (dieOfCore r.core) a r.serial cached
      if cached && !r.acq then fillL1 s1 r.core a r.serial else s1
  | _, _ => s

/-- R94: the reply's value is not held back: the die's clock has reached the home's, or an L1 or the die's L2 serves the load. -/
def arrived (s : State) (r : Reply) : Bool :=
  covers (s.die (dieOfCore r.core)).clock r.needs || usesL1 s r ||
  (match r.kind, r.line with | .load _ _ _ cached, some a => cached && inL2 s (dieOfCore r.core) a | _, _ => false)

/-- R94, R178, R86, R87, R275. GLOBAL_ACCESS_RESPONSE: a reply whose clock the die has reached, in its entity's order on the line. A load that
meets poison starts containment, and after an acquire no load finds an older value in the L1. -/
def execGlobalAccessResponse (k : Nat) (s : State) : Out :=
  .next (match s.replies[k]? with
    | none => s
    | some r =>
      if arrived s r && loadTurn s r then
        let s1 := { s with replies := dropNth s.replies k }
        (match r.readsPoison s with
          | some g => consume s1 r.wave r.core (memUnit g) g
          | none =>
            let s2 := observe (deliverReply s1 r (replyValues s r)) r.ent r.wave (loadSeen s r)
            let s3 := loadFills s2 r (usesL1 s r)
            if r.acq then dropL1 s3 r.core else s3)
      else s)

/-! ### The strike buffer (R277, R278) -/

/-- R277, R279: a held write is permanent after 256 cycles, or once a cut has stopped its wave. -/
def permanent (s : State) (h : HeldWrite) : Bool :=
  decide (h.time + Config.strikeWindow ≤ s.now) || (match look s.waves h.wave with | some w => w.ended | none => true)

/-- A held write leaves for where it goes. A strike on another core whose scratchpad it writes does not undo it. -/
def sendHeld (s : State) (core : Nat) (h : HeldWrite) : State :=
  let clock := (s.die (dieOfCore core)).clock
  match h.dst with
  | .memory a =>
    let o : HomeOp :=
      { core := core, ent := h.ent, wave := h.wave, serial := h.serial, kind := .store, addr := a, data := h.data, dep := clock, acq := false,
        lanes := h.lanes, reg := none, wide := false, bad := h.bad }
    { s with homeQ := s.homeQ ++ [o] }
  | .scratch x off =>
    let s0 := spadWrite s x off h.data
    let s1 := if h.bad then s0.taint (.scratch x (off / 8 * 8)) else s0
    { s1 with hist := s1.hist.map (fun y => if y.core = x then { y with data := { y.data with scratch := wrBytes y.data.scratch off h.data } } else y) }
  | .orangery off =>
    let o : BankOp :=
      { ent := h.ent, wave := h.wave, core := core, serial := h.serial, off := off, kind := .store h.data, lanes := h.lanes, reg := none,
        wide := false, acq := false, dep := h.dep, bad := h.bad }
    { s with bankQ := s.bankQ ++ [o] }

/-- R275: granules of other cores' scratchpads that the lanes of one beat write whole between them. -/
def cleanSent (s : State) (hs : List HeldWrite) : State :=
  if s.poison.isEmpty then s
  else
    let at' := fun (b : Nat) => hs.filterMap (fun h => match h.dst with
      | .scratch x o => if writeBeat h.lanes = b ∧ h.bad = false then some (x, o, h.data.length) else none | _ => none)
    (List.range 3).foldl (fun s b => ((at' b).map (fun x => (x.1, x.2.2))).eraseDups.foldl (fun s x =>
      cleanAccess s x.1 (((at' b).filter (fun y => decide (y.1 = x.1))).map (fun y => y.2.1)) x.2) s) s

/-- R66, R277. STRIKE_BUFFER_SEND: the oldest held write of a core, with those of the same access. -/
def execStrikeBufferSend (core : Nat) (s : State) : Out :=
  .next (
    let d := (s.core core).data
    match d.held with
    | [] => s
    | h :: _ =>
      let same := fun (x : HeldWrite) => decide (x.serial = h.serial)
      if permanent s h then
        let out := d.held.takeWhile same
        markSent (cleanSent (out.foldl (fun s x => sendHeld s core x) (s.setData core { d with held := d.held.dropWhile same })) out) core
      else s)

/-! ### Answers (R211, R212, R217) -/

/-- R277: an answer has come to an entity: the states its core may come back to in which it waits for that answer have it too. -/
def answerHist (s : State) (k w block : Nat) : State :=
  { s with hist := s.hist.map (fun h =>
      if h.core = coreOfKey k ∧ ((look h.ents k).map (fun e => decide (e.wave = w) && decide (e.park = .bank))).getD false then
        { h with
          ents := match look s.ents k with | some e => put h.ents k e | none => h.ents
          waves := modMap h.waves w (fun v => { v with passIdx := ((look s.waves w).map (fun x => x.passIdx)).getD v.passIdx })
          blocks := modMap h.blocks block (fun b => { b with seals := ((look s.blocks block).map (fun x => x.seals)).getD b.seals }) }
      else h) }

/-- R211, R217: what an answer does for its entity. -/
def takeAnswer (s : State) (a : Answer) (e : Entity) : State :=
  match a.kind with
  | .slot obj reg addr pass => slotAnswer s a e obj reg addr pass
  | .noSlot obj => passWait s a e obj
  | .group reg words =>
    (s.setEnt a.ent (e.wMany reg words).answered).clean (fun p => (List.range words.length).any (fun i => decide (p = .scalar a.wave a.ent (reg + i))))
  | .done => s.setEnt a.ent e.answered
  | .refusedObject => raise s a.ent (bare 0x50) false e.chainPc
  | .joinMisuse off => raise s a.ent { cause := 0x31, lane := 255, addr := off } false e.chainPc
  | .children cs =>
    let lanes := lanesIn e.mask
    let r := deliverAll deliverChild s (cs.map (fun c => (lanes.getD c.1 0, c.2)))
    match r.2 with
    | none => r.1.setEnt a.ent { e with progress := true }.answered
    | some lane => raise r.1 a.ent { cause := 0x30, lane := lane, addr := 0 } false e.chainPc

/-- R211, R87, R277. BANK_ANSWER: an answer that brings an acquire leaves no older value in the L1. -/
def execBankAnswer (k : Nat) (s : State) : Out :=
  .next (match s.answers[k]? with
    | none => s
    | some a =>
      if covers (s.die (dieOfCore (coreOfKey a.ent))).clock a.needs then
        let s1 := { s with answers := dropNth s.answers k }
        match look s1.ents a.ent with
        | some e =>
          if e.wave = a.wave ∧ e.park = .bank then
            let s2 := answerHist (takeAnswer s1 a e) a.ent a.wave a.block
            if a.needs.isEmpty then s2 else dropL1 s2 (coreOfKey a.ent)
          else s1
        | none => s1
      else s)

/-- R38, R264, R308. WAIT_POLL: an entity without keys tests again after 256 cycles, and its die's statistics count that (assumption 82). A test that
fails is no run (R264, R267, assumption 95). -/
def execWaitPoll (ent : Nat) (s : State) : Out :=
  .next (match look s.ents ent with
    | some e => (match e.park with
      | .poll _ due => if due ≤ s.now then countUp (s.setEnt ent { e with park := .running, retest := true }) (dieOfCore (coreOfKey ent)) ctrPolls else s
      | _ => s)
    | none => s)

/-! ### Closes and drops (R59, R285) -/

/-- R59, R285: no operation of the launch is on its way. -/
def launchQuiet (s : State) (l : Nat) : Bool :=
  let mine := fun w => decide (ownerOf s w = .launch l)
  !(s.cores.any (fun c => c.2.data.held.any (fun h => mine h.wave))) && !(s.homeQ.any (fun o => mine o.wave)) &&
  !(s.bankQ.any (fun o => mine o.wave)) && !(s.passQ.any (fun o => mine o.wave)) && !(s.sends.any (fun o => mine o.wave)) &&
  !(s.packets.any (fun p => decide (p.peer = none) && mine p.wave))

/-- The descriptor of a launch's k-th bound object. -/
def boundLine (s : State) (v : Launch) (k : Nat) : Option (Nat × Nat) :=
  (v.record.objs[k]?).bind (fun o => objNamed s v.asid (BitVec.ofNat 32 o.1))

/-- R59: the close of a bound object, and what the completion reports of it. -/
def closeObject (s : State) (l : Nat) (v : Launch) (k : Nat) : State :=
  let note := fun (s : State) (r : Dword × Word) => s.setLaunch l { v with closed := v.closed ++ [k], final := v.final ++ [r] }
  match boundLine s v k with
  | none => note s (0, 0)
  | some (off, x) =>
    let y := objSet (discardPass x) .ldone 1
    note (wakeLine (objWrite s off y) off) (BitVec.ofNat 64 (objGet y .version), BitVec.ofNat 32 (objGet y .quality))

/-- R59, R247: a launch has stopped: cut, or every gang retired and every spawned wave drained, with no child left to start. -/
def launchOver (s : State) (l : Nat) (v : Launch) : Bool :=
  decide (v.phase = .stopped) ||
  (decide (v.phase = .running) && decide (v.retired = gangTotal v.record) && v.spillRing.isEmpty &&
   !(s.waves.any (fun w => decide (w.2.owner = .launch l) && !w.2.ended)) &&
   !(s.pavs.any (fun p => p.2.bins.any (fun b => b.2.children.any (fun c => decide (c.owner = .launch l))))))

/-- R234: the dispatch core of a queue. -/
def ownCore (queue : Nat) : Nat := queue / 512

/-- R271: the dispatch core that serves a queue now, if one does. -/
def servedBy (s : State) (queue : Nat) : Option Nat :=
  let c := ownCore queue
  if !(s.dispatch.halted.getD c false) then some c
  else if !(s.dispatch.halted.getD (1 - c) false) then some (1 - c) else none

/-- R238: the 128 bits of a journal record. -/
def journalBits (j : Journal) : Nat :=
  pack [(80, 48, j.tick), (48, 32, j.gang), (16, 32, j.lid), (6, 10, j.queue), (5, 1, j.dc), (0, 4, j.kind)]

/-- R238, R78: where a dispatch core's n-th journal record stands in its half of the ring in unit 39 of die 0 (assumption 64). -/
def journalAt (dc n : Nat) : Nat := 0x27000000 + dc * 2 ^ 19 + 16 * (n % 2 ^ 15)

/-- R238: where its mirror stands: in the last MiB of die 0's HBM (assumption 64). -/
def mirrorAt (dc n : Nat) : Nat := 0x2540BE4000 - 2 ^ 20 + dc * 2 ^ 19 + 16 * (n % 2 ^ 15)

/-- R238: a dispatch core appends a record to its half of the ring and to the mirror. -/
def journal (s : State) (kind lid queue gang : Nat) : State :=
  let j : Journal := { tick := s.tick, gang := gang, lid := lid, queue := queue, dc := (servedBy s queue).getD 0, kind := kind }
  let n := (s.dispatch.journal.filter (fun x => decide (x.dc = j.dc))).length
  let s1 := hostWrite s (mirrorAt j.dc n) (leBytes 16 (journalBits j))
  { s1 with
    orangery := wrN s.orangery (journalAt j.dc n) 16 (journalBits j), dispatch := { s.dispatch with journal := s.dispatch.journal ++ [j] } }

/-- R238: "launch complete" is journalled before the first close is sent. -/
def noteComplete (s : State) (v : Launch) : State :=
  if v.closed.isEmpty then journal s 3 v.record.lid v.queue 0xFFFFFFFF else s

/-- R59, R271. OBJECT_CLOSE: of a launch that has stopped, once its operations have arrived; objects in ascending order. A dispatch core sends it. -/
def execObjectClose (launch k : Nat) (s : State) : Out :=
  .next (match look s.launches launch with
    | none => s
    | some v =>
      if (servedBy s v.queue).isSome = true ∧ launchOver s launch v = true ∧ v.bound = true ∧ k = v.closed.length ∧ k < v.record.objs.length ∧ launchQuiet s launch = true then
        closeObject (noteComplete s v) launch v k
      else s)

/-- R285: a drop of an object's open pass. -/
def dropPass (x : Nat) : Nat := if objGet x .open' = 1 then objSet (discardPass x) .poison 1 else x

/-- R285. OBJECT_DROP: with the last drop the whole launch is placed again, with RESUME one above object 0's version; a launch without objects
is placed again once it is quiet. -/
def execObjectDrop (launch k : Nat) (s : State) : Out :=
  .next (match look s.launches launch with
    | none => s
    | some v =>
      if v.phase ≠ .dropping ∨ k ≠ v.dropped.length ∨ launchQuiet s launch = false then s
      else if v.record.objs.length ≤ k then restartLaunch s launch
      else
        let s1 := match boundLine s v k with
          | some (off, x) => objWrite s off (dropPass x)
          | none => s
        let s2 := s1.setLaunch launch { v with dropped := v.dropped ++ [k] }
        if k + 1 = v.record.objs.length then
          let resume := match boundLine s2 v 0 with | some (_, x) => BitVec.ofNat 32 (objGet x .version + 1) | none => v.record.resume
          restartLaunch (s2.modLaunch launch (fun v => { v with record := { v.record with resume := resume } })) launch
        else s2)

/-! ### Code invalidation (R151, R152) -/

/-- R151: the entity's earlier writes, and those that it had read on its core, have reached their points of coherence. -/
def writesOut (s : State) (i : Icinv) : Bool :=
  let mine := fun (ent wave serial : Nat) => ownOp s i.ent i.wave ent wave serial && decide (serial < i.serial)
  !((s.core (coreOfKey i.ent)).data.held.any (fun h => mine h.ent h.wave h.serial)) &&
  !(s.homeQ.any (fun o => mine o.ent o.wave o.serial)) && !(s.bankQ.any (fun o => mine o.ent o.wave o.serial))

/-- R151: lines and runs fetched ahead of an address space's range are dropped in every core; no strike brings a run buffer back, but for the
word that an entity is executing while it waits for its bank's answer. -/
def dropCode (s : State) (asid base len : Nat) (all : Bool) : State :=
  let hit := fun (a n : Nat) => all || (decide (a < base + len) && decide (base < a + n))
  { s with
    cores := s.cores.map (fun c => (c.1, { c.2 with icache := c.2.icache.filter (fun l => !(decide (l.asid = asid) && hit l.va 64)) }))
    hist := s.hist.map (fun h => { h with ents := h.ents.map (fun e => (e.1, { e.2 with buf := if e.2.park = .bank then e.2.buf.take 1 else [] })) })
    ents := s.ents.map (fun e => (e.1,
      if e.2.boundary && (match look s.waves e.2.wave with | some w => decide (w.asid = asid) | none => false) then { e.2 with buf := [] } else e.2)) }

/-- R152: an entity held by IFENCE goes on when none of its invalidations is left. -/
def releaseIfence (s : State) (ent wave : Nat) : State :=
  if s.icinvs.any (fun i => decide (i.ent = ent) && decide (i.wave = wave)) then s
  else s.modEnt ent (fun e => if e.wave = wave ∧ e.park = .icinv then e.resumeAt e.resume else e)

/-- R151. ICINV_COMPLETE: first the epoch of the entity's die closes behind its writes; once every die has applied it, the lines go. -/
def execIcinvComplete (k : Nat) (s : State) : Out :=
  .next (match s.icinvs[k]? with
    | none => s
    | some i =>
      if i.clock.isEmpty then
        if writesOut s i then
          let d := dieOfCore (coreOfKey i.ent)
          let s1 := closeEpoch s d
          { s1 with icinvs := setNth s1.icinvs k { i with clock := (s1.die d).clock } }
        else s
      else if appliedEverywhere s i.clock then
        releaseIfence (dropCode { s with icinvs := dropNth s.icinvs k } i.asid i.base i.len i.all) i.ent i.wave
      else s)

end Sys2Proof.Machine
end

