-- ==== Sys2Proof/Machine/Memory.lean ====
section
/-! DEFINITION. Lane-wise and scalar loads and stores (R174 to R178): majors 0x20 to 0x24. -/

namespace Sys2Proof.Machine

open Sys2Proof

/-! ### Global memory -/

/-- R123, R124: what VLD and VST accept. -/
def accGlobal : Accept := { pneg := true, scope := true, ch := true }

/-- R174, R175: a lane-wise load; an acquire holds the entity's later accesses until it returns (R86). -/
def execVld (e : Bool) (d a b : Reg) (q : Bool) (t p : BitVec 3) (s : State) : Out :=
  issue { e := e, ops := [dField true t.toNat d, oS2 a, oV b, oP p], acc := accGlobal, dst := 1 }
    (fun c => globalTraps c .read (typeSize t.toNat) (laneAddrs c (c.active p) a b))
    (fun c => globalWord c .read false (laneAddrs c (c.active p) a b) (loadRequest c t.toNat q d.toNat)) s

/-- The value a lane stores under a memory type. -/
def laneValue (c : Ctx) (t : Nat) (d : Reg) (i : Nat) : Nat :=
  if t = 5 then (c.v.rVPair d.toNat i).toNat else (c.v.rV d.toNat i).toNat

/-- R86: a store that may be a release. -/
def releasing (c : Ctx) (q : Bool) (f : Ctx → Res) : Res := if q then afterRelease c (c.scope 4) f else f c

/-- R174, R175: a lane-wise store. -/
def execVst (e : Bool) (d a b : Reg) (q : Bool) (t p : BitVec 3) (s : State) : Out :=
  issue { e := e, ops := [dField true t.toNat d, oS2 a, oV b, oP p], acc := accGlobal, prog := true }
    (fun c => globalTraps c .write (typeSize t.toNat) (laneAddrs c (c.active p) a b))
    (fun c => releasing c q (fun c =>
      globalWord c .write true (laneAddrs c (c.active p) a b) (eachLine (storeHeld c t.toNat (fun x => laneValue c t.toNat d x.lane))))) s

/-! ### Scratchpad -/

/-- One thread access to scratchpad: lane (255 for the scalar unit) and address in the form's space. -/
abbrev SpadAcc := Nat × Nat

/-- R174: the addresses of active lanes. -/
def spadAddrs (c : Ctx) (act : Lanes) (a b : Reg) : List SpadAcc :=
  (lanesIn act).map (fun i => (i, (c.e.rS a.toNat + c.v.rV b.toNat i).toNat))

/-- R71, R72, R175, R224: the causes of a scratchpad word. -/
def spadCauses (c : Ctx) (gang : Bool) (w : Nat) (as : List SpadAcc) : List Trap := as.flatMap (fun x => spadTraps c gang w x.1 x.2)

/-- R74: a frame the word touches is held by an engine or a copy, or an acquire of the entity has not returned (R86). -/
def spadWait (c : Ctx) (gang : Bool) (w : Nat) (as : List SpadAcc) : Bool :=
  c.acquiring || as.any (fun x => match threadAt c gang w x.2 with | some p => frameBusy c.s p.core p.byte | none => false)

/-- R175: the values read, as registers hold them. -/
def spadValues (c : Ctx) (gang : Bool) (t : Nat) (as : List SpadAcc) : NMap Dword :=
  let w := typeSize t
  as.map (fun x => (x.1, match threadAt c gang w x.2 with
    | some p => extend w (typeSigned t) (spadRead c.s c.core p w)
    | none => 0))

/-- R275: the first poisoned granule that a load would consume, by its byte in its core's scratchpad. -/
def spadPoison (c : Ctx) (gang : Bool) (w : Nat) (as : List SpadAcc) : Option Nat :=
  as.findSome? (fun x => (threadAt c gang w x.2).bind (fun p => spadMeets c.s c.core p.core p.byte w))

/-- R86, R278: what the reads of the word tie its entity and its core to: held writes of its core, and provisional bytes of other cores. -/
def linkAll (c : Ctx) (gang : Bool) (w : Nat) (as : List SpadAcc) (s : State) : State :=
  as.foldl (fun s x => match threadAt c gang w x.2 with
    | some p => observe (noteLink s c.core p.core p.byte w) c.k c.e.wave
        (if p.core = c.core then [] else othersSeen c.k c.e.wave p.byte w (scratchStores c.s c.core p.core))
    | none => s) s

/-- R267: the fold of loaded words. -/
def foldOf (wide : Bool) (vs : NMap Dword) : Word :=
  vs.foldl (fun (r : Word) (v : Nat × Dword) => r ^^^ v.2.setWidth 32 ^^^ (if wide then (v.2 >>> 32).setWidth 32 else 0)) 0

/-- R174, R175: a lane-wise scratchpad load. -/
def laneSpadLoad (gang : Bool) (e : Bool) (d a b : Reg) (t p : BitVec 3) : State → Out :=
  issue { e := e, ops := [dField true t.toNat d, oS a, oV b, oP p], acc := { pneg := true, scope := true }, dst := 1 }
    (fun c => spadCauses c gang (typeSize t.toNat) (spadAddrs c (c.active p) a b))
    (fun c =>
      let as := spadAddrs c (c.active p) a b
      if spadWait c gang (typeSize t.toNat) as then .stall
      else if let some p := spadPoison c gang (typeSize t.toNat) as then .left (consume c.s c.e.wave c.core 1 p)
      else
        let vs := spadValues c gang t.toNat as
        let f := fun i => (look vs i).getD 0
        let v := if t = 5 then c.v.wVPair d.toNat (c.active p) f else c.v.wV d.toNat (c.active p) (fun i => (f i).setWidth 32)
        let s1 := (c.s.setWave c.e.wave v).setEnt c.k { c.e with fold := c.e.fold ^^^ foldOf (decide (t = 5)) vs }
        .done (linkAll c gang (typeSize t.toNat) as s1))

/-- The cores whose scratchpads a list of accesses falls in, with the bytes where the lanes of one beat stand there. -/
def beatPlaces (c : Ctx) (gang : Bool) (w b : Nat) (as : List SpadAcc) : List (Nat × List Nat) :=
  let ps := (as.filter (fun x => decide (x.1 % 255 / 32 = b))).filterMap (fun x => threadAt c gang w x.2)
  ((ps.map (fun p => p.core)).eraseDups).map (fun core => (core, (ps.filter (fun p => decide (p.core = core))).map (fun p => p.byte)))

/-- R275: granules that the lanes of one beat of a store to the own core's scratchpad write whole between them. -/
def cleanBeats (c : Ctx) (gang : Bool) (w : Nat) (as : List SpadAcc) (s : State) : State :=
  if s.poison.isEmpty then s
  else (List.range 3).foldl (fun s b => (beatPlaces c gang w b as).foldl (fun s x =>
    if x.1 = c.core then cleanAccess s x.1 x.2 w else s) s) s

/-- R175: stores of a list of accesses in order, as one place in program order. -/
def spadStores (c : Ctx) (gang : Bool) (w : Nat) (value : Nat → Nat) (as : List SpadAcc) (s : State) : State :=
  State.bump (cleanBeats c gang w as (as.foldl (fun s x => match threadAt c gang w x.2 with
    | some p => threadStore s c.k c.e.wave x.1 p (leBytes w (value x.1))
    | none => s) s))

/-- R174, R175, R275: a lane-wise scratchpad store. -/
def laneSpadStore (gang : Bool) (e : Bool) (d a b : Reg) (t p : BitVec 3) : State → Out :=
  issue { e := e, ops := [dField true t.toNat d, oS a, oV b, oP p], acc := { pneg := true, scope := true }, prog := true }
    (fun c => spadCauses c gang (typeSize t.toNat) (spadAddrs c (c.active p) a b))
    (fun c =>
      let as := spadAddrs c (c.active p) a b
      let w := typeSize t.toNat
      if spadWait c gang w as then .stall else .done (spadStores c gang w (laneValue c t.toNat d) as c.s))

/-- R174. -/
def execVlds (e : Bool) (d a b : Reg) (t p : BitVec 3) (s : State) : Out := laneSpadLoad false e d a b t p s

/-- R174. -/
def execVsts (e : Bool) (d a b : Reg) (t p : BitVec 3) (s : State) : Out := laneSpadStore false e d a b t p s

/-- R174, R72. -/
def execVldsG (e : Bool) (d a b : Reg) (t p : BitVec 3) (s : State) : Out := laneSpadLoad true e d a b t p s

/-- R174, R72. -/
def execVstsG (e : Bool) (d a b : Reg) (t p : BitVec 3) (s : State) : Out := laneSpadStore true e d a b t p s

/-! ### Scalar forms (R177) -/

/-- R123: Off() of major 0x24. -/
def Ctx.off (c : Ctx) (t : BitVec 3) (b : Reg) : Nat :=
  (match c.e.chain.ximm with | some x => x.toNat * 64 + b.toNat | none => b.toNat) * typeSize t.toNat

/-- R123, R124: what the scalar memory forms accept. -/
def accScalarMem (global : Bool) : Accept := { scope := true, ximm := true, ch := global }

/-- R177: the global address of a scalar form. -/
def scalarAddr (c : Ctx) (a b : Reg) (t : BitVec 3) : List LaneAcc :=
  [{ lane := 255, va := ((c.e.rPair a.toNat).toNat + c.off t b) % 2 ^ 64 }]

/-- The value a scalar store stores. -/
def scalarValue (c : Ctx) (t : BitVec 3) (d : Reg) : Nat := if t = 5 then (c.e.rPair d.toNat).toNat else (c.e.rS d.toNat).toNat

/-- R177. -/
def execSld (e : Bool) (d a b : Reg) (q : Bool) (t : BitVec 3) (s : State) : Out :=
  issue { e := e, ops := [dField false t.toNat d, oS2 a], acc := accScalarMem true, dst := 1 }
    (fun c => globalTraps c .read (typeSize t.toNat) (scalarAddr c a b t))
    (fun c => globalWord c .read false (scalarAddr c a b t) (loadRequest c t.toNat q d.toNat)) s

/-- R177. -/
def execSst (e : Bool) (d a b : Reg) (q : Bool) (t : BitVec 3) (s : State) : Out :=
  issue { e := e, ops := [dField false t.toNat d, oS2 a], acc := accScalarMem true, prog := true }
    (fun c => globalTraps c .write (typeSize t.toNat) (scalarAddr c a b t))
    (fun c => releasing c q (fun c =>
      globalWord c .write true (scalarAddr c a b t) (eachLine (storeHeld c t.toNat (fun _ => scalarValue c t d))))) s

/-- R177: the scratchpad address of a scalar form. -/
def scalarSpad (c : Ctx) (a b : Reg) (t : BitVec 3) : List SpadAcc := [(255, ((c.e.rS a.toNat).toNat + c.off t b) % 2 ^ 32)]

/-- R177: a release of a scratchpad store, or of a gang scratchpad store, at its scope (R83). -/
def spadScope (gang : Bool) : Nat := if gang then 2 else 1

/-- R177: a scalar scratchpad load. It returns at once, so an acquire has nothing to hold back; no later load finds an older value in the core's L1
(R86). -/
def scalarSpadLoad (gang : Bool) (e : Bool) (d a b : Reg) (q : Bool) (t : BitVec 3) : State → Out :=
  issue { e := e, ops := [dField false t.toNat d, oS a], acc := accScalarMem false, dst := 1 }
    (fun c => spadCauses c gang (typeSize t.toNat) (scalarSpad c a b t))
    (fun c =>
      let as := scalarSpad c a b t
      if spadWait c gang (typeSize t.toNat) as then .stall
      else if let some p := spadPoison c gang (typeSize t.toNat) as then .left (consume c.s c.e.wave c.core 1 p)
      else
        let vs := spadValues c gang t.toNat as
        let x := (look vs 255).getD 0
        let e1 := if t = 5 then c.e.wPair d.toNat x else c.e.wS d.toNat (x.setWidth 32)
        let s1 := linkAll c gang (typeSize t.toNat) as (c.s.setEnt c.k { e1 with fold := c.e.fold ^^^ foldOf (decide (t = 5)) vs })
        .done (if q then afterAcquire s1 c.core (c.scope (spadScope gang)) else s1))

/-- R177: a scalar scratchpad store. -/
def scalarSpadStore (gang : Bool) (e : Bool) (d a b : Reg) (q : Bool) (t : BitVec 3) : State → Out :=
  issue { e := e, ops := [dField false t.toNat d, oS a], acc := accScalarMem false, prog := true }
    (fun c => spadCauses c gang (typeSize t.toNat) (scalarSpad c a b t))
    (fun c =>
      let as := scalarSpad c a b t
      let w := typeSize t.toNat
      if spadWait c gang w as then .stall
      else
        let go := fun (c : Ctx) => Res.done (spadStores c gang w (fun _ => scalarValue c t d) as c.s)
        if q then afterRelease c (c.scope (spadScope gang)) go else go c)

/-- R177. -/
def execSlds (e : Bool) (d a b : Reg) (q : Bool) (t : BitVec 3) (s : State) : Out := scalarSpadLoad false e d a b q t s

/-- R177. -/
def execSsts (e : Bool) (d a b : Reg) (q : Bool) (t : BitVec 3) (s : State) : Out := scalarSpadStore false e d a b q t s

/-- R177, R72. -/
def execSldsG (e : Bool) (d a b : Reg) (q : Bool) (t : BitVec 3) (s : State) : Out := scalarSpadLoad true e d a b q t s

/-- R177, R72. -/
def execSstsG (e : Bool) (d a b : Reg) (q : Bool) (t : BitVec 3) (s : State) : Out := scalarSpadStore true e d a b q t s

end Sys2Proof.Machine
end

