-- ==== Sys2Proof/Machine/Issue.lean ====
section
/-! DEFINITION. Fetch, arbitration and shadow issue (R19 to R21, R140), the end of a pause (R146), asynchronous causes and the watchdogs of
entities (R255, R267, R268), fault records (R260, R304), the end of an entity (R41), and the spill and return of a parent (R33, R34, R264). -/

namespace Sys2Proof.Machine

open Sys2Proof

/-! ### Fetch (R81, R140, R260) -/

/-- What stops a fetch at an address. -/
inductive FetchEnd where
  | word (s : State) (w : Word)
  | unmapped
  | refused (cause : Nat)
  /-- R275: a poisoned line of memory. -/
  | poisoned (addr : Nat)

/-- R7, R64, R81: one word of code: from the core's instruction cache, or from memory with its line. The word that holds the address is read; R259
lists no trap for a program counter that is no multiple of 4 (assumption 96). -/
def fetchWord (s : State) (core asid va : Nat) : FetchEnd :=
  let line := va / 64 * 64
  let c := s.core core
  match c.icache.find? (fun l => decide (l.asid = asid) && decide (l.va = line)) with
  | some l => .word s (l.code.getD (va % 64 / 4) 0)
  | none =>
    let d := dieOfCore core
    let x := xlate s core asid .fetch va
    match x.causes, x.pa with
    | t :: _, _ => .refused t
    | [], none => .unmapped
    | [], some pa =>
      let at' := pa / 64 * 64
      if (memPoison s at').isSome then .poisoned at'
      else
        let code := (List.range 16).map (fun i => BitVec.ofNat 32 (dieLoad s d (at' + 4 * i) 4))
        let s1 := fillTlb s core x.entry.toList
        let c1 := s1.core core
        .word (s1.setCore core { c1 with icache := cacheAdd Config.icacheLines s.fresh c1.icache { asid := asid, va := line, code := code } })
          (code.getD (va % 64 / 4) 0)

/-- R19: the word ends its run whatever comes of it. -/
def endsRun (w : Word) : Bool :=
  w.msb || (match decode w with
    | some (.bar _) | some (.gbar _) | some (.rcv _) | some (.pause _ _) | some (.gfence _) | some (.twait _ _) | some (.tany _ _)
    | some (.join _ _) | some (.fld _ _ _ _) | some (.pass _ _ _) | some (.qwaitQual _ _ _ _) | some (.qwaitVer _ _ _ _)
    | some (.qwaitDone _ _ _) | some (.cwait _ _ _) | some (.cwaitOut _) => true
    | _ => false)

/-- R19, R140: the words of a run from an address, at most n, with what stopped them if they are none. -/
def gatherRun (core asid : Nat) : Nat → State → Nat → State × List Word × FetchEnd
  | 0, s, _ => (s, [], .unmapped)
  | n + 1, s, va =>
    match fetchWord s core asid va with
    | .word s1 w =>
      if endsRun w then (s1, [w], .unmapped) else let r := gatherRun core asid n s1 (va + 4); (r.1, w :: r.2.1, r.2.2)
    | o => (s, [], o)

/-- R140, R260. RUN_FETCH: a run, or what is left of one, is fetched; a fetch that reaches no word parks or traps at its chain. -/
def execRunFetch (ent : Nat) (s : State) : Out :=
  .next (match look s.ents ent with
    | none => s
    | some e =>
      if e.park ≠ .running ∨ e.buf ≠ [] ∨ heldByGen s ent e = true then s
      else
        let asid := ((look s.waves e.wave).map (fun v => v.asid)).getD 0
        match gatherRun (coreOfKey ent) asid (Config.runLength - e.words) s e.pc.toNat with
        | (s1, w :: ws, _) => s1.setEnt ent { e with buf := w :: ws }
        | (s1, [], .poisoned addr) => consume s1 e.wave (coreOfKey ent) (memUnit addr) addr
        | (s1, [], .refused cause) => raise s1 ent { cause := cause, lane := 255, addr := e.pc.toNat } false e.chainPc
        | (s1, [], _) => parkEntity s1 ent asid .fetch e.mask [e.pc.toNat])

/-! ### Arbitration (R19 to R21) -/

/-- The entity whose run an issue slot has under way. -/
def runHolder (s : State) (core slot : Nat) : Option Nat :=
  match look (s.core core).holder slot with
  | none => none
  | some f =>
    let k := 32 * core + 8 * slot + f
    match look s.ents k with | some e => if e.boundary then none else some k | none => none

/-- R255: the first cause that can be delivered: at handler level only HANG. -/
def deliverable (e : Entity) : Option AsyncCause := if e.level then e.pending.find? (fun c => decide (c.cause = 0x70)) else e.pending.head?

/-- R255, R263: the entity may take an asynchronous cause now: at a run boundary, or parked on an instruction that it leaves; not before a replay
that a page fault owes has completed. -/
def asyncOpen (s : State) (k : Nat) (e : Entity) : Bool :=
  match e.park with
  | .running => e.boundary && !(heldByGen s k e) && !e.replay
  | .rcv => false
  | .fault _ => false
  | .exited => false
  | _ => e.boundary && !e.replay

/-- R255: a cause of the entity is due: its handler is entered before anything else of it issues. -/
def causeDue (s : State) (k : Nat) (e : Entity) : Bool := (deliverable e).isSome && (e.level || asyncOpen s k e)

/-- R20, R244, R255, R257: the ready entity that the slot chooses next; none that is being halted, or for which a cause is due. -/
def nextReady (s : State) (core slot : Nat) : Option Nat :=
  let first := match look (s.core core).lastSlot slot with | some f => f + 1 | none => 0
  ((List.range 8).map (fun i => 32 * core + 8 * slot + (first + i) % 8)).find? (fun k =>
    match look s.ents k with | some e => e.ready s k && !(haltedEnt s k e) && !(causeDue s k e) | none => false)

/-- R21, R126, R178: the word is a scalar instruction, and no prefix: of majors 0x01 to 0x0C, 0x24, 0x34 or 0x37, or SATOM. -/
def scalarWordOf (w : Word) : Bool :=
  let op := (fld w 25 6).toNat
  (decide (1 ≤ op) && decide (op ≤ 12)) || decide (op = 0x24) || decide (op = 0x34) || decide (op = 0x37) ||
  (match decode w with | some (.satom _ _ _ _ _ _) => true | _ => false)

/-- R15, R21, R178, R217: the word holds the vector unit: a lane-wise instruction, an Orangery instruction, VATOM, FLD, FST or SPAWN. -/
def vectorWordOf (w : Word) : Bool :=
  let op := (fld w 25 6).toNat
  (decide (0x10 ≤ op) && decide (op ≤ 0x23)) || decide (op = 0x26) || decide (op = 0x32) ||
  (match decode w with | some (.vatom _ _ _ _ _ _) | some (.fld _ _ _ _) | some (.fst _ _ _ _) => true | _ => false)

/-- R71: the cycles that one beat of scratchpad accesses takes: the most distinct words of 8 bytes in one bank, of one core. -/
def beatCycles (ps : List SpadAt) : Nat :=
  let words := (ps.map (fun p => (p.core, p.byte / 8))).eraseDups
  words.foldl (fun n x => max n ((words.filter (fun y => decide (y.1 = x.1) && decide (y.2 % 32 = x.2 % 32))).length)) 1

/-- R71, R178: the cycles of the three beats of a scratchpad word. -/
def spadHold (c : Ctx) (gang : Bool) (t : BitVec 3) (as : List SpadAcc) : Nat :=
  (List.range 3).foldl (fun n b =>
    n + beatCycles ((as.filter (fun x => decide (x.1 / 32 = b))).filterMap (fun x => threadAt c gang (typeSize t.toNat) x.2))) 0

/-- R15, R178, R197: the cycles for which an entity's word holds the vector unit of its slot: 3 for a vector instruction, more where lanes of a
scratchpad access meet in a bank, and 3 for each register that an MMA reads. -/
def vectorHold (s : State) (k : Nat) (w : Word) : Nat :=
  match (look s.ents k).bind (fun e => (look s.waves e.wave).map (fun v => ({ s := s, k := k, e := e, v := v } : Ctx))) with
  | none => 0
  | some c =>
    match decode w with
    | some (.vlds _ _ a b t p) => spadHold c false t (spadAddrs c (c.active p) a b)
    | some (.vsts _ _ a b t p) => spadHold c false t (spadAddrs c (c.active p) a b)
    | some (.vldsG _ _ a b t p) => spadHold c true t (spadAddrs c (c.active p) a b)
    | some (.vstsG _ _ a b t p) => spadHold c true t (spadAddrs c (c.active p) a b)
    | some (.mma _ z a b) => ((stepsIssue c .steps true false 1 1 z a b).vregs.map (fun o => 3 * o.len)).foldl (fun n x => n + x) 0
    | _ => if vectorWordOf w then 3 else 0

/-- R21: while the vector unit is held, in a cycle the run holder cannot use, the shadow entity's next scalar word issues. -/
def shadowOf (s : State) (core slot k : Nat) : Option Nat :=
  match look s.ents k with
  | none => none
  | some e =>
    let stuck := e.stalled.isSome || !(scalarWordOf (e.buf.headD 0)) || e.buf.isEmpty
    if s.now < (look (s.core core).vec slot).getD 0 ∧ stuck = true then
      (nextReady s core slot).filter (fun x => decide (x ≠ k) && (match look s.ents x with
        | some y => scalarWordOf (y.buf.headD 0) && y.chain.isEmpty
        | none => false))
    else none

/-- R20. The slot starts the run of an entity. -/
def startHolder (s : State) (core slot k : Nat) : State :=
  let c := s.core core
  let s1 := s.setCore core { c with holder := put c.holder slot (k % 8), lastSlot := put c.lastSlot slot (k % 8) }
  { (s1.modEnt k (fun e => { e with boundary := false })) with focus := some k }

/-- R20, R21. RUN_ARBITRATION: at a run boundary the slot chooses its next run; within a run the turn goes to the run holder, or, from it, to
the shadow entity. -/
def execRunArbitration (core slot : Nat) (s : State) : Out :=
  .next (match runHolder s core slot with
    | none => match nextReady s core slot with
      | some k => startHolder s core slot k
      | none => s
    | some k =>
      match if s.focus = some k then shadowOf s core slot k else none with
      | some x => { (s.modEnt x (fun e => { e with boundary := false })) with focus := some x }
      | none => { s with focus := some k })

/-- R15, R21: a vector instruction of the run holder that has issued holds the slot's vector unit from its issue for `hold` cycles (assumption 4);
after a word of the shadow entity the turn is the run holder's again. -/
def afterWord (s : State) (k hold : Nat) : State :=
  let core := coreOfKey k
  let slot := slotOfKey k
  let c := s.core core
  let waits := ((look s.ents k).map (fun e => e.stalled.isSome)).getD false
  if look c.holder slot = some (k % 8) then (if hold = 0 ∨ waits = true then s else s.setCore core { c with vec := put c.vec slot (s.now + hold) })
  else match runHolder s core slot with
    | some h => { s with focus := some h }
    | none => s

/-! ### Pauses, asynchronous causes, watchdogs -/

/-- R146. PAUSE_EXPIRY. -/
def execPauseExpiry (ent : Nat) (s : State) : Out :=
  .next (match look s.ents ent with
    | some e => (match e.park with
      | .pause due => if due ≤ coreCycles s (coreOfKey ent) then s.setEnt ent (e.resumeAt e.resume) else s
      | _ => s)
    | none => s)

/-- R265, R268: causes of an entity that has executed EXIT are recorded. -/
def reportPending (s : State) (k w : Nat) (cs : List AsyncCause) : State :=
  cs.foldl (fun s c => if c.cause = 0x40 then remoteFault s k w (ownerOf s w) c.addr.toNat else hangOrRecord s k w (lidOf s (ownerOf s w)) (coreOfKey k)) s

/-- R255: an entity that leaves PASS by a trap drops what it sent and what was answered. -/
def dropPassOf (s : State) (k w : Nat) : State :=
  { s with passQ := s.passQ.filter (fun m => !(decide (m.ent = k) && decide (m.wave = w) && (match m.kind with | .pass _ _ => true | _ => false)))
           answers := s.answers.filter (fun a => !(decide (a.ent = k) && decide (a.wave = w))) }

/-- R255. ASYNC_TRAP_DELIVERY. -/
def execAsyncTrapDelivery (ent : Nat) (s : State) : Out :=
  .next (match look s.ents ent with
    | none => s
    | some e =>
      if e.park = .exited then reportPending (s.setEnt ent { e with pending := [] }) ent e.wave e.pending
      else match deliverable e with
        | none => s
        | some c =>
          if e.level = false ∧ asyncOpen s ent e = false then s
          else
            let s1 := if e.park = .bank then dropPassOf s ent e.wave else s
            raise (s1.setEnt ent { e with pending := e.pending.erase c, park := .running }) ent
              { cause := c.cause.toNat, lane := 255, addr := c.addr.toNat } true e.chainPc)

/-- R267. HANG_RUN_LIMIT: the count starts again when the cause is raised. -/
def execHangRunLimit (ent : Nat) (s : State) : Out :=
  .next (match look s.ents ent with
    | some e =>
      if 2 ^ 20 ≤ e.runs then s.setEnt ent { e with runs := 0, pending := e.pending ++ [{ cause := 0x70, addr := 0 }] } else s
    | none => s)

/-- R268. ISSUE_STALL_WATCHDOG: the chain is abandoned without effect and HANG is taken at it. -/
def execIssueStallWatchdog (ent : Nat) (s : State) : Out :=
  .next (match look s.ents ent with
    | some e => (match e.stalled with
      | some t =>
        if t + 2 ^ 22 ≤ s.now ∧ e.park = .running then raise s ent { cause := 0x70, lane := 255, addr := 0 } true e.chainPc else s
      | none => s)
    | none => s)

/-! ### Fault records (R260 to R262, R304) -/

/-- R261: a page-fault record. -/
def faultRecord (s : State) (die : Nat) (p : ParkRec) (page kind : Nat) : List Byte :=
  leBytes 16 (pack
    [(84, 44, page / 4096), (68, 16, p.id), (61, 7, p.total), (54, 7, p.total - p.waiting.length), (45, 9, p.asid), (38, 7, (s.asid p.asid).fn),
     (35, 3, kind), (32, 3, die), (26, 6, p.core % 64)])

/-- R278: every write that the parked entity produced has left the strike buffer. -/
def parkSent (s : State) (p : ParkRec) : Bool := !((s.core p.core).data.held.any (fun h => decide (h.ent = p.ent)))

/-- A park of a die changed, or withdrawn. -/
def mapParks (s : State) (die : Nat) (f : List ParkRec → List ParkRec) : State :=
  let s1 := s.setDie die { s.die die with parks := f (s.die die).parks }
  { s1 with contexts := s1.contexts.map (fun c => if c.die = die then { c with parks := f c.parks } else c) }

/-- R304: the parks of a die that have a record to send. -/
def parksSending (s : State) (die : Nat) : List ParkRec := (parksOf s die).filter (fun p => !p.waiting.isEmpty)

/-- R304: no park of the package with a record to send is older. -/
def oldestPark (s : State) (p : ParkRec) : Bool := (List.range 8).all (fun d => (parksSending s d).all (fun q => decide (p.order ≤ q.order)))

/-- The gang of a parked entity, or of the block of a parked copy. -/
def parkGang (s : State) (p : ParkRec) : Option Nat :=
  match p.copy with
  | some (b, _) => (look s.blocks b).map (fun b => b.gang)
  | none =>
    let e := match look s.ents p.ent with | some e => some e | none => s.contexts.findSome? (fun (c : Context) => look c.ents p.ent)
    e.bind (fun e => gangOfWave s e.wave)

/-- R260, R278, R283, R304. FAULT_RECORD_WRITE: the oldest waiting record of the package, once the FAULT ring has room and every write that its entity
produced before it has left the strike buffer. The sending is a committing operation of the gang. -/
def execFaultRecordWrite (die : Nat) (s : State) : Out :=
  .next (
    match (parksSending s die).find? (fun p => oldestPark s p && parkSent s p) with
    | none => s
    | some p => match p.waiting with
      | [] => s
      | (page, kind) :: rest =>
        if ringFull s 1 then s
        else
          let s1 := mapParks s die (fun l => l.map (fun q => if q.id = p.id then { q with waiting := rest } else q))
          let s2 := match parkGang s p with | some g => s1.modGang g (fun q => { q with ie := true, iex := true }) | none => s1
          ringPush s2 1 (faultRecord s die p page kind))

/-! ### The end of an entity (R41, R77) -/

/-- R41, R77: its copies and its posted stores have been acknowledged. -/
def drained (s : State) (k : Nat) (e : Entity) : Bool :=
  quiet s k e.wave && !(s.cores.any (fun c => c.2.data.copies.any (fun x => decide (x.ent = k) && decide (x.wave = e.wave))))

/-- R41, R277. DRAIN_COMPLETE: once no strike can undo its EXIT the entity goes; with its wave's last the wave ends (R32, R39). -/
def execDrainComplete (ent : Nat) (s : State) : Out :=
  .next (match look s.ents ent with
    | none => s
    | some e =>
      if e.park ≠ .exited ∨ drained s ent e = false ∨ parkedFor s ent e = false then s
      else
        let s1 := forget (reportPending (s.setEnt ent { e with pending := [] }) ent e.wave e.pending) ent
        let s2 : State := { s1 with ents := erase s1.ents ent, focus := if s1.focus = some ent then none else s1.focus }
        if (entsOf s2 e.wave).isEmpty && !(isSpilled s2 e.wave) then pruneTrees (endWave s2 e.wave false) else s2)

/-! ### Parents (R33, R34, R264) -/

/-- R33: the offset of the join object that an entity waits on. -/
def joinOffset (e : Entity) : Option Nat := match e.park with | .wait j _ => j | .poll j _ => j | _ => none

/-- R264, R256: a spill that finds no room. -/
def spillFull (s : State) (k : Nat) (e : Entity) (v : Wave) : State :=
  let s1 := eventRecord s (lidOf s v.owner) 5 0 (coreOfKey k) 0
  match v.owner with
  | .launch l => faultPath s1 l e.wave (coreOfKey k) 0
  | .tree _ => stopTreeWave s1 k e.wave 0 0 0

/-- R33, R277: an entity of a parent that can be spilled: on JOIN, or with nothing to do before one that is goes on; nothing of it is under way, and
no strike can move it. -/
def parentIdle (s : State) (k : Nat) (e : Entity) : Bool :=
  ((joinOffset e).isSome || decide (e.park = .rcv) || (heldByGen s k e && e.boundary && decide (e.park = .running))) && quiet s k e.wave &&
  parkedFor s k e &&
  (snapsOf s (coreOfKey k)).all (fun h => match look h.ents k with | some x => decide (x.wave ≠ e.wave) || decide (x.pc = e.pc) | none => true)

/-- R33: the state without a parent's fetch slots and registers, the parent at a place of its spill area. -/
def withoutParent (s : State) (w pav place : Nat) : State :=
  let es := entsOf s w
  let s1 := es.foldl (fun s e => forget s e.1) s
  { s1 with
    ents := s1.ents.filter (fun e => decide (e.2.wave ≠ w))
    focus := match s1.focus with | some k => if es.any (fun e => decide (e.1 = k)) then none else some k | none => none
    spilled := s1.spilled ++ [{ pav := pav, waveId := w, place := place, ents := es }] }

/-- R33: the bytes of a parent are written to its place behind the ring; their layout is the device's own (assumption 80). -/
def writeParent (s : State) (die : Nat) (o : Owner) (place : Nat) : State :=
  let base := (spillArea s o).2 + place * parentBytes
  (List.range (parentBytes / 32)).foldl (fun s i =>
    spillWrite s die o (base + 32 * i) ((List.range 32).map (fun j => Config.spillByte (s.fresh * 32 + j)))) s

/-- R33, R34. PARENT_SPILL: a parent on JOIN gives up its registers and fetch slots to a child that waits for them. -/
def execParentSpill (ent : Nat) (s : State) : Out :=
  .next (match look s.ents ent with
    | none => s
    | some e => match look s.waves e.wave, joinOffset e with
      | some v, some _ =>
        let pav := pavOfCore (coreOfKey ent)
        if (entsOf s e.wave).all (fun x => parentIdle s x.1 x.2) = false ∨ childStarved s (withoutParent s e.wave pav 0) pav = false then s
        else match spillPlace s v.owner with
          | none => spillFull s ent e v
          | some place => writeParent (withoutParent s e.wave pav place) (pav / 4) v.owner place
      | _, _ => s)

/-- R241: fetch slots for n entities of one wave in one issue slot of a core, beginning at an issue slot. -/
def slotKeys (s : State) (core slot n : Nat) : Option (List Nat) :=
  let used := usedKeys s
  let free := fun (i : Nat) => ((List.range 8).map (fun f => 32 * core + 8 * i + f)).filter (fun k => !(used.contains k))
  (((List.range 4).map (fun j => free ((slot + j) % 4))).find? (fun l => decide (n ≤ l.length))).map (fun l => l.take n)

/-- R33: what a core keeps for waves of a spawned or handler wave's owner: child waves and the registers of each. -/
def ownReserve (s : State) (core : Nat) (v : Wave) : Nat × Nat :=
  match v.kind, v.owner with
  | .block, _ => (0, 0)
  | _, .launch l => if (launchesOn s core).contains l then reserveLeft s core (.launch l) else (0, 0)
  | _, .tree t => ((look s.trees t).map (fun x => rxReserveLeft s core x.rxq)).getD (0, 0)

/-- R33: what no wave uses and no reserve keeps, the reserve that a block brings to a core among them. -/
def waveFree (s : State) (core : Nat) (v : Wave) : Int × Int :=
  match v.kind, v.owner with
  | .block, .launch l => ((look s.launches l).map (fun x => blockFree s l x core)).getD (ordinaryFree s core)
  | _, _ => ordinaryFree s core

/-- R28, R281: a core other than its own may take a parent's block: it is not marked, and holds fewer than 8 blocks of launches. -/
def mayMove (s : State) (v : Wave) (core : Nat) : Bool :=
  (s.core core).marked.isNone && (decide (v.kind ≠ .block) || decide ((blocksOn s core).length < 8))

/-- R33, R34: how a parent of `n` entities can come back to a core: in ordinary resources (`some false`), in its owner's reserve, with its first
entity in the reserve's fetch slot (`some true`), or not. -/
def parentRoom (s : State) (v : Wave) (b : Block) (n core : Nat) : Option Bool :=
  let f := waveFree s core v
  let r := ownReserve s core v
  if (slotKeys s core 0 n).isNone ∨ asidFree s core v.asid = false ∨ s.mgmt.fences.contains core = true ∨ (s.core core).testing = true ∨
      (core ≠ b.core ∧ mayMove s v core = false) then none
  else if (n : Int) ≤ f.1 ∧ (v.vlimit : Int) ≤ f.2 then some false
  else if 1 ≤ r.1 ∧ v.vlimit ≤ r.2 ∧ (n : Int) ≤ f.1 + 1 ∧ regsUsed s core + v.vlimit ≤ coreRegs then some true
  else none

/-- R33: a core of the pavilion for a parent, ordinary resources before a reserve. A wave of a block with scratchpad, with another wave, or of a
gang of several blocks, whose map entry may not change while another block runs (R29), comes back to its block's core (assumption 45). -/
def parentCore (s : State) (p : Spilled) (v : Wave) (b : Block) : Option (Nat × Bool) :=
  let alone := decide (b.frames = 0) && decide (b.nwaves ≤ 1) && (((look s.gangs b.gang).map (fun g => decide (g.blocks.length = 1))).getD false)
  let cores := if alone then b.core :: ((List.range 16).map (fun i => 16 * p.pav + i)) else [b.core]
  let rooms := cores.filterMap (fun c => (parentRoom s v b p.ents.length c).map (fun r => (c, r)))
  match rooms.find? (fun r => !r.2) with | some r => some r | none => rooms.head?

/-- A pair record whose partner has another key. -/
def Pair.rekey (ren : Nat → Nat) (p : Pair) : Pair :=
  { p with mode := match p.mode with | .detached x stays => .detached (ren x) stays | m => m }

/-- R33, R192, R308: a parent stands on a core again, its entities under new keys; those on JOIN test again. On another core where nothing is
resident it finds tiles and ASNs of zero. -/
def bringBack (s : State) (p : Spilled) (b : Block) (core : Nat) (reserved : Bool) (keys : List Nat) : State :=
  let ren := fun x => (((p.ents.map (fun e => e.1)).zip keys).find? (fun y => decide (y.1 = x))).elim x (fun y => y.2)
  let ents := p.ents.foldl (fun m x => put m (ren x.1) { x.2 with
    park := if (joinOffset x.2).isSome then .running else x.2.park, buf := [], pairs := x.2.pairs.map (Pair.rekey ren) }) s.ents
  let old := ((p.ents.head?).map (fun e => coreOfKey e.1)).getD core
  let s0 := if b.core = core then s else clearTiles s core
  let s1 := (adoptAll { s0 with ents := ents } old p.waveId ren).modWave p.waveId (fun v => { v with
    reserved := reserved
    gen := v.gen.map (fun g => { g with holder := ren g.holder, held := g.held.map ren }) })
  if b.core = core then s1
  else dropL1 (((look s.waves p.waveId).elim s1 (fun v => s1.modBlock v.block (fun b => { b with core := core }))).modGang b.gang (fun g =>
    { g with cores := setNth g.cores b.rank (core % 16) })) core

/-- R33. PARENT_RESTORE: when a count that it waits for is zero the parent is ready to test again, on a core of its pavilion. -/
def execParentRestore (k : Nat) (s : State) : Out :=
  .next (match s.spilled[k]? with
    | none => s
    | some p => match look s.waves p.waveId with
      | none => s
      | some v => match look s.blocks v.block with
        | none => s
        | some b =>
          if p.ents.any (fun x => ((joinOffset x.2).map (fun off => decide (rdN s.orangery off 4 = 0))).getD false) = false ∨
              resident s b = false ∨ (s.pav p.pav).halting = true then s
          else
            let slot := ((p.ents.head?).map (fun e => slotOfKey e.1)).getD 0
            match (parentCore s p v b).bind (fun r => (slotKeys s r.1 slot p.ents.length).map (fun keys => (r, keys))) with
            | none => s
            | some r => bringBack { s with spilled := dropNth s.spilled k } p b r.1.1 r.1.2 r.2)

end Sys2Proof.Machine
end

