-- ==== Sys2Proof/Machine/Errors.lean ====
section
/-! DEFINITION. Strikes and their rollback (R277 to R279), containment by an error (R275, R284), scrubbing (R276), self-test and fencing
(R281, R282), the monitors of ageing (R289), and heat (R307). -/

namespace Sys2Proof.Machine

open Sys2Proof

/-! ### Who rolls back (R278) -/

/-- R278: cores that read provisional scratchpad bytes of a set of cores. -/
def joinLinks (s : State) (cs : List Nat) : List Nat :=
  s.links.foldl (fun cs l => if cs.contains l.2.1 ∧ cs.contains l.1 = false ∧ s.now < l.2.2 + Config.strikeWindow then cs ++ [l.1] else cs) cs

/-- R278: every core that rolls back with a struck one. -/
def struckWith (s : State) : Nat → List Nat → List Nat
  | 0, cs => cs
  | n + 1, cs => struckWith s n (joinLinks s cs)

/-- R278: committing operations already sent that a rollback of the core would discard. -/
def crossedBy (s : State) (core : Nat) : List Committing :=
  match (snapsOf s core).getLast? with
  | none => []
  | some h => (s.core core).crossed.filter (fun x => decide (h.serial ≤ x.serial) && sent s core x.ent x.serial)

/-! ### Rollback (R277) -/

/-- R277: held writes that the report leaves: those from before the state that the core comes back to, but for the young ones of waves that
have stopped (R279). -/
def keepHeld (s : State) (serial : Nat) (h : HeldWrite) : Bool :=
  decide (h.serial < serial) && !(decide (s.now < h.time + Config.strikeWindow) && ((look s.waves h.wave).map (fun w => w.ended)).getD true)

/-- Operations of a core from a place in program order on are not made (R277). -/
def unsend (s : State) (core serial : Nat) : State :=
  let pkts := s.packets.filter (fun p => decide (p.peer = none) && decide (coreOfKey p.ent = core) && decide (serial ≤ p.serial))
  let s1 := pkts.foldl (fun s p => countOut s (ownerOf s p.wave) (fun n => n - 1)) s
  { s1 with
    homeQ := s1.homeQ.filter (fun o => !(decide (o.core = core) && decide (serial ≤ o.serial)))
    replies := s1.replies.filter (fun o => !(decide (o.core = core) && decide (serial ≤ o.serial)))
    bankQ := s1.bankQ.filter (fun o => !(decide (o.core = core) && decide (serial ≤ o.serial)))
    passQ := s1.passQ.filter (fun o => !(decide (o.core = core) && decide (serial ≤ o.serial)))
    icinvs := s1.icinvs.filter (fun i => !(decide (coreOfKey i.ent = core) && decide (serial ≤ i.serial)))
    sends := s1.sends.filter (fun o => !(decide (o.core = core) && decide (serial ≤ o.serial)))
    packets := s1.packets.filter (fun p => !(pkts.contains p)) }

/-- R262, R278: page-fault parks that the rollback withdraws leave their die. -/
def withdrawParks (s : State) (core : Nat) : State :=
  let d := dieOfCore core
  let die := s.die d
  let stands := fun (p : ParkRec) => match p.copy with
    | none => (match look s.ents p.ent with | some e => decide (e.park = .fault p.id) | none => false)
    | some (b, t) => (s.core core).data.copies.any (fun x => decide (x.block = b) && decide (x.tag = t) && decide (x.parked = some p.id))
  s.setDie d { die with parks := die.parks.filter (fun p => decide (p.core ≠ core) || stands p) }

/-- R277, R126: an entity that comes back goes on at the first word of its chain, with its run's words fetched again. What it waited for may have
come meanwhile, so it tests again (R308); a page fault whose record has been answered replays (R262). One that waits for its bank's answer within
a run stands at its word, which the answer completes (R211). -/
def Entity.comeBack (s : State) (k : Nat) (e : Entity) : Entity :=
  let n := (e.pc.toNat - e.chainPc.toNat) / 4
  let e1 : Entity := { e with pc := e.chainPc, chain := Chain.empty, buf := [], words := e.words - n }
  match e.park with
  | .wait _ _ => { e1 with park := .running }
  | .poll _ _ => { e1 with park := .running }
  | .bank => if e.boundary then e1 else { e with buf := e.buf.take 1 }
  | .fault p => if (parksOf s (dieOfCore (coreOfKey k))).any (fun x => decide (x.id = p)) then e1 else { e1 with park := .running }
  | _ => e1

/-- R277: what a strike can undo of a block: its tags, and the passes it has sealed. -/
def Block.comeBack (now : Block) (old : Block) : Block := { now with tags := old.tags, seals := old.seals }

/-- R277: one core comes back to its permanent state: each wave to the oldest provisional state that holds it, the core's scratchpad, tiles,
queues and copies to the oldest of all, and each granule's poison with what it holds (R275). -/
def rollbackCore (s : State) (core : Nat) : State :=
  let snaps := snapsOf s core
  match snaps.getLast? with
  | none => s.setData core { (s.core core).data with held := (s.core core).data.held.filter (fun h => decide (h.time + Config.strikeWindow ≤ s.now)) }
  | some h =>
    let lives := fun (w : Nat) => ((look s.waves w).map (fun v => !v.ended)).getD false
    let oldest := fun (w : Nat) => (snaps.filter (fun x => (look x.waves w).isSome)).getLast?
    let ws := ((snaps.flatMap (fun x => x.waves.map (fun w => w.1))).eraseDups).filter lives
    let c := s.core core
    let s1 := unsend s core h.serial
    let s2 := s1.setCore core { c with
      data := { h.data with
        held := c.data.held.filter (keepHeld s h.serial)
        copies := h.data.copies.map (fun x => { x with parked := x.parked.filter (fun p => (parksOf s (dieOfCore core)).any (fun y => decide (y.id = p))) }) }
      holder := h.holder, lastSlot := h.lastSlot, vec := [], crossed := c.crossed.filter (fun x => decide (x.serial < h.serial)), recent := [] }
    let kept := s2.ents.filter (fun e => decide (coreOfKey e.1 ≠ core) || !(ws.contains e.2.wave))
    let putEnts := fun (m : NMap Entity) (w : Nat) => match oldest w with
      | some x => (x.ents.filter (fun e => decide (e.2.wave = w))).foldl (fun (m : NMap Entity) (e : Nat × Entity) => put m e.1 (e.2.comeBack s e.1)) m
      | none => m
    let putWave := fun (m : NMap Wave) (w : Nat) => match (oldest w).bind (fun x => look x.waves w) with | some v => put m w v | none => m
    let blockOf := fun (b : Nat) => ((snaps.filterMap (fun x => look x.blocks b)).getLast?)
    let ents := ws.foldl putEnts kept
    let back := fun (p : Poison) => p.ofCore (fun c => decide (c = core)) || p.ofWave ws.contains
    let poison := s2.poison.filter (fun p => !(back p)) ++ h.poison.filter (fun p => p.ofCore (fun c => decide (c = core))) ++
      ws.flatMap (fun w => match oldest w with | some x => x.poison.filter (fun p => p.ofWave (fun v => decide (v = w))) | none => [])
    let waiting := fun (k : Nat) => match look ents k with | some e => decide (e.park = .bank) | none => false
    let s4 : State := { s2 with
      ents := ents, waves := ws.foldl putWave s2.waves, poison := poison
      blocks := s2.blocks.map (fun b => (b.1, match blockOf b.1 with | some o => b.2.comeBack o | none => b.2))
      hist := s2.hist.filter (fun x => decide (x.core ≠ core))
      answers := s2.answers.filter (fun a => decide (coreOfKey a.ent ≠ core) || waiting a.ent)
      focus := match s2.focus with | some k => if coreOfKey k = core then none else some k | none => none }
    let s5 := (ents.filter (fun e => decide (coreOfKey e.1 = core) && decide (e.2.park = .icinv))).foldl (fun s e => releaseIfence s e.1 e.2.wave) s4
    withdrawParks s5 core

/-- R279: the core is idle, under self-test or fenced: a report is only counted. An idle core holds no entity and no held write, and neither its
engine nor its copies have anything to do. -/
def strikeIdle (s : State) (core : Nat) : Bool :=
  let d := (s.core core).data
  s.mgmt.fences.contains core || (s.core core).testing ||
  (!(s.ents.any (fun e => decide (coreOfKey e.1 = core))) && d.held.isEmpty && (engineOps d).isEmpty && d.copies.isEmpty)

/-- R277, R278. STRIKE_REPORT. -/
def execStrikeReport (core : Nat) (s : State) : Out :=
  .next (
    let s1 := countUp s (dieOfCore core) ctrStrikes
    if strikeIdle s core then s1
    else
      let cs := struckWith s 16 [core]
      let crossed := cs.flatMap (crossedBy s)
      if crossed.isEmpty then cs.foldl rollbackCore (countUp s1 (dieOfCore core) ctrRollbacks)
      else (crossed.map (fun x => x.gang)).eraseDups.foldl (fun s g => containGang s g core 0x60 9 0) (countUp s1 (dieOfCore core) ctrCrossed))

/-! ### Errors of the arrays (R274 to R276, R284) -/

/-- R274, R281, R288: an access of a core met an error that its array's code corrected; one that repeats at its address within 1 second marks the
core (assumption 68). -/
def correctedError (s : State) (core unit addr : Nat) : State :=
  let c := s.core core
  let recent := c.corrected.filter (fun x => decide (s.tick < x.2.2 + 100000000))
  let s1 := countUp (s.setCore core { c with corrected := (unit, addr, s.tick) :: recent }) (dieOfCore core) (ctrCorr unit)
  if recent.any (fun x => decide (x.1 = unit) && decide (x.2.1 = addr)) then markCore s1 core unit else s1

/-- R274, R287: the granule of a unit's array that an address, an offset or a place names (assumption 83). -/
def granuleOf (ent : Nat) (e : Entity) (unit addr : Nat) : Option Poison :=
  match unit with
  | 0 =>
    if addr < 2 ^ 16 then some (.scalar e.wave ent (addr / 4))
    else if addr < 2 ^ 20 then some (.vector e.wave ((addr - 2 ^ 16) / 384) ((addr - 2 ^ 16) % 384 / 4))
    else some (.predicate e.wave ((addr - 2 ^ 20) / 12) ((addr - 2 ^ 20) % 12 / 4))
  | 1 => some (.scratch (coreOfKey ent) (addr / 8 * 8))
  | 2 => some (.tile (coreOfKey ent) (addr / 4))
  | 4 | 6 | 7 => some (.memory (addr / 64 * 64))
  | 5 | 8 => some (.orangery (addr / 8 * 8))
  | _ => none

/-- R274, R288: the code of an array could not correct an error: its granule is poisoned and counted, once, and a core is marked for an error in one
of its own arrays (R281). A strike's rollback leaves the poison (R277). -/
def newPoison (s : State) (ent : Nat) (e : Entity) (unit addr : Nat) : State :=
  let die := dieOfCore (coreOfKey ent)
  match granuleOf ent e unit addr with
  | some p =>
    if s.poison.contains p then s
    else
      let own := ofOwnArrays s (coreOfKey ent) p
      let s0 : State := { s with hist := s.hist.map (fun h => if own = true ∧ h.core = coreOfKey ent then { h with poison := p :: h.poison } else h) }
      let s1 := countUp (s0.taint p) die (ctrUncorr unit)
      if unit ≤ 2 then markCore s1 (coreOfKey ent) unit else s1
  | none => if unit = 10 then countUp s die (ctrUncorr unit) else s

/-- R274, R275, R284. CONTAINMENT: what the code of an array found. Cause 0x60: the entity consumed a granule that a unit's code could not
correct, and its gang is contained; for a strike (unit 9) the gang alone is (R278). Cause 0x61: an element of its engine instruction raised SUSPECT
twice (R280). The model's own numbers for what the spec gives no cause (assumption 83): 0, a corrected error that an access of the entity met; 1, a
lost wait-table entry, whose entities test again; 2, a data error of a dispatch core's memory, after which launch `addr` completes FAULTED; 3, an
uncorrectable error found without being consumed. -/
def execContainment (ent cause unit addr : Nat) (s : State) : Out :=
  .next (
    if cause = 2 then setStatus s (.launch addr) .faulted
    else match look s.ents ent with
      | none => s
      | some e =>
        let core := coreOfKey ent
        if cause = 0 then (if unit ≤ 10 ∧ unit ≠ 9 then correctedError s core unit addr else s)
        else if cause = 1 then (match e.park with | .wait _ ks => ks.foldl wake s | _ => s)
        else if cause = 3 ∧ unit ≤ 10 then newPoison s ent e unit addr
        else if cause = 0x60 ∧ unit = 9 then containWave s e.wave core cause unit 0
        else if cause = 0x60 ∧ unit ≤ 10 ∧ unit ≠ 3 then
          consume (newPoison s ent e unit addr) e.wave core unit (((granuleOf ent e unit addr).map Poison.place).getD addr)
        else if cause = 0x61 ∧ unit = 3 then
          containWave (countUp (countUp (markCore s core unit) (dieOfCore core) ctrSuspect) (dieOfCore core) ctrSuspect2) e.wave core cause unit 0
        else s)

/-- Counting several at once. -/
def countBy (s : State) (die k n : Nat) : State :=
  let d := s.die die
  s.setDie die { d with counters := put d.counters k (min (ctrMax k) ((look d.counters k).getD 0 + n)) }

/-- R276. SCRUB: what a pass over a die's HBM, second tier and Orangery slice corrects and poisons, both counted. -/
def execScrub (die : Nat) (s : State) : Out :=
  .next (
    let n := s.fresh + 1
    let lines := ((Config.scrubLines n).map (fun a => a / 64 * 64)).filter (fun a => decide (homeDie a = some die))
    let offs := ((Config.scrubOrangery n).map (fun o => o / 8 * 8)).filter (fun o => decide (o < 2 ^ 30) && decide (orngDie o = die))
    let s1 := [5, 6, 7].foldl (fun s u => countBy s die (ctrCorr u) (Config.scrubCorrected n u)) { s with fresh := n }
    let s2 := lines.foldl (fun s a =>
      if s.poison.contains (.memory a) then s else countUp { s with poison := .memory a :: s.poison } die (ctrUncorr (memUnit a))) s1
    offs.foldl (fun s o =>
      if s.poison.contains (.orangery o) then s else countUp { s with poison := .orangery o :: s.poison } die (ctrUncorr 5)) s2)

/-! ### Self-test and fencing (R281, R282) -/

/-- R281. SELF_TEST_START: a marked core that holds no block. -/
def execSelfTestStart (core : Nat) (s : State) : Out :=
  .next (
    let c := s.core core
    if c.marked.isSome ∧ c.testing = false ∧ coreEmpty s core = true ∧ s.mgmt.fences.contains core = false then
      s.setCore core { c with testing := true }
    else s)

/-- R281: 24 hours of reference ticks. -/
def dayTicks : Nat := 24 * 3600 * 100000000

/-- R281: a failed self-test: recorded, or, a second time within 24 hours, the core is fenced. -/
def testFailed (s : State) (core : Nat) : State :=
  let c := s.core core
  let s1 := countUp s (dieOfCore core) ctrTestFail
  match c.failTick with
  | some t =>
    if s.tick < t + dayTicks then
      let m := s1.mgmt
      let s2 := s1.setCore core { c with testing := false, marked := none }
      countUp { s2 with mgmt := { m with fences := core :: m.fences } } (dieOfCore core) ctrFenced
    else s1.setCore core { c with testing := false, marked := none, failTick := some s.tick }
  | none => s1.setCore core { c with testing := false, marked := none, failTick := some s.tick }

/-- R281. SELF_TEST_VERDICT. -/
def execSelfTestVerdict (core : Nat) (pass : Bool) (s : State) : Out :=
  .next (
    let c := s.core core
    if c.testing = false then s
    else if pass then countUp (s.setCore core { c with testing := false, marked := none }) (dieOfCore core) ctrTestPass
    else testFailed s core)

/-! ### Ageing (R289) and heat (R307) -/

/-- R289: a pavilion holds no gang and no reserve. -/
def pavIdle (s : State) (pav : Nat) : Bool :=
  !(s.gangs.any (fun g => decide (g.2.pav = pav) && g.2.valid)) && !(s.rxqs.any (fun q => decide (q.2.pav = pav) && decide (0 < q.2.cres)))

/-- R289. PATH_DELAY_MEASURE: the controller notes a pavilion idle, or not, and measures it when it has stayed so for 1 ms (assumption 66). -/
def execPathDelayMeasure (pav : Nat) (s : State) : Out :=
  .next (
    let p := s.pav pav
    if p.measuring = true then s
    else if pavIdle s pav = false then (if p.idleAt = 0 then s else s.setPav pav { p with idleAt := 0 })
    else if p.idleAt = 0 then s.setPav pav { p with idleAt := max 1 s.now }
    else if p.idleAt + 2100000 ≤ s.now then s.setPav pav { p with measuring := true }
    else s)

/-- R289: the highest operating point that margins leave: the one below the first whose margin passes 50 mV. -/
def topPoint (margins : List Int) : Nat :=
  match (List.range 9).find? (fun i => decide (50 < margins.getD i 0)) with | some i => i - 1 | none => 8

/-- R289. PATH_DELAY_MEASUREMENT_END: margins in mV above the factory values, in steps of 2 mV. -/
def execPathDelayMeasurementEnd (pav : Nat) (margins : List Int) (s : State) : Out :=
  .next (
    let p := s.pav pav
    if p.measuring = false then s
    else
      let m := (List.range 9).map (fun i => margins.getD i 0 / 2 * 2)
      let top := min p.highest (topPoint m)
      let drift := (m.zipIdx).filterMap (fun x => if 4 ≤ x.1.natAbs then some (PldmReport.drift pav x.2 x.1) else none)
      let s1 := setPoint (s.setPav pav { p with measuring := false, idleAt := 0, margins := m, highest := top }) pav (min p.point top)
      { s1 with mgmt := { s1.mgmt with pldm := s1.mgmt.pldm ++ drift } })

/-- R307. THERMAL_THROTTLE: at 105 °C each affected pavilion drops to its lowest operating point. -/
def execThermalThrottle (pavs : List Nat) (s : State) : Out :=
  .next (pavs.foldl (fun s p => setPoint s p (s.pav p).lowest) s)

/-- R307. THERMAL_TRIP: at 115 °C every core stops as for a cut, and every running launch is to complete FAULTED before the warm reset. Handler
waves stop with their lanes marked FAILED (R266, assumption 84). -/
def execThermalTrip (s : State) : Out :=
  .next (
    let s1 := s.launches.foldl (fun s l => if l.2.phase = .running ∨ l.2.phase = .dropping then
      cutDone ((setStatus s (.launch l.1) .faulted).modLaunch l.1 (fun v => { v with redo := false })) l.1 else s) s
    let live := (s1.waves.filter (fun w => !w.2.ended && (match w.2.owner with | .tree _ => true | .launch _ => false))).map (fun w => w.1)
    let s2 := live.foldl (fun s w => endWave s w true) (stopWaves s1 (s1.waves.map (fun w => w.1)))
    { s2 with ctl := { s2.ctl with tripped := true } })

end Sys2Proof.Machine
end

