-- ==== Sys2Proof/Machine/Dispatcher.lean ====
section
/-! DEFINITION. From launch to completion (R234 to R243, R246, R247), budgets and the cut (R55 to R59), signals (R304), and the loss and
return of a dispatch core (R271 to R273). -/

namespace Sys2Proof.Machine

open Sys2Proof

/-- The part serves queues: STATE 4, and no thermal trip has stopped it (R305, R307). -/
def serving (s : State) : Bool := decide (s.ctl.bootState = 4) && !s.ctl.tripped

/-! ### The launch record (R236, R237) -/

/-- R236: the fields of the 1,024 bits of a record. -/
def parseRecord (x : Nat) : Record :=
  { objs := (List.range (min 4 (bits x 228 3))).map (fun k => (bits x (704 + 64 * k) 32, bits x (736 + 64 * k) 16))
    deps := (List.range (min 4 (bits x 232 4))).map (fun k => bits x (576 + 32 * k) 32)
    lid := bits x 544 32, resume := BitVec.ofNat 32 (bits x 512 32), ring := bits x 480 32, spillSize := bits x 448 32
    spill := BitVec.ofNat 64 (bits x 384 64), handler := BitVec.ofNat 64 (bits x 320 64), ebudget := bits x 288 32, tbudget := bits x 256 32
    dpav := bits x 236 6, cres := bits x 224 3, preemptible := decide (bits x 223 1 = 1), idempotent := decide (bits x 222 1 = 1)
    deterministic := decide (bits x 221 1 = 1), anytime := decide (bits x 220 1 = 1), prio := bits x 216 3, scratch := bits x 204 10
    tags := bits x 196 7, vregs := 8 * (bits x 192 3 + 1), gsize := bits x 184 4 + 1, wpb := bits x 176 5 + 1
    gridZ := bits x 160 16, gridY := bits x 144 16, gridX := bits x 128 16, args := BitVec.ofNat 64 (bits x 64 64)
    entry := BitVec.ofNat 64 (bits x 0 64) }

/-- No value twice. -/
def distinct (l : List Nat) : Bool := decide (l.eraseDups.length = l.length)

/-- R236, R237: each field of the record lies within its stated range. -/
def fieldsOk (x : Nat) (r : Record) : Bool :=
  decide (bits x 228 3 ≤ 4) && decide (bits x 232 4 ≤ 4) && decide (r.lid ≠ 0) && decide (1 ≤ r.ring) && decide (r.ring ≤ 2 ^ 24) &&
  decide ((r.ring * 32 + 4095) / 4096 ≤ r.spillSize) && decide (r.spill.toNat % 4096 = 0) && decide (r.cres ≤ 4) && decide (r.scratch ≤ 512) &&
  decide (r.tags ≤ 64) && decide (1 ≤ r.gridX) && decide (1 ≤ r.gridY) && decide (1 ≤ r.gridZ) && decide (r.entry.toNat % 4 = 0) &&
  decide (r.entry.toNat < 2 ^ 56) && r.objs.all (fun o => decide (1 ≤ o.2)) && (!r.deterministic || (decide (1 ≤ r.dpav) && decide (r.dpav ≤ 32)))

/-- R237: the record is placeable. -/
def placeable (s : State) (asid x : Nat) (r : Record) : Bool :=
  fieldsOk x r && decide (r.wpb + r.cres ≤ 32) && decide ((r.wpb + r.cres) * r.vregs ≤ coreRegs) &&
  (decide (r.handler = 0) || decide (r.handler.toNat / 2 ^ 32 = r.entry.toNat / 2 ^ 32)) &&
  r.objs.all (fun o => (objNamed s asid (BitVec.ofNat 32 o.1)).isSome) && distinct (r.objs.map (fun o => o.1)) &&
  decide (r.gridX * r.gridY * r.gridZ < 2 ^ 32)

/-- A launch as it is taken. -/
def Launch.taken (r : Record) (queue asid prio : Nat) (ok : Bool) (tick : Nat) : Launch :=
  { record := r, queue := queue, asid := asid, prio := prio, phase := .taken, placeable := ok, takenTick := tick, nextGang := 0, retired := 0,
    startTick := none, outstanding := 0, charged := 0, status := none, bound := false, closed := [], final := [], seq := none, irrev := false,
    elapsed := 0, places := [], again := [], counts := [], exposed := false, dropped := [], spillRing := [], ringAt := 0, arrivals := [],
    cutting := none, redo := false, ackClock := [] }

/-- R235, R238: one record leaves its queue: checked, retained, journalled, and the head word written. -/
def takeRecord (s : State) (queue : Nat) (q : Queue) : State :=
  let x := dieLoad s 0 (q.base + 128 * q.head) 128
  let r := parseRecord x
  let ok := placeable s q.asid x r
  let head := (q.head + 1) % 2 ^ q.n
  let id := s.fresh + 1
  let s1 := journal { s with fresh := id } 1 r.lid queue 0xFFFFFFFF
  let s2 := s1.setLaunch id (Launch.taken r queue q.asid (min r.prio q.prio) ok s.tick)
  let s3 := toHost { s2 with queues := put s2.queues queue { q with head := head } } q.headAddr (leBytes 8 head)
  if ok then s3 else setStatus (eventRecord s3 r.lid 6 0 0 0) (.launch id) .faulted

/-- R235, step 1 and 2: the dispatch core clears the queue's bit and reads its tail. -/
def readTail (s : State) (queue : Nat) (q : Queue) : State :=
  { s with
    dispatch := { s.dispatch with kicks := s.dispatch.kicks.filter (fun k => decide (k ≠ queue)) }
    queues := put s.queues queue { q with upTo := if q.head = q.tail then none else some q.tail } }

/-- R235. RECORD_TAKE: the serving dispatch core clears the bit of a kicked queue and reads its tail, or takes one record on the way to the tail
that it has read. -/
def execRecordTake (queue : Nat) (s : State) : Out :=
  .next (match look s.queues queue with
    | none => s
    | some q =>
      if serving s = false ∨ (servedBy s queue).isNone ∨ (look s.cqs q.cq).isNone then s
      else match q.upTo with
        | some tail => takeRecord s queue { q with upTo := if (q.head + 1) % 2 ^ q.n = tail then none else some tail }
        | none => if s.dispatch.kicks.contains queue then readTail s queue q else s)

/-! ### Gangs of a launch (R237, R242) -/

/-- R237: the blocks of gang j, by linear index. -/
def gangBlocks (r : Record) (j : Nat) : List Nat :=
  (List.range r.gsize).map (fun i => j * r.gsize + i) |>.filter (fun b => decide (b < r.gridX * r.gridY * r.gridZ))

/-- R240, R242, R284: the next gang that a launch asks for: a contained one, the first of them in its order, else the next of its order. -/
def wantedGang (v : Launch) : Option Nat :=
  match v.again with
  | a :: r => some (r.foldl (fun x y => if positionOf v.record y < positionOf v.record x then y else x) a)
  | [] =>
    if v.nextGang < gangTotal v.record then
      (if v.record.deterministic then (curveOrder v.record)[v.nextGang]? else some v.nextGang)
    else none

/-! ### Eligibility (R239, R240, R46) -/

/-- R239: no dispatch core holds the named launch as taken and unposted. -/
def depMet (s : State) (lid : Nat) : Bool := !(s.launches.any (fun x => decide (x.2.record.lid = lid) && decide (x.2.phase ≠ .posted)))

/-- R239: a launch that has not left the head of its queue's taken records. One that is cut or faults between its first gang and its last gives the
head up when it has stopped (assumption 88). -/
def holdsHead (v : Launch) : Bool :=
  decide (v.phase ≠ .posted) &&
  (if v.placeable then (decide (v.phase = .taken) || decide (v.phase = .running) || decide (v.phase = .dropping)) && decide (v.nextGang < gangTotal v.record) else true)

/-- R46: no other launch is bound to an object of this one. A taken launch whose object has been destroyed before its first gang is placed waits
(assumption 79). -/
def objectsFree (s : State) (v : Launch) : Bool :=
  v.bound || v.record.objs.all (fun o => match objNamed s v.asid (BitVec.ofNat 32 o.1) with
    | some (_, x) => decide (objGet x .ldone = 1)
    | none => false)

/-- R239: the launch may have a gang placed. -/
def eligible (s : State) (l : Nat) (v : Launch) : Bool :=
  v.placeable && !v.stopping && (decide (v.phase = .taken) || decide (v.phase = .running)) && (wantedGang v).isSome && v.record.deps.all (depMet s) &&
  objectsFree s v && (servedBy s v.queue).isSome &&
  (!(holdsHead v) || !(s.launches.any (fun x => decide (x.1 < l) && decide (x.2.queue = v.queue) && holdsHead x.2)))

/-- R240: whether the first request goes before the second; of two that one dispatch core took in one reference tick, the one taken earlier
(assumption 89). -/
def before (a b : Nat × Launch) : Bool :=
  if a.2.prio ≠ b.2.prio then decide (b.2.prio < a.2.prio)
  else if a.2.takenTick ≠ b.2.takenTick then decide (a.2.takenTick < b.2.takenTick)
  else if ownCore a.2.queue ≠ ownCore b.2.queue then decide (ownCore a.2.queue < ownCore b.2.queue) else decide (a.1 < b.1)

/-- R240: the first request. -/
def firstRequest (s : State) : Option (Nat × Launch) :=
  s.launches.foldl (fun r x => if eligible s x.1 x.2 then (match r with | some y => if before x y then some x else r | none => some x) else r) none

/-! ### Where a gang can go (R241, R242) -/

/-- R241: the lowest run of free frames; R241 does not say which run a block gets (assumption 90). -/
def frameBase (s : State) (core n : Nat) : Option Nat :=
  let bs := blocksOn s core
  if n = 0 then some 0
  else (List.range (513 - n)).find? (fun a => bs.all (fun b => decide (a + n ≤ b.2.frame) || decide (b.2.frame + b.2.frames ≤ a)))

/-- R241, R244: the core can take a block of the launch; its pavilion is not being halted. -/
def canTake (s : State) (l : Nat) (v : Launch) (core : Nat) : Bool :=
  let f := blockFree s l v core
  let c := s.core core
  decide ((blocksOn s core).length < 8) && decide ((v.record.wpb : Int) ≤ f.1) && decide (((v.record.wpb * v.record.vregs : Nat) : Int) ≤ f.2) &&
  (frameBase s core v.record.scratch).isSome && !(s.mgmt.fences.contains core) && !c.marked.isSome && !c.testing && asidFree s core v.asid &&
  (fetchSlots core v.record.wpb 0 (usedKeys s)).isSome && !(s.pav (pavOfCore core)).halting

/-- R242: pavilions that other DETERMINISTIC launches have taken as their places, but for those that meet a test. -/
def placesBut (s : State) (l : Nat) (free : Nat × Launch → Nat → Bool) : List Nat :=
  s.launches.flatMap (fun x =>
    if x.1 ≠ l ∧ (x.2.phase = .running ∨ x.2.phase = .dropping) then x.2.places.filter (fun p => !(free x p)) else [])

/-- R243: the launch gives way to one of a priority. -/
def givesWay (prio : Nat) (x : Nat × Launch) : Bool := x.2.record.preemptible && decide (x.2.prio < prio)

/-- R242, R243: those pavilions, but for one that a launch which gives way has lost: its context is out. -/
def takenPavs (s : State) (l prio : Nat) : List Nat :=
  placesBut s l (fun x p => givesWay prio x && s.contexts.any (fun c => decide (c.pav = p) &&
    c.gangs.any (fun g => ((look s.gangs g).map (fun q => decide (q.owner = .launch x.1))).getD false)))

/-- R241: the lowest pavilion that holds g cores able to take a block, and as many of its lowest as the gang has blocks. A gang that meets a
measurement there waits for its end (R289). -/
def openPlace (s : State) (l : Nat) (v : Launch) (n : Nat) : Option (List Nat) :=
  let able := fun (p : Nat) => ((List.range 16).map (fun i => 16 * p + i)).filter (canTake s l v)
  match (List.range 32).find? (fun p => decide (v.record.gsize ≤ (able p).length) && !((takenPavs s l v.prio).contains p)) with
  | some p => if (s.pav p).measuring then none else some ((able p).take n)
  | none => none

/-- R282: a pavilion without a fenced core. -/
def wholePav (s : State) (p : Nat) : Bool := (List.range 16).all (fun i => !(s.mgmt.fences.contains (16 * p + i)))

/-- R242: a whole pavilion that is free. -/
def freePav (s : State) (l prio p : Nat) : Bool :=
  wholePav s p && !((takenPavs s l prio).contains p) && (List.range 16).all (fun i => coreEmpty s (16 * p + i)) && !(s.gangs.any (fun g => decide (g.2.pav = p) && g.2.valid))

/-- R242: the pavilions of a DETERMINISTIC launch, kept once taken. -/
def ownPavs (s : State) (l : Nat) (v : Launch) : Option (List Nat) :=
  if v.places.isEmpty then
    let ps := (List.range 32).filter (freePav s l v.prio)
    if v.record.dpav ≤ ps.length then some (ps.take v.record.dpav) else none
  else some v.places

/-- R242: the cores of the place of a curve position. -/
def placeCores (r : Record) (pavs : List Nat) (pos n : Nat) : List Nat :=
  let per := 16 / r.gsize
  let place := pos % (pavs.length * per)
  (List.range n).map (fun i => 16 * pavs.getD (place / per) 0 + place % per * r.gsize + i)

/-- R242: the gang of the position one round earlier has retired. -/
def roundOver (r : Record) (v : Launch) (pavs : List Nat) (pos : Nat) : Bool :=
  decide (pos < v.retired + pavs.length * (16 / r.gsize))

/-- R241, R242: the cores that gang j of a launch can have now, and the pavilions the launch keeps. -/
def findPlace (s : State) (l : Nat) (v : Launch) (j : Nat) : Option (List Nat × List Nat) :=
  let n := (gangBlocks v.record j).length
  if v.record.deterministic then
    (ownPavs s l v).bind (fun ps =>
      let pos := positionOf v.record j
      let cs := placeCores v.record ps pos n
      if roundOver v.record v ps pos ∧ cs.all (canTake s l v) = true ∧ ps.all (fun p => !(s.pav p).measuring) = true then some (cs, ps) else none)
  else (openPlace s l v n).map (fun cs => (cs, []))

/-! ### Placement (R14, R29, R46, R241) -/

/-- R46: PARTS and PLID are written and LDONE is cleared in each bound descriptor. -/
def bindObjects (s : State) (v : Launch) : State :=
  v.record.objs.foldl (fun s o => match objNamed s v.asid (BitVec.ofNat 32 o.1) with
    | some (off, x) => objWrite s off (objSet (objSet (objSet x .parts o.2) .plid v.record.lid) .ldone 0)
    | none => s) s

/-- R14, R241: the waves of a block start, each in its fetch slot. -/
def startWaves (v : Launch) (l block lin : Nat) : State → List (Nat × Nat) → State
  | s, [] => s
  | s, (key, j) :: rest =>
    let id := s.fresh + 1
    let r := v.record
    let w := Wave.start .block block j v.asid (.launch l) r.vregs r.resume r.handler r.entry
    let regs := put (put (argRegs r.args) 2 (BitVec.ofNat 32 lin)) 3 (BitVec.ofNat 32 j)
    let e := Entity.start id r.entry (BitVec.allOnes 96) (BitVec.allOnes 96) regs
    startWaves v l block lin ((({ s with fresh := id }).setWave id w).setEnt key e) rest

/-- R28, R75, R87, R241: a block on a core. -/
def startBlock (v : Launch) (l gang : Nat) (s : State) (core lin rank : Nat) : State × Nat :=
  let s0 := dropL1 (clearTiles s core) core
  let id := s0.fresh + 1
  let r := v.record
  let b : Block :=
    { core := core, gang := gang, lin := lin, x := lin % r.gridX, y := lin / r.gridX % r.gridY, z := lin / (r.gridX * r.gridY), rank := rank,
      frame := (frameBase s0 core r.scratch).getD 0, frames := r.scratch, ntags := r.tags, tags := BitVec.allOnes 64, nwaves := r.wpb, done := 0,
      seals := [] }
  let keys := (fetchSlots core r.wpb 0 (usedKeys s0)).getD []
  (startWaves v l id lin (({ s0 with fresh := id }).setBlock id b) (keys.zipIdx), id)

/-- R241: the blocks of a gang on their cores, in rank order. -/
def startBlocks (v : Launch) (l gang : Nat) : State → List (Nat × Nat × Nat) → State × List Nat
  | s, [] => (s, [])
  | s, (core, lin, rank) :: rest =>
    let r := startBlock v l gang s core lin rank
    let q := startBlocks v l gang r.1 rest
    (q.1, r.2 :: q.2)

/-- R29, R238, R241, R283: gang j of a launch is placed on cores. -/
def placeGang (s : State) (l : Nat) (v : Launch) (j : Nat) (cores pavs : List Nat) : State :=
  let pav := pavOfCore (cores.headD 0)
  let s0 := usePav (journal s 2 v.record.lid v.queue j) pav
  let s1 := if v.bound then s0 else bindObjects s0 v
  let id := s1.fresh + 1
  let g : Gang :=
    { owner := .launch l, id := j, pav := pav, valid := true, cores := cores.map (fun c => c % 16), blocks := [], ie := false, iex := false,
      relaunch := (look v.counts j).getD 0, gbars := 0, releases := 0, position := positionOf v.record j, stopped := false, retired := false, placed := id }
  let lins := gangBlocks v.record j
  let s2 := ({ s1 with fresh := id }).setGang id g
  let s3 := startBlocks v l id s2 ((cores.zip lins).zipIdx.map (fun p => (p.1.1, p.1.2, p.2)))
  let s4 := s3.1.setGang id { g with blocks := s3.2 }
  s4.setLaunch l { v with
    phase := .running, bound := true, startTick := some (v.startTick.getD s.tick), places := pavs
    again := v.again.filter (fun a => decide (a ≠ j)), nextGang := if v.again.contains j then v.nextGang else v.nextGang + 1 }

/-- R242, R284: a request that can never be placed: too few whole pavilions, or a fenced core in a gang's own place. -/
def neverPlaced (s : State) (v : Launch) (j : Nat) : Option Status :=
  if v.record.deterministic = false then none
  else if v.places.isEmpty then
    (if ((List.range 32).filter (wholePav s)).length < v.record.dpav then some .faulted else none)
  else if (placeCores v.record v.places (positionOf v.record j) (gangBlocks v.record j).length).any (fun c => s.mgmt.fences.contains c) then some .lost
  else none

/-- R242, R284: a gang whose own place has lost a core is lost: it stands stopped, and retires in its turn. -/
def loseGang (s : State) (l : Nat) (v : Launch) (j : Nat) : State :=
  let pos := positionOf v.record j
  let id := s.fresh + 1
  let g : Gang :=
    { owner := .launch l, id := j, pav := pavOfCore ((placeCores v.record v.places pos 1).headD 0), valid := true, cores := [], blocks := [], ie := false,
      iex := false, relaunch := (look v.counts j).getD 0, gbars := 0, releases := 0, position := pos, stopped := true, retired := false, placed := id }
  (setStatus (({ s with fresh := id }).setGang id g) (.launch l) .lost).modLaunch l (fun v => { v with
    again := v.again.filter (fun a => decide (a ≠ j)), nextGang := if v.again.contains j then v.nextGang else v.nextGang + 1 })

/-- R240 to R242. GANG_PLACE: the arbiter places the first request, or passes over none. -/
def execGangPlace (s : State) : Out :=
  .next (
    if serving s = false then s
    else match firstRequest s with
      | none => s
      | some (l, v) => match wantedGang v with
        | none => s
        | some j => match neverPlaced s v j with
          | some .faulted =>
            let s1 := eventRecord s v.record.lid 6 0 0 0
            (setStatus s1 (.launch l) .faulted).modLaunch l (fun v => { v with placeable := false })
          | some _ => loseGang s l v j
          | none => match findPlace s l v j with
            | some (cores, pavs) => placeGang s l v j cores pavs
            | none => s)

/-! ### Retirement (R41, R242, R246) -/

/-- R41: every wave of the gang has ended, or the gang was lost (R284). -/
def gangOver (s : State) (g : Gang) : Bool :=
  g.stopped || g.blocks.all (fun b => match look s.blocks b with | some x => decide (x.done = x.nwaves) | none => true)

/-- R242, R286. GANG_RETIRE: a gang of a launch whose waves have ended gives up its cores; in curve order for a DETERMINISTIC launch. -/
def execGangRetire (gang : Nat) (s : State) : Out :=
  .next (match look s.gangs gang with
    | none => s
    | some g => match g.owner with
      | .tree _ => s
      | .launch l => match look s.launches l with
        | none => s
        | some v =>
          if g.id = 0xFFFFFFFF ∨ gangOver s g = false ∨ (v.record.deterministic = true ∧ v.retired ≠ g.position) then s
          else
            let outs := s.contexts.map (fun c => { c with gangs := c.gangs.filter (fun x => decide (x ≠ gang)) })
            let s1 := { s with gangs := erase s.gangs gang, blocks := s.blocks.filter (fun b => !(g.blocks.contains b.1)),
                               contexts := outs.filter (fun c => !c.gangs.isEmpty) }
            let s2 := restorePoint l (s1.setLaunch l { v with retired := v.retired + 1, exposed := v.exposed || g.iex }) g.pav
            ((v.arrivals.map (fun a => a.1)).eraseDups).foldl (fun s k => balanceRelease s l k) s2)

/-! ### Budgets (R55, R56, R58) -/

/-- R55. TIME_BUDGET_EXHAUSTED. -/
def execTimeBudgetExhausted (launch : Nat) (s : State) : Out :=
  .next (match look s.launches launch with
    | none => s
    | some v => match v.startTick with
      | none => s
      | some t =>
        if (v.phase = .running ∨ v.phase = .dropping) ∧ v.cutting = none ∧ v.record.tbudget ≠ 0xFFFFFFFF ∧ 100 * v.record.tbudget ≤ s.tick - t then
          cutLaunch s launch .cut
        else s)

/-- R56: cores of a pavilion that a launch's gangs hold. -/
def coresHeld (s : State) (l pav : Nat) : Nat :=
  ((s.gangs.filter (fun g => decide (g.2.owner = .launch l) && decide (g.2.pav = pav) && g.2.valid)).flatMap (fun g => g.2.cores)).eraseDups.length

/-- R56: a launch's charge for an interval, in sixteenths of a millijoule. -/
def charge (s : State) (l : Nat) (mj : List Nat) : Nat := (List.range 32).foldl (fun n p => n + mj.getD p 0 * coresHeld s l p) 0

/-- R56: one launch's charge, and its cut at the first sum that reaches its budget. -/
def chargeLaunch (s : State) (mj : List Nat) (t : State) (x : Nat × Launch) : State :=
  let n := charge s x.1 mj
  let t1 := t.modLaunch x.1 (fun v => { v with charged := v.charged + n })
  if (x.2.phase = .running ∨ x.2.phase = .dropping) ∧ x.2.cutting = none ∧ x.2.record.ebudget ≠ 0xFFFFFFFF ∧
      16 * x.2.record.ebudget ≤ x.2.charged + n then cutLaunch t1 x.1 .cut else t1

/-- R56. ENERGY_METER_INTERVAL: the energies of the 32 pavilions over 10 µs, which the meters report in whole millijoules (assumption 31). -/
def execEnergyMeterInterval (mj : List Nat) (s : State) : Out :=
  .next (
    if s.dispatch.meterAt + 1000 ≤ s.tick then
      s.launches.foldl (chargeLaunch s mj) { s with dispatch := { s.dispatch with meterAt := s.tick } }
    else s)

/-! ### Completion (R59, R247) -/

/-- R247: the outstanding packets are handled and every bound object is closed. After a thermal trip no packet is handled any more, and none is
waited for (R307, assumption 84). -/
def closedAll (s : State) (v : Launch) : Bool := (decide (v.outstanding = 0) || s.ctl.tripped) && (!v.bound || decide (v.closed.length = v.record.objs.length))

/-- R94, R309: the clock of a die that has applied every write made so far. -/
def allEpochs (s : State) : List Nat := (List.range 8).map (lastEpoch s)

/-- R247, R304: status and number of a launch that has met every condition. Its entry is a release at SYS scope by die 0's dispatch core. -/
def completeLaunch (s : State) (l : Nat) (v : Launch) : State :=
  let s1 := if v.record.objs.isEmpty ∨ v.bound = false then journal s 3 v.record.lid v.queue 0xFFFFFFFF else s
  let seq := s1.dispatch.nextSeq
  let elapsed := match v.startTick with | some t => (s.tick - t) / 100 | none => 0
  let s2 := s1.setLaunch l { v with phase := .completed, seq := some seq, elapsed := elapsed, status := some (v.status.getD .done) }
  let s3 := if (s2.die 0).opened.isEmpty then s2 else closeEpoch s2 0
  let c : Completion := { seq := seq, launch := l, clock := allEpochs s3 }
  { s3 with dispatch := { s3.dispatch with nextSeq := seq + 1, toPost := s3.dispatch.toPost ++ [c] } }

/-- R247, R271. LAUNCH_COMPLETE, by the dispatch core that serves the queue. -/
def execLaunchComplete (launch : Nat) (s : State) : Out :=
  .next (match look s.launches launch with
    | none => s
    | some v =>
      if (servedBy s v.queue).isSome = true ∧ ((v.placeable = false ∧ v.phase = .taken) ∨ (launchOver s launch v = true ∧ closedAll s v = true ∧ launchQuiet s launch = true)) then
        completeLaunch s launch v
      else s)

/-- R247: STATUS codes. -/
def Status.code : Status → Nat
  | .done => 1 | .cut => 2 | .faulted => 3 | .lost => 4

/-- R247: a completion entry. VERSION and QUALITY of the objects of a record that was never placed, of which no close was made, are zero
(assumption 91). -/
def completionEntry (v : Launch) (phase : Bool) : List Byte :=
  let objs := (List.range 4).flatMap (fun k => match v.final[k]? with
    | some o => [(128 + 96 * k, 64, o.1.toNat), (192 + 96 * k, 32, o.2.toNat)]
    | none => [])
  leBytes 64 (pack (objs ++
    [(96, 32, v.charged / 16), (64, 32, v.elapsed), (42, 10, v.queue), (41, 1, v.irrev.toNat), (40, 1, phase.toNat),
     (32, 8, ((v.status.map Status.code).getD 1)), (0, 32, v.record.lid)]))

/-- R302, R304: the completion queue of a completion, if it has room, a dispatch core serves the launch's queue, and what its release covers is
applied. -/
def roomFor (s : State) (c : Completion) : Option (Launch × Nat × Cq) :=
  (look s.launches c.launch).bind (fun v => (look s.queues v.queue).bind (fun q => (look s.cqs q.cq).bind (fun x =>
    if (x.tail + 1) % 2 ^ x.n = x.head % 2 ^ x.n ∨ (servedBy s v.queue).isNone = true ∨ appliedEverywhere s c.clock = false then none
    else some (v, q.cq, x))))

/-- R304: the host is owed a signal of a ring. -/
def oweSignal (s : State) (ring : Nat) : State :=
  { s with ctl := { s.ctl with
      owed := if s.ctl.owed.contains ring then s.ctl.owed else s.ctl.owed ++ [ring], sigClock := erase s.ctl.sigClock ring } }

/-- R247, R304: the entry is written, and the launch and what it kept are given up. -/
def postEntry (s : State) (c : Completion) (v : Launch) (cq : Nat) (x : Cq) : State :=
  let s1 := toHost s (x.base + 64 * x.tail) (completionEntry v x.phase)
  let tail := (x.tail + 1) % 2 ^ x.n
  let s2 := { s1 with cqs := put s1.cqs cq { x with tail := tail, phase := if tail = 0 then !x.phase else x.phase } }
  let s3 := oweSignal (journal s2 4 v.record.lid v.queue 0xFFFFFFFF) cq
  { s3 with
    launches := erase s3.launches c.launch, waves := s3.waves.filter (fun w => decide (w.2.owner ≠ .launch c.launch))
    dispatch := { s3.dispatch with toPost := s3.dispatch.toPost.filter (fun y => decide (y.seq ≠ c.seq)) } }

/-- R272: queues of a dispatch core that still have records to take from their rescan. -/
def rescanning (s : State) (dc : Nat) : Bool :=
  s.dispatch.rescan.getD dc false && s.queues.any (fun q => decide (ownCore q.1 = dc) && q.2.upTo.isSome)

/-- R247, R272, R302. COMPLETION_POST: the first completion in sequence order whose queue has room; none during a takeover until its rescan is
done. -/
def execCompletionPost (s : State) : Out :=
  .next (
    if s.dispatch.signalled.any id || rescanning s 0 || rescanning s 1 then s
    else match s.dispatch.toPost.find? (fun c => (roomFor s c).isSome) with
      | none => s
      | some c => match roomFor s c with
        | none => s
        | some (v, cq, x) => postEntry s c v cq x)

/-- R304, R309: the release of a ring's signal: die 0's epoch closes, and the signal waits until every die and the host have applied what was
written before. -/
def signalRelease (s : State) (ring : Nat) : State × List Nat :=
  match look s.ctl.sigClock ring with
  | some clock => (s, clock)
  | none =>
    let s1 := if (s.die 0).opened.isEmpty then s else closeEpoch s 0
    (s1, allEpochs s1)

/-- R304. SIGNAL: behind its release, at most once every 2 µs for a ring. -/
def execSignal (ring : Nat) (s : State) : Out :=
  .next (
    let late := match look s.ctl.lastSig ring with | some t => decide (t + 200 ≤ s.tick) | none => true
    if s.ctl.owed.contains ring && late then
      let r := signalRelease s ring
      if appliedEverywhere r.1 r.2 then
        let s1 := toHost r.1 s.ctl.sigAddr (leBytes 8 ring)
        { s1 with ctl := { s1.ctl with
            owed := s1.ctl.owed.filter (fun x => decide (x ≠ ring)), sigClock := erase s1.ctl.sigClock ring
            lastSig := put s1.ctl.lastSig ring s.tick } }
      else { r.1 with ctl := { r.1.ctl with sigClock := put r.1.ctl.sigClock ring r.2 } }
    else s)

/-! ### The dispatch cores (R271 to R273) -/

/-- R271, R272: a dispatch core is halted and its peer signalled; the tails it had read are gone. -/
def haltCore (s : State) (dc : Nat) : State :=
  { s with
    queues := s.queues.map (fun q => (q.1, if servedBy s q.1 = some dc then { q.2 with upTo := none } else q.2))
    dispatch := { s.dispatch with halted := setNth s.dispatch.halted dc true, signalled := setNth s.dispatch.signalled dc true } }

/-- R271. DISPATCH_CORE_FAILURE. -/
def execDispatchCoreFailure (dc : Nat) (s : State) : Out :=
  .next (if dc < 2 ∧ s.dispatch.halted.getD dc true = false then haltCore s dc else s)

/-- R271. HEARTBEAT. -/
def execHeartbeat (dc : Nat) (s : State) : Out :=
  .next (
    if s.dispatch.halted.getD dc true then s
    else { s with dispatch := { s.dispatch with beats := setNth s.dispatch.beats dc s.tick, missed := setNth s.dispatch.missed dc 0 } })

/-- R271. HEARTBEAT_MISS: the peer finds a heartbeat overdue; the third in a row counts as a failure signal. -/
def execHeartbeatMiss (dc : Nat) (s : State) : Out :=
  .next (
    let d := s.dispatch
    let n := d.missed.getD dc 0 + 1
    if dc < 2 ∧ d.halted.getD dc true = false ∧ d.halted.getD (1 - dc) true = false ∧ d.beats.getD dc 0 + 1000 * n ≤ s.tick then
      let s1 := { s with dispatch := { d with missed := setNth d.missed dc n } }
      if 3 ≤ n then haltCore s1 dc else s1
    else s)

/-- R272: step 2: every queue of the failed core is served up to its tail; one whose completion queue is not set keeps its kick (R302). -/
def rescan (s : State) (dc : Nat) : State :=
  let open' := fun (q : Nat × Queue) => decide (ownCore q.1 = dc) && decide (q.2.head ≠ q.2.tail)
  let unset := (s.queues.filter (fun q => open' q && (look s.cqs q.2.cq).isNone && !(s.dispatch.kicks.contains q.1))).map (fun q => q.1)
  { s with
    queues := s.queues.map (fun q => (q.1, if open' q && (look s.cqs q.2.cq).isSome then { q.2 with upTo := some q.2.tail } else q.2))
    dispatch := { s.dispatch with
      signalled := setNth s.dispatch.signalled dc false, rescan := setNth s.dispatch.rescan dc true, kicks := s.dispatch.kicks ++ unset } }

/-- R272. DISPATCH_TAKEOVER: the peer replays and rescans; when every record found has been taken, and the completions held have been posted where
their queues have room, it records the takeover. -/
def execDispatchTakeover (dc : Nat) (s : State) : Out :=
  .next (
    let d := s.dispatch
    if 2 ≤ dc ∨ d.halted.getD (1 - dc) true = true then s
    else if d.signalled.getD dc false then rescan s dc
    else if d.rescan.getD dc false && !(rescanning s dc) && !(d.toPost.any (fun c => (roomFor s c).isSome)) then
      eventRecord { s with dispatch := { d with rescan := setNth d.rescan dc false } } 0 8 0 dc 0
    else s)

end Sys2Proof.Machine
end

