-- ==== Sys2Proof/Machine/Contexts.lean ====
section
/-! DEFINITION. Pre-emption and pavilion contexts (R243 to R245, R207, R233, R257, R279), and what a verdict on a page-fault park does
(R262, R263). -/

namespace Sys2Proof.Machine

open Sys2Proof

/-! ### Verdicts (R262, R263) -/

/-- R262: the lowest unmapped address of a park. -/
def lowestAddr (p : ParkRec) : Nat := match p.addrs with | [] => 0 | a :: r => r.foldl min a

/-- R262, R263: a verdict reaches the entity or the copy that stands parked. -/
def answerPark (s : State) (p : ParkRec) (retry : Bool) : State :=
  match p.copy with
  | none => (match look s.ents p.ent with
    | some e =>
      if e.park ≠ .fault p.id then s
      else
        let s1 := s.setEnt p.ent { e with park := .running }
        if retry then s1
        else raise s1 p.ent { cause := 0x10, lane := lowestLane e.fmask, addr := lowestAddr p } false e.chainPc
    | none => s)
  | some (b, t) =>
    let d := (s.core p.core).data
    let mine := fun (x : Copy) => decide (x.block = b) && decide (x.tag = t) && decide (x.parked = some p.id)
    match d.copies.find? mine with
    | none => s
    | some x =>
      if retry then s.setData p.core { d with copies := d.copies.map (fun x => if mine x then { x with parked := none } else x) }
      else engineFault s x.wave p.core (lowestAddr p)

/-! ### Which pavilion is pre-empted (R243) -/

/-- Gangs on a pavilion. -/
def gangsAt (s : State) (pav : Nat) : List (Nat × Gang) := s.gangs.filter (fun g => decide (g.2.pav = pav) && g.2.valid)

/-- R243: the effective priority of a gang that may be pre-empted. -/
def victimPrio (s : State) (o : Owner) : Option Nat :=
  match o with
  | .launch l => (look s.launches l).bind (fun v => if v.record.preemptible then some v.prio else none)
  | .tree _ => none

/-- R243: a pavilion that a launch of this priority may take: its highest priority, and when its last gang was placed. -/
def victim (s : State) (prio pav : Nat) : Option (Nat × Nat) :=
  let gs := gangsAt s pav
  if gs.isEmpty ∨ gs.all (fun g => match victimPrio s g.2.owner with | some q => decide (q < prio) | none => false) = false then none
  else some (gs.foldl (fun (n : Nat) g => max n ((victimPrio s g.2.owner).getD 0)) 0, gs.foldl (fun (n : Nat) g => max n g.2.placed) 0)

/-- A core that a context may come back to (R244, R281, R282). -/
def soundCore (s : State) (core : Nat) : Bool :=
  !(s.mgmt.fences.contains core) && !(s.core core).marked.isSome && !(s.core core).testing

/-- What stays of a core whose context leaves: its scratchpad's and tiles' contents, and column groups still to be released (R206). -/
def emptied (d : CoreData) : CoreData := { CoreData.fresh with scratch := d.scratch, tiles := d.tiles, asn := d.asn, groups := d.groups }

/-- The package as it would be with nothing on a pavilion. -/
def emptiedPav (s : State) (pav : Nat) : State :=
  let s1 := s.setPav pav { s.pav pav with halting := false }
  { s1 with
    cores := s1.cores.map (fun c => (c.1, if pavOfCore c.1 = pav then { c.2 with data := emptied c.2.data } else c.2))
    gangs := s1.gangs.map (fun g => (g.1, if g.2.pav = pav then { g.2 with valid := false } else g.2))
    ents := s1.ents.filter (fun e => decide (pavOfCore (coreOfKey e.1) ≠ pav)), hist := s1.hist.filter (fun h => decide (pavOfCore h.core ≠ pav)) }

/-- R242, R243: the pavilions of other DETERMINISTIC launches that do not give way to a launch. -/
def keptPavs (s : State) (l : Nat) (v : Launch) : List Nat := placesBut s l (fun x _ => givesWay v.prio x)

/-- R243: taking the pavilion brings gang j of the launch nearer to its place; what it keeps for receive queues stays kept (R241). -/
def wouldHelp (s : State) (l : Nat) (v : Launch) (j pav : Nat) : Bool :=
  if v.record.deterministic then
    (if v.places.isEmpty then wholePav s pav && !((keptPavs s l v).contains pav)
      else v.places.contains pav && roundOver v.record v v.places (positionOf v.record j))
  else
    let t := emptiedPav s pav
    !((keptPavs s l v).contains pav) && decide (v.record.gsize ≤ ((List.range 16).filter (fun i => canTake t l v (16 * pav + i))).length)

/-- R243: enough pavilions for a DETERMINISTIC launch are free or can be taken. -/
def enoughPavs (s : State) (l : Nat) (v : Launch) : Bool :=
  !v.record.deterministic || !v.places.isEmpty ||
  decide (v.record.dpav ≤ ((List.range 32).filter (fun p =>
    freePav s l v.prio p || (wholePav s p && !((keptPavs s l v).contains p) && (victim s v.prio p).isSome))).length)

/-- R243: the pavilion that gang j of the first request takes next. -/
def chosenVictim (s : State) (l : Nat) (v : Launch) (j : Nat) : Option Nat :=
  if enoughPavs s l v = false then none
  else
    ((List.range 32).foldl (fun (r : Option (Nat × Nat × Nat)) p =>
      match (if wouldHelp s l v j p then victim s v.prio p else none), r with
      | none, _ => r
      | some x, none => some (p, x)
      | some x, some y => if x.1 < y.2.1 ∨ (x.1 = y.2.1 ∧ y.2.2 < x.2) then some (p, x) else r) none).map (fun x => x.1)

/-! ### Halting a pavilion (R244, R207, R257, R279) -/

/-- R207, R279: the core's engine has come to the point where it halts, and nothing of the core is provisional. -/
def coreHalted (s : State) (core : Nat) : Bool :=
  let d := (s.core core).data
  d.held.isEmpty && (snapsOf s core).isEmpty && (match d.run with | some r => r.done || engineHalted s core r | none => true)

/-- R207: a core's data as a halt leaves it: an MBOUND in progress stands at the step that it has ended, with its partial sums. -/
def haltedData (s : State) (core : Nat) : CoreData :=
  let d := (s.core core).data
  { d with run := d.run.map (haltedRun s core) }

/-- R244: a pavilion that was being halted goes on: its engines begin the steps that the halt held back. -/
def resumePav (s : State) (pav : Nat) : State :=
  let t := s.setPav pav { s.pav pav with halting := false }
  { t with cores := t.cores.map (fun c => (c.1, if pavOfCore c.1 = pav then { c.2 with data := haltedData s c.1 } else c.2)) }

/-- R126, R244, R257: the entity is at an instruction boundary with nothing under way; at handler level at a run boundary, or stalled. -/
def entHalted (s : State) (k : Nat) (e : Entity) : Bool :=
  quiet s k e.wave && !(s.icinvs.any (fun i => decide (i.ent = k) && decide (i.wave = e.wave))) &&
  (decide (e.park ≠ .bank) || e.boundary) && (!e.level || e.boundary || e.stalled.isSome || decide (e.park ≠ .running))

/-- R244, R146, R233: an entity as its context keeps it: at the start of its chain, out of the wait table, a pause with what is left of it. -/
def savedEnt (s : State) (k : Nat) (e : Entity) : Entity :=
  let prefixes := (e.pc - e.chainPc).toNat / 4
  let park := match e.park with
    | .wait _ _ => Park.running
    | .poll _ _ => Park.running
    | .bank => .running
    | .pause due => .pause (due - coreCycles s (coreOfKey k))
    | p => p
  { e with pc := e.chainPc, chain := Chain.empty, words := e.words - prefixes, buf := [], stalled := none, park := park, released := 0
           await := [], parking := false }

/-- R244, step 2: children of pre-emptible launches leave the pavilion's bins for their launches' spill rings, as far as these have room (R236). -/
def binsToRings (s : State) (pav : Nat) (owners : List Owner) : State :=
  let p := s.pav pav
  let out := fun (c : Child) => owners.contains c.owner
  let r := (p.bins.flatMap (fun b => b.2.children.filter out)).foldl (fun (r : State × List Child) c =>
    match toRing r.1 c with | some t => (t, r.2) | none => (r.1, r.2 ++ [c])) (s, [])
  let bins := (p.bins.map (fun b => (b.1, { b.2 with children := b.2.children.filter (fun c => !(out c) || r.2.contains c) }))).filter
    (fun b => !(b.2.children.isEmpty && b.2.packets.isEmpty))
  r.1.setPav pav { r.1.pav pav with bins := bins }

/-- The cores of a pavilion that blocks of its gangs occupy. -/
def occupied (s : State) (gangs : List Nat) : List Nat :=
  let cs := (s.blocks.filter (fun b => gangs.contains b.2.gang)).map (fun b => b.2.core)
  (List.range 512).filter (fun c => cs.contains c)

/-- R244, steps 2 to 4, R246, R275: the pavilion's context leaves, with the poison of its scratchpads and tiles; its waves keep that of their
registers. The bytes of shadow storage, units 40 to 63 of the Orangery, stay as they were: R9 and R244 give the context no layout there
(assumption 92). -/
def saveContext (s : State) (pav : Nat) : State :=
  let gs := gangsAt s pav
  let gangs := gs.map (fun g => g.1)
  let cores := occupied s gangs
  let s1 := closeEpoch (binsToRings s pav ((gs.map (fun g => g.2.owner)).eraseDups)) (pav / 4)
  let mine := fun (k : Nat) => cores.contains (coreOfKey k)
  let es := s1.ents.filter (fun e => mine e.1)
  let s2 := es.foldl (fun s e => if e.2.park = .bank then dropPassOf s e.1 e.2.wave else s) s1
  let die := s2.die (pav / 4)
  let c : Context :=
    { die := pav / 4, pav := pav, evicted := false, savedAt := s.now, clock := die.clock, gangs := gangs
      cores := cores.map (fun x => (x % 16, haltedData s2 x)), slots := cores.map (fun x => (x % 16, (s2.core x).holder, (s2.core x).lastSlot))
      ents := es.map (fun e => (e.1, savedEnt s2 e.1 e.2)), parks := die.parks.filter (fun p => mine p.ent), answers := []
      poison := s2.poison.filter (fun p => p.ofCore cores.contains) }
  let s3 := s2.setDie (pav / 4) { die with parks := die.parks.filter (fun p => !(mine p.ent)) }
  let s4 := cores.foldl (fun s x =>
    let k := s.core x
    s.setCore x { k with data := emptied k.data, holder := [], vec := [], crossed := [] }) s3
  let s5 : State := { s4 with
    ents := s4.ents.filter (fun e => !(mine e.1)), gangs := s4.gangs.map (fun g => (g.1, if gangs.contains g.1 then { g.2 with valid := false } else g.2))
    contexts := s4.contexts ++ [c], focus := match s4.focus with | some k => if mine k then none else some k | none => none }
  let ls := ((gs.filterMap (fun g => match g.2.owner with | .launch l => some l | .tree _ => none)).eraseDups)
  ls.foldl (fun s l => restorePoint l s pav) (s5.setPav pav { s5.pav pav with halting := false })

/-- R12: contexts in a die's shadow storage, which holds two. -/
def inShadow (s : State) (die : Nat) : Nat := (s.contexts.filter (fun c => decide (c.die = die) && !c.evicted)).length

/-- R243: the pavilion is the one that the first request takes. -/
def preempted (s : State) (pav : Nat) : Bool :=
  serving s &&
  (match firstRequest s with
    | none => false
    | some (l, v) => match wantedGang v with
      | none => false
      | some j => (neverPlaced s v j).isNone && (findPlace s l v j).isNone && decide (chosenVictim s l v j = some pav))

/-- R244, R207, R257, R279: every core of the pavilion has halted. -/
def pavHalted (s : State) (pav : Nat) : Bool :=
  let cores := occupied s ((gangsAt s pav).map (fun g => g.1))
  cores.all (coreHalted s) && (s.ents.filter (fun e => cores.contains (coreOfKey e.1))).all (fun e => entHalted s e.1 e.2)

/-- R245, R257, R285: a gang of the pavilion belongs to a launch whose stop has still to take hold: no context is saved. -/
def pavCutting (s : State) (pav : Nat) : Bool :=
  (gangsAt s pav).any (fun g => ((launchOf s g.2.owner).map Launch.stopping).getD false)

/-- R243 to R245. PREEMPTION: with a half of its die's shadow storage free, the pavilion that the first request takes is halted, and when all of it
has halted its context leaves. A pavilion that is not wanted any more goes on. -/
def execPreemption (pav : Nat) (s : State) : Out :=
  .next (
    let p := s.pav pav
    if preempted s pav = false then (if p.halting then resumePav s pav else s)
    else if 2 ≤ inShadow s (pav / 4) then s
    else if p.halting = false then s.setPav pav { p with halting := true, haltAt := s.now }
    else if pavHalted s pav ∧ pavCutting s pav = false then saveContext s pav else s)

/-! ### Contexts that stay out (R244) -/

/-- One context changed. -/
def setContext (s : State) (k : Nat) (c : Context) : State := { s with contexts := setNth s.contexts k c }

/-- R244. CONTEXT_EVICT: the context is in its die's HBM; the bytes there stay as they were, since R244 gives no area and no layout (assumption 92). -/
def execContextEvict (k : Nat) (s : State) : Out :=
  .next (match s.contexts[k]? with
    | some c => if c.evicted then s else setContext s k { c with evicted := true }
    | none => s)

/-- R244. CONTEXT_STAGE_IN: into a free half of its die's shadow storage. -/
def execContextStageIn (k : Nat) (s : State) : Out :=
  .next (match s.contexts[k]? with
    | some c => if c.evicted = true ∧ inShadow s c.die < 2 then setContext s k { c with evicted := false } else s
    | none => s)

/-! ### Restoring a context (R244, R263, R29) -/

/-- R244: a free unfenced core. -/
def freeCore (s : State) (core : Nat) : Bool :=
  let d := (s.core core).data
  coreEmpty s core && soundCore s core && (snapsOf s core).isEmpty && d.held.isEmpty && d.copies.isEmpty && decide (d.groups = 0) && decide (d.run = none)

/-- Where the cores of a context go: old and new package cores. -/
abbrev CoreMap := List (Nat × Nat)

/-- The new core of an old one. -/
def CoreMap.core (m : CoreMap) (c : Nat) : Nat := ((m.find? (fun x => decide (x.1 = c))).map (fun x => x.2)).getD c

/-- The new key of an entity's old one. -/
def CoreMap.key (m : CoreMap) (k : Nat) : Nat := 32 * m.core (coreOfKey k) + k % 32

/-- R244: the free cores of a pavilion for a context's cores, ascending. -/
def coreMap (s : State) (c : Context) (pav : Nat) : Option CoreMap :=
  let free := ((List.range 16).map (fun i => 16 * pav + i)).filter (freeCore s)
  if c.cores.length ≤ free.length then some ((c.cores.map (fun x => 16 * c.pav + x.1)).zip free) else none

/-- A matrix instruction on its new cores. -/
def EngineOp.moved (m : CoreMap) (away : Nat) (q : EngineOp) : EngineOp :=
  let fr := fun (f : Frame) => (m.core f.1, f.2)
  { q with
    ent := m.key q.ent, cores := q.cores.map m.core, reads := q.reads.map fr, writes := q.writes.map fr, queuedAt := q.queuedAt + away }

/-- A copy on its new cores. -/
def Copy.moved (m : CoreMap) (x : Copy) : Copy :=
  let fr := fun (f : Frame) => (m.core f.1, f.2)
  let op := fun (o : CopyOp) => { o with core := m.core o.core }
  { x with ent := m.key x.ent, src := op x.src, dst := op x.dst, reads := x.reads.map fr, writes := x.writes.map fr }

/-- R207: a core's data as it resumes: engines ask for their column groups afresh. -/
def CoreData.moved (m : CoreMap) (away now : Nat) (d : CoreData) : CoreData :=
  { d with
    queue := d.queue.map (EngineOp.moved m away), enroute := d.enroute.map (EngineOp.moved m away), parts := d.parts.map (EngineOp.moved m away)
    run := d.run.map (fun r => { r with op := r.op.moved m away, since := now }), copies := d.copies.map (Copy.moved m), groups := 0 }

/-- An entity on its new core: its pause counts on there (R146). -/
def Entity.moved (m : CoreMap) (cycle : Nat → Nat) (k : Nat) (e : Entity) : Entity :=
  { e with
    park := match e.park with | .pause left => .pause (cycle (m.core (coreOfKey k)) + left) | p => p
    pairs := e.pairs.map (fun p => match p.mode with
      | .detached x stays => { p with mode := .detached (m.key x) stays }
      | _ => p) }

/-- R263: a park is over at the restore: the driver's verdict applies, or the chain, or the copy, tries again. -/
def resumePark (m : CoreMap) (answers : List (Nat × Nat)) (s : State) (p : ParkRec) : State :=
  let declined := answers.any (fun a => decide (a.1 = p.id) && decide (a.2 = 1))
  answerPark s { p with ent := m.key p.ent, core := m.core p.core } (!declined)

/-- A granule of a context's scratchpads and tiles on its new core. -/
def Poison.moved (m : CoreMap) : Poison → Poison
  | .scratch c o => .scratch (m.core c) o
  | .tile c i => .tile (m.core c) i
  | p => p

/-- R275: the poison of the scratchpads and tiles of a context replaces what stands on its new cores. -/
def movePoison (m : CoreMap) (ps : List Poison) (s : State) : State :=
  (ps.map (Poison.moved m)).foldl State.taint (s.clean (fun p => p.ofCore (fun c => m.any (fun x => decide (x.2 = c)))))

/-- R275: a restore reads a poisoned granule from shadow storage: the gang whose block or wave it belongs to is contained. -/
def consumeShadow (s : State) (p : Poison) : State :=
  let block := fun (core : Nat) (hit : Block → Bool) =>
    match s.blocks.find? (fun b => decide (b.2.core = core) && resident s b.2 && hit b.2) with
    | some b => containGang s b.2.gang core 0x60 8 p.place
    | none => s
  let wave := fun (w : Nat) =>
    containWave s w (((look s.waves w).bind (fun v => (look s.blocks v.block).map (fun b => b.core))).getD 0) 0x60 8 p.place
  match p with
  | .scratch core o => block core (fun b => decide (b.frame * 1024 ≤ o) && decide (o < (b.frame + b.frames) * 1024))
  | .tile core _ => block core (fun _ => true)
  | .scalar w _ _ => wave w
  | .vector w _ _ => wave w
  | .predicate w _ _ => wave w
  | _ => s

/-- R29, R84, R244: the gangs of a context stand on their new cores, whose L1 holds nothing older than what they have seen. -/
def restoreContext (s : State) (c : Context) (pav : Nat) (m : CoreMap) : State :=
  let away := s.now - c.savedAt
  let blocks := (s.blocks.filter (fun b => c.gangs.contains b.2.gang)).map (fun b => b.1)
  let waves := (s.waves.filter (fun w => blocks.contains w.2.block)).map (fun w => w.1)
  let s1 := usePav (rekey s (fun w k => if waves.contains w then m.key k else k)) pav
  let s2 := c.ents.foldl (fun (t : State) e => t.setEnt (m.key e.1) (e.2.moved m (coreCycles s) e.1)) s1
  let gen := fun (g : Gen) => { g with holder := m.key g.holder, held := g.held.map m.key }
  let s3 : State := { s2 with
    waves := s2.waves.map (fun w => (w.1, if waves.contains w.1 then { w.2 with gen := w.2.gen.map gen } else w.2))
    blocks := s2.blocks.map (fun b => (b.1, if blocks.contains b.1 then { b.2 with core := m.core b.2.core } else b.2))
    gangs := s2.gangs.map (fun g => (g.1, if c.gangs.contains g.1 then
      { g.2 with pav := pav, valid := true, cores := g.2.cores.map (fun x => m.core (16 * c.pav + x) % 16) } else g.2))
    spilled := s2.spilled.map (fun p => if waves.contains p.waveId then
      { p with pav := pav, ents := p.ents.map (fun e => (m.key e.1, e.2.moved m (coreCycles s) e.1)) } else p) }
  let s4 := c.cores.foldl (fun (t : State) x => t.setData (m.core (16 * c.pav + x.1)) (x.2.moved m away s.now)) s3
  let s5 := c.slots.foldl (fun (t : State) x =>
    let core := m.core (16 * c.pav + x.1)
    t.setCore core { t.core core with holder := x.2.1, lastSlot := x.2.2, vec := [], l1 := [] }) s4
  let s6 := movePoison m c.poison (c.parks.foldl (resumePark m c.answers) s5)
  (s6.poison.filter (fun p => p.ofCore (fun x => m.any (fun y => decide (y.2 = x))) || p.ofWave waves.contains)).foldl consumeShadow s6

/-- R245, R285: a gang of the context belongs to a launch whose stop has still to take hold. -/
def contextCutting (s : State) (c : Context) : Bool :=
  c.gangs.any (fun g => (((look s.gangs g).bind (fun q => launchOf s q.owner)).map Launch.stopping).getD false)

/-- R244, R245. CONTEXT_RESTORE: from shadow storage, to a pavilion whose die has applied what the context had seen. -/
def execContextRestore (k pav : Nat) (s : State) : Out :=
  .next (match s.contexts[k]? with
    | none => s
    | some c =>
      if c.evicted = true ∨ 32 ≤ pav ∨ serving s = false ∨ (s.pav pav).measuring = true ∨ (s.pav pav).halting = true ∨ contextCutting s c = true ∨ covers (s.die (pav / 4)).clock c.clock = false then s
      else match coreMap s c pav with
        | none => s
        | some m => restoreContext { s with contexts := dropNth s.contexts k } c pav m)

end Sys2Proof.Machine
end

