-- ==== Sys2Proof/Machine/Host.lean ====
section
/-! DEFINITION. The host's side (R300 to R305, R311): commands, doorbells and CTL registers, the warm reset, and the DMEM and ORNG apertures
with the operation window. -/

namespace Sys2Proof.Machine

open Sys2Proof

/-! ### Commands (R302, R311) -/

/-- R311: fields of a command as (low bit, width, value), the opcode first. -/
abbrev CmdFields := List (Nat × Nat × Nat)

/-- Fields that start at a byte: (byte, width in bits, value). -/
def atBytes (fs : List (Nat × Nat × Nat)) : CmdFields := fs.map (fun f => (8 * f.1, f.2.1, f.2.2))

/-- Every value fits its field: such an entry can stand in the ring. -/
def fieldsFit (fs : CmdFields) : Bool := fs.all (fun f => decide (f.2.2 < 2 ^ f.2.1))

/-- R301, R302: the device may take the next command: the ring is set up and holds an entry, and no command is under way. -/
def cmdReady (s : State) : Bool :=
  let q := ringOf s 0
  decide (s.ctl.bootState = 4) && decide (q.size ≠ 0) && decide (q.head ≠ q.tail) && s.ctl.inval.isNone

/-- R302: the command at the head is done: its status word, the head, CMDDONE. -/
def cmdDone (s : State) (status : Nat) : State :=
  let q := ringOf s 0
  let s1 := toHost s (q.base + 32 * q.head + 2) (leBytes 2 status)
  { s1 with ctl := { s1.ctl with rings := put s1.ctl.rings 0 { q with head := (q.head + 1) % q.size }, cmdDone := (s1.ctl.cmdDone + 1) % 2 ^ 64 } }

/-- R302: run the command at the head, which holds these fields (assumption 24); `run` gives the state and the status, or none where
the command completes later. -/
def command (op : Nat) (fs : CmdFields) (run : State → State × Option Nat) (s : State) : Out :=
  .next (
    if cmdReady s = false ∨ fieldsFit fs = false then s
    else
      let q := ringOf s 0
      let r := run (toHost s (q.base + 32 * q.head) (leBytes 32 (pack ((0, 16, op) :: fs))))
      match r.2 with | some status => cmdDone r.1 status | none => r.1)

/-- A command that is done when its parameters are in range, and rejected when they are not. -/
def checked (ok : Bool) (f : State → State) (s : State) : State × Option Nat := if ok then (f s, some 0) else (s, some 1)

/-- R302, R311. QUEUE_SET. -/
def execQueueSet (queue asid prio n cq base headAddr : Nat) : State → Out :=
  command 1 (atBytes [(4, 16, queue), (6, 16, asid), (8, 8, prio), (9, 8, n), (10, 8, cq), (12, 64, base), (20, 64, headAddr)])
    (checked (decide (queue < 1024) && decide (asid < 512) && decide (prio < 8) && decide (4 ≤ n) && decide (n ≤ 16))
      (fun s =>
        let q : Queue := { asid := asid, prio := prio, n := n, cq := cq, base := base, headAddr := headAddr, head := 0, tail := 0,
                           upTo := none }
        { s with queues := put s.queues queue q }))

/-- R67: translations of an address space's range leave every TLB, and code lines of it every instruction cache. -/
def dropTranslations (s : State) (asid base len : Nat) : State :=
  let hit := fun (t : TlbEntry) => decide (t.asid = asid) && (decide (len = 0) || (decide (t.va < base + len) && decide (base < t.va + t.size)))
  dropCode { s with
    dies := s.dies.map (fun d => (d.1, { d.2 with tlb := d.2.tlb.filter (fun t => !(hit t)) }))
    cores := s.cores.map (fun c => (c.1, { c.2 with tlb := c.2.tlb.filter (fun t => !(hit t)) })) } asid base len (decide (len = 0))

/-- R67: the invalidation begins; accesses issued before now are to complete. -/
def beginInval (s : State) (asid base len : Nat) : State × Option Nat :=
  let s1 := dropTranslations s asid base len
  ({ s1 with ctl := { s1.ctl with inval := some (asid, s1.fresh) } }, none)

/-- R62, R64, R67, R302. ASID_BIND. -/
def execAsidBind (asid fn : Nat) (sys : Bool) (root : Nat) : State → Out :=
  command 2 (atBytes [(4, 16, asid), (6, 8, fn), (7, 1, sys.toNat), (8, 64, root)])
    (fun s =>
      if asid < 512 ∧ fn ≤ 64 ∧ root % 2048 = 0 ∧ root < 2 ^ 52 then
        let a := s.asid asid
        let s1 := s.setAsid asid { a with bound := true, root := root, fn := fn, sys := sys }
        if a.bound then beginInval s1 asid 0 0 else (s1, some 0)
      else (s, some 1))

/-- R68. VF_BOUNDS. -/
def execVfBounds (fn hbmBase hbmBound tierBase tierBound : Nat) : State → Out :=
  command 3 (atBytes [(4, 8, fn), (8, 32, hbmBase), (12, 32, hbmBound), (16, 32, tierBase), (20, 32, tierBound)])
    (checked (decide (1 ≤ fn) && decide (fn ≤ 64)) (fun s =>
      let v : Vf := { hbmBase := hbmBase, hbmBound := hbmBound, tierBase := tierBase, tierBound := tierBound }
      { s with vfs := put s.vfs fn v }))

/-- R78: a unit that can be granted. -/
def unitOpen (unit : Nat) : Bool := decide (unit < 320) && decide (unit ≠ 39 * 8)

/-- R78. OUNIT_GRANT: the first unit granted as System holds the address space's descriptor table (assumption 8). -/
def execOunitGrant (asid unit code : Nat) : State → Out :=
  command 4 (atBytes [(4, 16, asid), (6, 16, unit), (8, 2, code)])
    (checked (decide (asid < 512) && unitOpen unit) (fun s =>
      let a := s.asid asid
      s.setAsid asid { a with
        units := put a.units unit code, objBase := if code = 3 then some (a.objBase.getD (unit * 2 ^ 21)) else a.objBase }))

/-- R67. TLB_INVAL. -/
def execTlbInval (asid base length : Nat) : State → Out :=
  command 5 (atBytes [(4, 16, asid), (8, 64, base), (16, 64, length)])
    (fun s => if asid < 512 then beginInval s asid base length else (s, some 1))

/-- R67, R309: no access of the address space issued before this place is under way, and no write of it to the host. -/
def accessesDone (s : State) (asid serial : Nat) : Bool :=
  let old := fun (w n : Nat) => decide (n < serial) && ((look s.waves w).map (fun v => decide (v.asid = asid))).getD true
  !((hostWrites s).any (fun o => old o.wave o.serial)) && !(s.homeQ.any (fun o => old o.wave o.serial)) && !(s.replies.any (fun r => old r.wave r.serial)) &&
  !(s.cores.any (fun c => c.2.data.held.any (fun h => old h.wave h.serial))) && !(s.sends.any (fun m => old m.wave m.serial))

/-- R67, R302. TLB_INVAL_COMPLETE. -/
def execTlbInvalComplete (s : State) : Out :=
  .next (match s.ctl.inval with
    | none => s
    | some (asid, serial) =>
      if accessesDone s asid serial then cmdDone { s with ctl := { s.ctl with inval := none } } 0 else s)

/-- R262, R263: a verdict on a park: of an entity or copy in place, or of a context that is out. -/
def verdict (s : State) (die park : Nat) (retry : Bool) : State :=
  match (s.die die).parks.find? (fun p => decide (p.id = park)) with
  | some p => answerPark (s.setDie die { s.die die with parks := (s.die die).parks.filter (fun q => decide (q.id ≠ park)) }) p retry
  | none =>
    { s with contexts := s.contexts.map (fun c =>
      if c.die = die ∧ c.parks.any (fun p => decide (p.id = park)) = true ∧ c.answers.any (fun a => decide (a.1 = park)) = false then
        { c with
          answers := c.answers ++ [(park, if retry then 0 else 1)]
          parks := c.parks.map (fun p => if p.id = park then { p with waiting := [] } else p) }
      else c) }

/-- R262, R302. FAULT_ANSWER. -/
def execFaultAnswer (die verdict' park : Nat) : State → Out :=
  command 6 (atBytes [(4, 8, die), (5, 8, verdict'), (6, 16, park)])
    (checked (decide (die < 8) && decide (verdict' < 2)) (fun s => verdict s die park (decide (verdict' = 0))))

/-- R43, R45: a descriptor at creation. -/
def newDescriptor (asid slots rule : Nat) (hostVis : Bool) (slotSize slotBase quality gen : Nat) : Nat :=
  let x := [(ObjField.asid, asid), (.ldone, 1), (.gen, gen), (.hostVis, hostVis.toNat), (.rule, rule), (.km1, slots - 1), (.slotSize, slotSize),
    (.slotBase, slotBase / 4096), (.quality, quality)].foldl (fun (x : Nat) (f : ObjField × Nat) => objSet x f.1 f.2) 0
  (List.range slots).foldl (fun x j => objSet x (.age j) ((j + 1) % slots)) x

/-- R43: parameters of an object within their limits. -/
def objOk (asid index slots rule slotSize slotBase : Nat) : Bool :=
  decide (asid < 512) && decide (index < 4096) && decide (2 ≤ slots) && decide (slots ≤ 8) && decide (rule ≤ 2) && decide (1 ≤ slotSize) &&
  decide (slotSize < 2 ^ 24) && decide (slotBase % 4096 = 0) && decide (slotBase + slots * slotSize * 4096 ≤ 2 ^ 56)

/-- R43 to R45, R302. OBJ_CREATE: the one way an object comes to be; of how a kernel with system privilege creates one the spec gives no
operation (assumption 85). -/
def execObjCreate (asid index slots rule : Nat) (hostVis : Bool) (slotSize slotBase quality : Nat) : State → Out :=
  command 7 (atBytes [(4, 16, asid), (6, 16, index), (8, 8, slots), (9, 8, rule), (10, 1, hostVis.toNat), (12, 32, slotSize), (16, 64, slotBase),
      (24, 32, quality)])
    (fun s =>
      match objOff s asid index with
      | none => (s, some 1)
      | some off =>
        let a := s.asid asid
        if objOk asid index slots rule slotSize slotBase = false then (s, some 1)
        else if (look a.objs index).getD false then (s, some 2)
        else
          let gen := match look a.gens index with | some g => (g + 1) % 2 ^ 20 | none => 1
          let s1 := s.setAsid asid { a with objs := put a.objs index true, gens := put a.gens index gen }
          (objWrite s1 off (newDescriptor asid slots rule hostVis slotSize slotBase quality gen), some 0))

/-- R302: a pin of the object is held. -/
def anyPin (x : Nat) : Bool := (List.range 8).any (fun k => decide (objGet x (.pin k) ≠ 0))

/-- R302. OBJ_DESTROY: not while a launch is bound or a pin is held. -/
def execObjDestroy (asid index : Nat) : State → Out :=
  command 8 (atBytes [(4, 16, asid), (6, 16, index)])
    (fun s =>
      let a := s.asid asid
      match (if (look a.objs index).getD false then objOff s asid index else none) with
      | none => (s, some 1)
      | some off =>
        let x := objRead s off
        if objGet x .ldone = 0 ∨ anyPin x = true then (s, some 2)
        else (s.setAsid asid { a with objs := put a.objs index false }, some 0))

/-- R237: a vector-register count that a record can give. -/
def vregsOk (n : Nat) : Bool := decide (8 ≤ n) && decide (n ≤ 64) && decide (n % 8 = 0)

/-- R227, R302. HANDLER_SET. -/
def execHandlerSet (asid index vregs entry handler : Nat) : State → Out :=
  command 9 (atBytes [(4, 16, asid), (6, 16, index), (8, 8, vregs), (12, 64, entry), (20, 64, handler)])
    (checked (decide (asid < 512) && decide (index < 4096) && vregsOk vregs) (fun s =>
      let a := s.asid asid
      s.setAsid asid { a with handlers := put a.handlers index { vregs := vregs, entry := entry, handler := handler } }))

/-- R248, R302. RXQ_SET: packets that wait keep their entries and children their ring; the pavilion, which may hold a reserve now, is not idle (R289). -/
def execRxqSet (prio cres vregs pav entries ring spillSize base spill : Nat) : State → Out :=
  command 10 (atBytes [(4, 8, prio), (5, 8, cres), (6, 8, vregs), (7, 8, pav), (8, 16, entries - 1), (12, 32, ring), (16, 32, spillSize),
      (20, 48, base / 4096), (26, 48, spill / 4096)])
    (checked (decide (prio < 4) && decide (cres ≤ 4) && vregsOk vregs && decide (pav < 32) && decide (1 ≤ entries)) (fun s =>
      let old := look s.rxqs prio
      let q : Rxq :=
        { entries := entries, pav := pav, cres := cres, vregs := vregs, ring := ring, spillSize := spillSize, base := base, spill := spill,
          spillRing := (old.map (fun q => q.spillRing)).getD [], ringAt := 0, waiting := (old.map (fun q => q.waiting)).getD [], taken := (old.map (fun q => q.taken)).getD 0 }
      usePav { s with rxqs := put s.rxqs prio q } pav))

/-- R230, R231. WINDOW_REG. -/
def execWindowReg (number : Nat) (reduce : Bool) (format contributors base length arrival origin elements : Nat) (expo : Int) : State → Out :=
  command 11 (atBytes [(4, 16, number), (6, 1, reduce.toNat), (7, 8, if reduce then contributors - 1 else 0), (8, 64, base), (16, 32, length),
      (20, 32, arrival), (24, 32, origin), (28, 24, if reduce then elements else 0), (31, 8, (BitVec.ofInt 8 (if reduce then expo else 0)).toNat)] ++
      [(49, 2, if reduce then format else 0)])
    (checked (decide (number < 1024) && decide (format ≤ 2) && decide (arrival % 8 = 0) && decide (arrival < 2 ^ 30) && decide (origin % 8 = 0) &&
        decide (origin < 2 ^ 30)) (fun s =>
      let w : Window :=
        { reduce := reduce, format := format, contributors := contributors, base := base, length := length, arrival := arrival, origin := origin,
          elements := elements, expo := expo, arrived := 0, sums := [], nans := [], posInf := [], negInf := [], saturated := false }
      { s with windows := put s.windows number w }))

/-- R302. WINDOW_DEREG: sends into the window that are in flight fail (R265). -/
def execWindowDereg (number : Nat) : State → Out :=
  command 12 (atBytes [(4, 16, number)]) (checked (decide (number < 1024)) (fun s =>
    { s with windows := erase s.windows number, sends := s.sends.map (fun m => if m.window = number then { m with failed := true } else m) }))

/-- R282. FENCE_CLEAR. -/
def execFenceClear (die core : Nat) : State → Out :=
  command 13 (atBytes [(4, 8, die), (5, 8, core)])
    (checked (decide (die < 8) && decide (core < 64)) (fun s =>
      { s with mgmt := { s.mgmt with fences := s.mgmt.fences.filter (fun c => decide (c ≠ 64 * die + core)) } }))

/-- R271, R302. DISPATCH_RESTORE. A takeover that its peer still owes goes on; one that no peer is left to make is over. -/
def execDispatchRestore (dc : Nat) : State → Out :=
  command 14 (atBytes [(4, 8, dc)])
    (checked (decide (dc < 2)) (fun s =>
      let d := s.dispatch
      if d.halted.getD dc false = false then s
      else { s with dispatch := { d with
        halted := setNth d.halted dc false, missed := setNth d.missed dc 0, beats := setNth d.beats dc s.tick
        signalled := if d.halted.getD (1 - dc) false then setNth d.signalled dc false else d.signalled } }))

/-- R247, R302. CQ_SET. -/
def execCqSet (cq n base : Nat) : State → Out :=
  command 15 (atBytes [(4, 8, cq), (5, 8, n), (12, 64, base)])
    (checked (decide (4 ≤ n) && decide (n ≤ 16) && decide (base % 4096 = 0)) (fun s =>
      { s with cqs := put s.cqs cq { n := n, base := base, tail := 0, head := 0, phase := true } }))

/-- R302, R311: the device takes the command that stands at the head of the ring. An opcode that R302 does not list is rejected
(assumption 24). -/
def takeCommand (s : State) : Out :=
  let q := ringOf s 0
  let f := fun (i n : Nat) => rdN s.mem (hostAt + q.base + 32 * q.head + i) n
  let odd := fun (i : Nat) => decide (f i 1 % 2 = 1)
  match f 0 2 with
  | 1 => execQueueSet (f 4 2) (f 6 2) (f 8 1) (f 9 1) (f 10 1) (f 12 8) (f 20 8) s
  | 2 => execAsidBind (f 4 2) (f 6 1) (odd 7) (f 8 8) s
  | 3 => execVfBounds (f 4 1) (f 8 4) (f 12 4) (f 16 4) (f 20 4) s
  | 4 => execOunitGrant (f 4 2) (f 6 2) (f 8 1 % 4) s
  | 5 => execTlbInval (f 4 2) (f 8 8) (f 16 8) s
  | 6 => execFaultAnswer (f 4 1) (f 5 1) (f 6 2) s
  | 7 => execObjCreate (f 4 2) (f 6 2) (f 8 1) (f 9 1) (odd 10) (f 12 4) (f 16 8) (f 24 4) s
  | 8 => execObjDestroy (f 4 2) (f 6 2) s
  | 9 => execHandlerSet (f 4 2) (f 6 2) (f 8 1) (f 12 8) (f 20 8) s
  | 10 => execRxqSet (f 4 1) (f 5 1) (f 6 1) (f 7 1) (f 8 2 + 1) (f 12 4) (f 16 4) (f 20 6 * 4096) (f 26 6 * 4096) s
  | 11 => execWindowReg (f 4 2) (odd 6) (f 6 1 / 2 % 4) (f 7 1 + 1) (f 8 8) (f 16 4) (f 20 4) (f 24 4) (f 28 3)
      (BitVec.ofNat 8 (f 31 1)).toInt s
  | 12 => execWindowDereg (f 4 2) s
  | 13 => execFenceClear (f 4 1) (f 5 1) s
  | 14 => execDispatchRestore (f 4 1) s
  | 15 => execCqSet (f 4 1) (f 5 1) (f 12 8) s
  | _ => .next (if cmdReady s then cmdDone s 1 else s)

/-! ### Doorbells and CTL registers (R234, R235, R300 to R305) -/

/-- R235, R301, R305. DOORBELL: ignored outside STATE 4 and for a queue that is not set up. -/
def execDoorbell (queue tail : Nat) (s : State) : Out :=
  .next (match look s.queues queue with
    | none => s
    | some q =>
      if s.ctl.bootState ≠ 4 then s
      else
        let d := s.dispatch
        { s with
          queues := put s.queues queue { q with tail := tail % 2 ^ q.n }
          dispatch := { d with kicks := if d.kicks.contains queue then d.kicks else d.kicks ++ [queue] } })

/-- R302. CQHEAD. -/
def execCqhead (cq head : Nat) (s : State) : Out :=
  .next (match look s.cqs cq with
    | none => s
    | some q => { s with cqs := put s.cqs cq { q with head := head % 2 ^ q.n } })

/-- R301, R305. CHIPID: written only in STATE 3; the Draow Fabric ports then train. -/
def execChipid (value : Nat) (s : State) : Out :=
  .next (
    if s.ctl.bootState = 3 then
      { s with
        ctl := { s.ctl with chipId := BitVec.ofNat 12 value, trained := true }, mgmt := { s.mgmt with keptChip := some (BitVec.ofNat 12 value) } }
    else s)

/-- R4, R301: the host writes DEVSTAT; ones in the OVF field, bits [6:4], clear its bits and the other fields ignore the write. -/
def execDevstatOvfClear (bits' : Nat) (s : State) : Out :=
  .next { s with ctl := { s.ctl with ovf := (s.ctl.ovf.zipIdx).map (fun p => p.1 && !(bits'.testBit p.2)) } }

/-- R301: sizes of a ring: 2^4 to 2^16 entries, or 0 for a ring that is not set up. -/
def ringSizeOk (n : Nat) : Bool := decide (n = 0) || ((List.range 13).any (fun i => decide (n = 2 ^ (i + 4))))

/-- R301. A write of a ring's BASE or SIZE sets its HEAD and TAIL to 0. -/
def execRingSetupWrite (ring : Nat) (size : Bool) (value : Nat) (s : State) : Out :=
  .next (
    if 4 ≤ ring ∨ (size = true ∧ ringSizeOk value = false) then s
    else
      let q := ringOf s ring
      let q1 := if size then { q with size := value } else { q with base := value / 4096 * 4096 }
      { s with ctl := { s.ctl with rings := put s.ctl.rings ring { q1 with head := 0, tail := 0 } } })

/-- R301, R304. The host advances the HEAD of a device-to-host ring. -/
def execRingHeadWrite (ring head : Nat) (s : State) : Out :=
  .next (
    let q := ringOf s ring
    if ring = 0 ∨ 4 ≤ ring ∨ q.size = 0 then s
    else { s with ctl := { s.ctl with rings := put s.ctl.rings ring { q with head := head % q.size } } })

/-- R301. Other registers: SIGADDR, and the TAIL of the CMD ring; the rest ignore writes. -/
def execRegisterWrite (offset value : Nat) (s : State) : Out :=
  .next (
    if offset = 0xE0 then { s with ctl := { s.ctl with sigAddr := value % 2 ^ 64 } }
    else if offset = 0x38 then
      let q := ringOf s 0
      if q.size = 0 then s else { s with ctl := { s.ctl with rings := put s.ctl.rings 0 { q with tail := value % q.size } } }
    else s)

/-- R301: DEVSTAT; its reserved bits read zero (R5). -/
def devstat (c : Ctl) : Nat :=
  let ovf := fun (i : Nat) => (c.ovf.getD i false).toNat
  pack [(0, 4, c.bootState), (4, 1, ovf 0), (5, 1, ovf 1), (6, 1, ovf 2), (7, 1, c.staged.toNat), (8, 8, c.bootErr)]

/-- R301: a register of a ring. -/
def ringRead (q : Ring) (n : Nat) : Nat := match n with | 0 => q.base | 1 => q.size | 2 => q.head | _ => q.tail

/-- R301, R4, R5: what a read of the CTL register at an offset returns. It changes nothing. RESETCTL, CQHEAD and DOORBELL, which are write only,
and reserved offsets read zero. -/
def ctlRead (s : State) (off : Nat) : Nat :=
  if off = 0x00 then 0x0000D909
  else if off = 0x08 then devstat s.ctl
  else if off = 0x10 then s.ctl.chipId.toNat
  else if 0x20 ≤ off ∧ off < 0x40 then ringRead (ringOf s 0) ((off - 0x20) / 8)
  else if off = 0x40 then s.ctl.cmdDone
  else if 0x60 ≤ off ∧ off < 0xC0 then ringRead (ringOf s ((off - 0x40) / 0x20)) (off % 0x20 / 8)
  else if off = 0xE0 then s.ctl.sigAddr
  else 0

/-! ### The warm reset (R305) -/

/-- R305: the image that runs after a reset: the staged one, if there is one. -/
def nextImage (s : State) : Mgmt :=
  match s.mgmt.inactive with
  | some i => if s.ctl.staged then { s.mgmt with active := i, inactive := some s.mgmt.active } else s.mgmt
  | none => s.mgmt

/-- R305: the part right after a warm reset: memory, the fence list and CHIPID are kept, everything else is as after power-on, and boot
goes on at step 2. -/
def warmReset (s : State) : State :=
  { State.reset with
    now := s.now, resetAt := s.now, sched := s.sched, pace := s.pace, fresh := s.fresh, mem := s.mem
    poison := s.poison.filter (fun p => match p with | .memory _ => true | _ => false), mgmt := nextImage s
    ctl := { Ctl.reset with bootState := 2, chipId := s.ctl.chipId } }

/-- R305, R307. WARM_RESET: RESETCTL is written with 1, or a thermal trip's completions have been posted. -/
def execWarmReset (word : Nat) (s : State) : Out :=
  .next (
    if word = 1 then (if s.ctl.bootState = 0 then s else warmReset s)
    else if s.ctl.tripped = true ∧ s.launches.all (fun l => decide (l.2.phase = .taken) || decide (l.2.phase = .posted)) = true ∧
        s.dispatch.toPost = [] then warmReset s
    else s)

/-! ### Apertures (R300, R303) -/

/-- R300: the device physical address of a DMEM offset. -/
def dmemAddr (x : Nat) : Nat := if x < 2 ^ 42 then x else tierAt + (x - 2 ^ 42)

/-- R275: a store through DMEM that covers a line of memory wholly clears its poison. -/
def cleanLines (s : State) (pa n : Nat) : State :=
  { s with poison := s.poison.filter (fun p => match p with | .memory a => !(decide (pa ≤ a) && decide (a + 64 ≤ pa + n)) | _ => true) }

/-- R300: one byte of DMEM as the host reads it: memory as its home die sees it, and all ones where there is no target. -/
def dmemByte (s : State) (off : Nat) : Byte :=
  let pa := dmemAddr off
  match homeDie pa with | some d => if off < 2 ^ 43 then dieByte s d pa else 0xFF | none => 0xFF

/-- What a host's load returned. -/
def hostReads (s : State) (bs : List Byte) : State := { s with ctl := { s.ctl with reads := s.ctl.reads ++ [bs] } }

/-- R300. Host loads and stores through DMEM; where there is no target a load reads all ones and a store is dropped. In recovery DMEM does not
respond (R305). -/
def execDmemAccess (acc : HostAccess) (s : State) : Out :=
  .next (match acc with
    | .load off n => if s.ctl.bootState = 5 then s else hostReads s ((List.range n).map (fun i => dmemByte s (off + i)))
    | .store off data =>
      if s.ctl.bootState = 5 then s
      else (data.zipIdx).foldl (fun (s : State) p =>
        let pa := dmemAddr (off + p.2)
        if off + p.2 < 2 ^ 43 ∧ target pa ≠ .none then wake (hostWrite s pa [p.1]) (.global (pa / 64)) else s)
        (cleanLines s (dmemAddr off) data.length))

/-- R44, R303: the object whose descriptor stands at a line, with its bits. -/
def objAtLine (s : State) (line : Nat) : Option Nat := if descAt s line then some (objRead s line) else none

/-- R300, R4, R5, R45, R238: a store of the host to Orangery offsets; its bytes on an object's descriptor or the journal ring are ignored, since
every field there is read only or reserved. -/
def hostOrng (s : State) (off : Nat) (data : List Byte) : State :=
  (data.zipIdx).foldl (fun (t : State) p => if fixedAt s (off + p.2) then t else { t with orangery := wr t.orangery (off + p.2) p.1 }) s

/-- R303: the eight words that the host receives. -/
def hostGroup (x : Option Nat) (status : Nat) : List Byte :=
  let ws := match x with | some x => (resultGroup x).take 7 | none => List.replicate 7 0
  (ws ++ [BitVec.ofNat 32 status]).flatMap (fun (w : Word) => leBytes 4 w.toNat)

/-- R303: one operation of the window on a descriptor line. -/
def windowOp (op line slot gen host : Nat) (s : State) : State :=
  let off := line / 64 * 64
  let reply := fun (s : State) (x : Option Nat) (status : Nat) => toHost s (host / 32 * 32) (hostGroup x status)
  if op ≠ 2 ∧ op ≠ 3 ∧ op ≠ 4 then reply s none 3
  else match objAtLine s off with
    | none => reply s none 1
    | some x =>
      if objGet x .gen ≠ gen % 2 ^ 20 then reply s none 1
      else match op with
        | 2 => reply s (some x) 0
        | 3 => (match pinOp x with | some y => reply (objWrite s off y) (some y) 0 | none => reply s none 2)
        | _ => (match relOp x (slot % 8) with
          | some y =>
            let s1 := objWrite s off y
            reply (if objGet y (.pin (slot % 8)) = 0 then wakeLine s1 off else s1) (some y) 0
          | none => reply s none 2)

/-- R303, R305: the window, which does not respond in recovery. -/
def window (op line slot gen host : Nat) (s : State) : Out := .next (if s.ctl.bootState = 5 then s else windowOp op line slot gen host s)

/-- R303, R52. -/
def execOrngVget (line gen host : Nat) (s : State) : Out := window 2 line 0 gen host s

/-- R303, R53. -/
def execOrngVpin (line gen host : Nat) (s : State) : Out := window 3 line 0 gen host s

/-- R303, R214. -/
def execOrngVrel (line slot gen host : Nat) (s : State) : Out := window 4 line slot gen host s

/-- R300, R303. Host loads and stores through ORNG: offsets below 2^30, and 16-byte operations above, where loads read bytes that the spec does
not give (assumption 86). A store ends the poison of the granules that it writes wholly (R275), and of none where it is ignored (R4, assumption 81).
In recovery ORNG does not respond (R305). -/
def execOrngAccess (acc : HostAccess) (s : State) : Out :=
  .next (match acc with
    | .load off n =>
      if s.ctl.bootState = 5 then s
      else hostReads s ((List.range n).map (fun i => if off + i < 2 ^ 30 then rd s.orangery (off + i) else Config.windowByte (s.ctl.reads.length + i)))
    | .store off data =>
      if s.ctl.bootState = 5 then s
      else if off + data.length ≤ 2 ^ 30 then
        let s1 := s.clean (fun p => match p with | .orangery o => wholeIn o off data.length && !(fixedAt s o) | _ => false)
        let s2 := hostOrng s1 off data
        (List.range (data.length / 64 + 2)).foldl (fun s i => wakeLine s (off + 64 * i)) s2
      else if 2 ^ 30 ≤ off ∧ off < 2 ^ 31 ∧ data.length = 16 then
        let w := leNat data
        windowOp (bits w 0 32) (off - 2 ^ 30) (bits w 32 3) (bits w 44 20) (bits w 64 64) s
      else s)

end Sys2Proof.Machine
end

