-- ==== Sys2Proof/Machine/Manage.lean ====
section
/-! DEFINITION. Boot (R305), attestation (R306) and board management (R288, R289, R305, R307). -/

namespace Sys2Proof.Machine

open Sys2Proof

/-! ### Boot (R305) -/

/-- R305: a step of boot that failed. -/
def bootFail (s : State) (err : Nat) : State := { s with ctl := { s.ctl with bootState := 5, bootErr := err } }

/-- R305: boot goes on to a STATE. -/
def bootTo (s : State) (st : Nat) : State := { s with ctl := { s.ctl with bootState := st } }

/-- R305, step 2: the active image is verified and its version checked. -/
def verifyImage (s : State) : State :=
  let i := s.mgmt.active
  if i.signatureOk = false then bootFail s 1 else if i.version < s.mgmt.minVersion then bootFail s 2 else bootTo s 3

/-- R305, step 4: every core that is not fenced runs self-test. -/
def bootTests (s : State) (failed : List Nat) : State :=
  let cores := (List.range 512).filter (fun c => !(s.mgmt.fences.contains c))
  let s1 := cores.foldl (fun s c => if failed.contains c then testFailed s c else countUp s (dieOfCore c) ctrTestPass) s
  if cores.all (fun c => failed.contains c) then bootFail s1 5 else bootTo s1 4

/-- R305: what a power-on reset keeps. -/
def powerOn (s : State) : State :=
  { State.reset with
    now := s.now, resetAt := s.now, sched := s.sched, pace := s.pace, fresh := s.fresh
    mgmt := { nextImage s with keptChip := none }, ctl := { Ctl.reset with bootState := 1 } }

/-- R305. POWER_ON_RESET: one step of boot: power-good, the ROM, authentication, training with self-test (training of memory, 3, or of links,
4, may fail, and cores may fail their test). After boot it is a power-on reset of a running part. -/
def execPowerOnReset (trainErr : Nat) (failed : List Nat) (s : State) : Out :=
  .next (match s.ctl.bootState with
    | 0 => bootTo s 1
    | 1 => bootTo s 2
    | 2 => verifyImage s
    | 3 =>
      let s1 := if s.mgmt.keptChip.isSome then { s with ctl := { s.ctl with trained := true } } else s
      if trainErr = 3 ∨ trainErr = 4 then bootFail s1 trainErr else bootTests s1 failed
    | _ => powerOn s)

/-- R305. PLDM_FIRMWARE_UPDATE: in service and in recovery, the inactive bank receives an image; it is staged if it verifies. -/
def execPldmFirmwareUpdate (image : Firmware) (s : State) : Out :=
  .next (
    if s.ctl.bootState ≠ 4 ∧ s.ctl.bootState ≠ 5 then s
    else
      let ok := image.signatureOk && decide (s.mgmt.minVersion ≤ image.version)
      { s with
        mgmt := { s.mgmt with inactive := some image, pldm := s.mgmt.pldm ++ [.update ok] }, ctl := { s.ctl with staged := ok } })

/-! ### Attestation (R306) -/

/-- R306: the responder answers; in recovery it does not (R305). -/
def spdm (r : SpdmReply) (s : State) : Out :=
  .next (if s.ctl.bootState = 4 then { s with mgmt := { s.mgmt with spdm := s.mgmt.spdm ++ [r] } } else s)

/-- R306: SPDM 1.3. -/
def execGetVersion (s : State) : Out := spdm (.version 1 3) s

/-- R306: certificates, challenges and measurements; no KEY_EXCHANGE, no sessions. -/
def execGetCapabilities (s : State) : Out := spdm (.capabilities true true true false false) s

/-- R306: the only algorithms. -/
def execNegotiateAlgorithms (s : State) : Out := spdm (.algorithms "RSASSA-PSS RSA-4096" "SHA-512") s

/-- R306: the digest of the one chain. -/
def execGetDigests (s : State) : Out := spdm (.digest 0 (Config.digest [0])) s

/-- R306: the chain of slot 0. -/
def execGetCertificate (slot : Nat) (s : State) : Out := spdm (if slot = 0 then .certificate 0 Config.certificate else .error) s

/-- R306: a challenge of slot 0. -/
def execChallenge (slot nonce : Nat) (s : State) : Out := spdm (if slot = 0 then .signature (Config.signature nonce) else .error) s

/-- R306: what a measurement covers: the boot ROM, the firmware and the placement microcode of the active image, the fence list with the fused
minimum version and the chip. -/
def measured (s : State) (index : Nat) : List Nat :=
  match index with
  | 1 => []
  | 2 => [s.mgmt.active.version, s.mgmt.active.signatureOk.toNat]
  | 3 => [s.mgmt.active.version, s.mgmt.active.signatureOk.toNat]
  | _ => s.mgmt.minVersion :: s.mgmt.fences

/-- R306: indices 1 to 4. -/
def execGetMeasurements (index : Nat) (s : State) : Out :=
  spdm (if 1 ≤ index ∧ index ≤ 4 then .measurement index (Config.digest (index :: measured s index)) else .error) s

/-! ### Board management (R288, R289, R307) -/

/-- A report of the management controller. -/
def report (s : State) (r : PldmReport) : State := { s with mgmt := { s.mgmt with pldm := s.mgmt.pldm ++ [r] } }

/-- R307. PLDM_MONITOR: a temperature, a power; the reading is free (assumption 13). -/
def execPldmMonitor (item : Nat) (s : State) : Out :=
  .next (
    if s.ctl.bootState = 5 then s
    else
      let n := (look s.mgmt.sensors item).getD 0
      report { s with mgmt := { s.mgmt with sensors := put s.mgmt.sensors item (n + 1) } } (.sensor item (Config.sensor item n)))

/-- R288, R69. COUNTER_READ: the read that returns a counter clears it; from 1,000 on, the L2 misses of a 2 MiB range. -/
def execCounterRead (die counter : Nat) (s : State) : Out :=
  .next (
    let d := s.die die
    if 8 ≤ die ∨ s.ctl.bootState = 5 then s
    else if 1000 ≤ counter then
      report (s.setDie die { d with misses := erase d.misses (counter - 1000) }) (.counter die counter ((look d.misses (counter - 1000)).getD 0))
    else report (s.setDie die { d with counters := erase d.counters counter }) (.counter die counter ((look d.counters counter).getD 0)))

end Sys2Proof.Machine
end

