-- ==== Sys2Proof/Machine/Dispatch.lean ====
section
/-! DEFINITION. The one dispatch from an instruction or device step to its meaning. -/

namespace Sys2Proof.Machine

open Sys2Proof

/-- One instruction word executed, or one device step taken. -/
def exec (i : Instr) (s : State) : Host.Outcome State Fault Refusal :=
  match i with
  | .add e d a b => Sys2Proof.Machine.execAdd e d a b s
  | .sub e d a b => Sys2Proof.Machine.execSub e d a b s
  | .mul e d a b => Sys2Proof.Machine.execMul e d a b s
  | .mulh e d a b => Sys2Proof.Machine.execMulh e d a b s
  | .mulhu e d a b => Sys2Proof.Machine.execMulhu e d a b s
  | .div e d a b => Sys2Proof.Machine.execDiv e d a b s
  | .divu e d a b => Sys2Proof.Machine.execDivu e d a b s
  | .rem e d a b => Sys2Proof.Machine.execRem e d a b s
  | .remu e d a b => Sys2Proof.Machine.execRemu e d a b s
  | .andS e d a b => Sys2Proof.Machine.execAndS e d a b s
  | .orS e d a b => Sys2Proof.Machine.execOrS e d a b s
  | .xorS e d a b => Sys2Proof.Machine.execXorS e d a b s
  | .shl e d a b => Sys2Proof.Machine.execShl e d a b s
  | .shr e d a b => Sys2Proof.Machine.execShr e d a b s
  | .sra e d a b => Sys2Proof.Machine.execSra e d a b s
  | .slt e d a b => Sys2Proof.Machine.execSlt e d a b s
  | .sltu e d a b => Sys2Proof.Machine.execSltu e d a b s
  | .minS e d a b => Sys2Proof.Machine.execMinS e d a b s
  | .maxS e d a b => Sys2Proof.Machine.execMaxS e d a b s
  | .minu e d a b => Sys2Proof.Machine.execMinu e d a b s
  | .maxu e d a b => Sys2Proof.Machine.execMaxu e d a b s
  | .sextI8 e d a => Sys2Proof.Machine.execSextI8 e d a s
  | .sextI16 e d a => Sys2Proof.Machine.execSextI16 e d a s
  | .zextU8 e d a => Sys2Proof.Machine.execZextU8 e d a s
  | .zextU16 e d a => Sys2Proof.Machine.execZextU16 e d a s
  | .addi e d a imm => Sys2Proof.Machine.execAddi e d a imm s
  | .andi e d a imm => Sys2Proof.Machine.execAndi e d a imm s
  | .ori e d a imm => Sys2Proof.Machine.execOri e d a imm s
  | .xori e d a imm => Sys2Proof.Machine.execXori e d a imm s
  | .shli e d a imm => Sys2Proof.Machine.execShli e d a imm s
  | .shri e d a imm => Sys2Proof.Machine.execShri e d a imm s
  | .srai e d a imm => Sys2Proof.Machine.execSrai e d a imm s
  | .slti e d a imm => Sys2Proof.Machine.execSlti e d a imm s
  | .sltiu e d a imm => Sys2Proof.Machine.execSltiu e d a imm s
  | .lih e d imm => Sys2Proof.Machine.execLih e d imm s
  | .add64 e d a b => Sys2Proof.Machine.execAdd64 e d a b s
  | .sub64 e d a b => Sys2Proof.Machine.execSub64 e d a b s
  | .shl64 e d a b => Sys2Proof.Machine.execShl64 e d a b s
  | .shr64 e d a b => Sys2Proof.Machine.execShr64 e d a b s
  | .popc e d a => Sys2Proof.Machine.execPopc e d a s
  | .clz e d a => Sys2Proof.Machine.execClz e d a s
  | .ctz e d a => Sys2Proof.Machine.execCtz e d a s
  | .fns e d a b => Sys2Proof.Machine.execFns e d a b s
  | .brev e d a => Sys2Proof.Machine.execBrev e d a s
  | .popcI64 e d a => Sys2Proof.Machine.execPopcI64 e d a s
  | .clzI64 e d a => Sys2Proof.Machine.execClzI64 e d a s
  | .ctzI64 e d a => Sys2Proof.Machine.execCtzI64 e d a s
  | .fnsI64 e d a b => Sys2Proof.Machine.execFnsI64 e d a b s
  | .brevI64 e d a => Sys2Proof.Machine.execBrevI64 e d a s
  | .vadd e d a b p => Sys2Proof.Machine.execVadd e d a b p s
  | .vsub e d a b p => Sys2Proof.Machine.execVsub e d a b p s
  | .vmul e d a b p => Sys2Proof.Machine.execVmul e d a b p s
  | .vmulh e d a b p => Sys2Proof.Machine.execVmulh e d a b p s
  | .vmulhu e d a b p => Sys2Proof.Machine.execVmulhu e d a b p s
  | .vand e d a b p => Sys2Proof.Machine.execVand e d a b p s
  | .vor e d a b p => Sys2Proof.Machine.execVor e d a b p s
  | .vxor e d a b p => Sys2Proof.Machine.execVxor e d a b p s
  | .vshl e d a b p => Sys2Proof.Machine.execVshl e d a b p s
  | .vshr e d a b p => Sys2Proof.Machine.execVshr e d a b p s
  | .vsra e d a b p => Sys2Proof.Machine.execVsra e d a b p s
  | .vmin e d a b p => Sys2Proof.Machine.execVmin e d a b p s
  | .vmax e d a b p => Sys2Proof.Machine.execVmax e d a b p s
  | .vminu e d a b p => Sys2Proof.Machine.execVminu e d a b p s
  | .vmaxu e d a b p => Sys2Proof.Machine.execVmaxu e d a b p s
  | .vsel e d a b p => Sys2Proof.Machine.execVsel e d a b p s
  | .vaddI16x2 e d a b p => Sys2Proof.Machine.execVaddI16x2 e d a b p s
  | .vsubI16x2 e d a b p => Sys2Proof.Machine.execVsubI16x2 e d a b p s
  | .vmulI16x2 e d a b p => Sys2Proof.Machine.execVmulI16x2 e d a b p s
  | .vshlI16x2 e d a b p => Sys2Proof.Machine.execVshlI16x2 e d a b p s
  | .vshrI16x2 e d a b p => Sys2Proof.Machine.execVshrI16x2 e d a b p s
  | .vsraI16x2 e d a b p => Sys2Proof.Machine.execVsraI16x2 e d a b p s
  | .vminI16x2 e d a b p => Sys2Proof.Machine.execVminI16x2 e d a b p s
  | .vmaxI16x2 e d a b p => Sys2Proof.Machine.execVmaxI16x2 e d a b p s
  | .vminuU16x2 e d a b p => Sys2Proof.Machine.execVminuU16x2 e d a b p s
  | .vmaxuU16x2 e d a b p => Sys2Proof.Machine.execVmaxuU16x2 e d a b p s
  | .vmad e d a b p => Sys2Proof.Machine.execVmad e d a b p s
  | .vbcs e d a p => Sys2Proof.Machine.execVbcs e d a p s
  | .vlane e d p => Sys2Proof.Machine.execVlane e d p s
  | .vpopc e d a p => Sys2Proof.Machine.execVpopc e d a p s
  | .vclz e d a p => Sys2Proof.Machine.execVclz e d a p s
  | .vctz e d a p => Sys2Proof.Machine.execVctz e d a p s
  | .vfns e d a b p => Sys2Proof.Machine.execVfns e d a b p s
  | .vbrev e d a p => Sys2Proof.Machine.execVbrev e d a p s
  | .vpopcI64 e d a p => Sys2Proof.Machine.execVpopcI64 e d a p s
  | .vclzI64 e d a p => Sys2Proof.Machine.execVclzI64 e d a p s
  | .vctzI64 e d a p => Sys2Proof.Machine.execVctzI64 e d a p s
  | .vfnsI64 e d a b p => Sys2Proof.Machine.execVfnsI64 e d a b p s
  | .vbrevI64 e d a p => Sys2Proof.Machine.execVbrevI64 e d a p s
  | .vcmp e d a b c p => Sys2Proof.Machine.execVcmp e d a b c p s
  | .vfadd e d a b p => Sys2Proof.Machine.execVfadd e d a b p s
  | .vfsub e d a b p => Sys2Proof.Machine.execVfsub e d a b p s
  | .vfmul e d a b p => Sys2Proof.Machine.execVfmul e d a b p s
  | .vfma e d a b p => Sys2Proof.Machine.execVfma e d a b p s
  | .vfnma e d a b p => Sys2Proof.Machine.execVfnma e d a b p s
  | .vfmin e d a b p => Sys2Proof.Machine.execVfmin e d a b p s
  | .vfmax e d a b p => Sys2Proof.Machine.execVfmax e d a b p s
  | .vfaddF16x2 e d a b p => Sys2Proof.Machine.execVfaddF16x2 e d a b p s
  | .vfsubF16x2 e d a b p => Sys2Proof.Machine.execVfsubF16x2 e d a b p s
  | .vfmulF16x2 e d a b p => Sys2Proof.Machine.execVfmulF16x2 e d a b p s
  | .vfmaF16x2 e d a b p => Sys2Proof.Machine.execVfmaF16x2 e d a b p s
  | .vfnmaF16x2 e d a b p => Sys2Proof.Machine.execVfnmaF16x2 e d a b p s
  | .vfminF16x2 e d a b p => Sys2Proof.Machine.execVfminF16x2 e d a b p s
  | .vfmaxF16x2 e d a b p => Sys2Proof.Machine.execVfmaxF16x2 e d a b p s
  | .vfaddF16 e d a b p => Sys2Proof.Machine.execVfaddF16 e d a b p s
  | .vfsubF16 e d a b p => Sys2Proof.Machine.execVfsubF16 e d a b p s
  | .vfmulF16 e d a b p => Sys2Proof.Machine.execVfmulF16 e d a b p s
  | .vfmaF16 e d a b p => Sys2Proof.Machine.execVfmaF16 e d a b p s
  | .vfnmaF16 e d a b p => Sys2Proof.Machine.execVfnmaF16 e d a b p s
  | .vfminF16 e d a b p => Sys2Proof.Machine.execVfminF16 e d a b p s
  | .vfmaxF16 e d a b p => Sys2Proof.Machine.execVfmaxF16 e d a b p s
  | .vfaddBf16x2 e d a b p => Sys2Proof.Machine.execVfaddBf16x2 e d a b p s
  | .vfsubBf16x2 e d a b p => Sys2Proof.Machine.execVfsubBf16x2 e d a b p s
  | .vfmulBf16x2 e d a b p => Sys2Proof.Machine.execVfmulBf16x2 e d a b p s
  | .vfmaBf16x2 e d a b p => Sys2Proof.Machine.execVfmaBf16x2 e d a b p s
  | .vfnmaBf16x2 e d a b p => Sys2Proof.Machine.execVfnmaBf16x2 e d a b p s
  | .vfminBf16x2 e d a b p => Sys2Proof.Machine.execVfminBf16x2 e d a b p s
  | .vfmaxBf16x2 e d a b p => Sys2Proof.Machine.execVfmaxBf16x2 e d a b p s
  | .vfaddBf16 e d a b p => Sys2Proof.Machine.execVfaddBf16 e d a b p s
  | .vfsubBf16 e d a b p => Sys2Proof.Machine.execVfsubBf16 e d a b p s
  | .vfmulBf16 e d a b p => Sys2Proof.Machine.execVfmulBf16 e d a b p s
  | .vfmaBf16 e d a b p => Sys2Proof.Machine.execVfmaBf16 e d a b p s
  | .vfnmaBf16 e d a b p => Sys2Proof.Machine.execVfnmaBf16 e d a b p s
  | .vfminBf16 e d a b p => Sys2Proof.Machine.execVfminBf16 e d a b p s
  | .vfmaxBf16 e d a b p => Sys2Proof.Machine.execVfmaxBf16 e d a b p s
  | .vfcmpF32 e d a b c p => Sys2Proof.Machine.execVfcmpF32 e d a b c p s
  | .vfcmpF16 e d a b c p => Sys2Proof.Machine.execVfcmpF16 e d a b c p s
  | .vfrcp e d a p => Sys2Proof.Machine.execVfrcp e d a p s
  | .vfrsq e d a p => Sys2Proof.Machine.execVfrsq e d a p s
  | .vfexp2 e d a p => Sys2Proof.Machine.execVfexp2 e d a p s
  | .vflog2 e d a p => Sys2Proof.Machine.execVflog2 e d a p s
  | .vfsin e d a p => Sys2Proof.Machine.execVfsin e d a p s
  | .vfcos e d a p => Sys2Proof.Machine.execVfcos e d a p s
  | .vcvt e d a src dst p => Sys2Proof.Machine.execVcvt e d a src dst p s
  | .vqpack e d a b p => Sys2Proof.Machine.execVqpack e d a b p s
  | .vqunp e d a b p => Sys2Proof.Machine.execVqunp e d a b p s
  | .vxch e d a g p => Sys2Proof.Machine.execVxch e d a g p s
  | .vshfl e d a b p => Sys2Proof.Machine.execVshfl e d a b p s
  | .vbcl e d a b p => Sys2Proof.Machine.execVbcl e d a b p s
  | .vred e d a op p => Sys2Proof.Machine.execVred e d a op p s
  | .vscan e d a ex op p => Sys2Proof.Machine.execVscan e d a ex op p s
  | .vballot e d p => Sys2Proof.Machine.execVballot e d p s
  | .vrand e d a b p => Sys2Proof.Machine.execVrand e d a b p s
  | .pset e d a p => Sys2Proof.Machine.execPset e d a p s
  | .pget e d q => Sys2Proof.Machine.execPget e d q s
  | .pand e d a b p => Sys2Proof.Machine.execPand e d a b p s
  | .por e d a b p => Sys2Proof.Machine.execPor e d a b p s
  | .pxor e d a b p => Sys2Proof.Machine.execPxor e d a b p s
  | .pnot e d a p => Sys2Proof.Machine.execPnot e d a p s
  | .vld e d a b q t p => Sys2Proof.Machine.execVld e d a b q t p s
  | .vst e d a b q t p => Sys2Proof.Machine.execVst e d a b q t p s
  | .vlds e d a b t p => Sys2Proof.Machine.execVlds e d a b t p s
  | .vsts e d a b t p => Sys2Proof.Machine.execVsts e d a b t p s
  | .vldsG e d a b t p => Sys2Proof.Machine.execVldsG e d a b t p s
  | .vstsG e d a b t p => Sys2Proof.Machine.execVstsG e d a b t p s
  | .sld e d a b q t => Sys2Proof.Machine.execSld e d a b q t s
  | .sst e d a b q t => Sys2Proof.Machine.execSst e d a b q t s
  | .slds e d a b q t => Sys2Proof.Machine.execSlds e d a b q t s
  | .ssts e d a b q t => Sys2Proof.Machine.execSsts e d a b q t s
  | .sldsG e d a b q t => Sys2Proof.Machine.execSldsG e d a b q t s
  | .sstsG e d a b q t => Sys2Proof.Machine.execSstsG e d a b q t s
  | .vatom e d a b q c => Sys2Proof.Machine.execVatom e d a b q c s
  | .satom e d a b q c => Sys2Proof.Machine.execSatom e d a b q c s
  | .old e d a b t => Sys2Proof.Machine.execOld e d a b t s
  | .ost e d a b t => Sys2Proof.Machine.execOst e d a b t s
  | .oatom e d a b c => Sys2Proof.Machine.execOatom e d a b c s
  | .oupd e d a b c => Sys2Proof.Machine.execOupd e d a b c s
  | .ored e d a c => Sys2Proof.Machine.execOred e d a c s
  | .ordx e d a b c => Sys2Proof.Machine.execOrdx e d a b c s
  | .fence e kind scope => Sys2Proof.Machine.execFence e kind scope s
  | .gfence e => Sys2Proof.Machine.execGfence e s
  | .pref e a b => Sys2Proof.Machine.execPref e a b s
  | .cpy e t a b => Sys2Proof.Machine.execCpy e t a b s
  | .cpyg e t a b => Sys2Proof.Machine.execCpyg e t a b s
  | .twait e a => Sys2Proof.Machine.execTwait e a s
  | .tany e a => Sys2Proof.Machine.execTany e a s
  | .tfirst e d a => Sys2Proof.Machine.execTfirst e d a s
  | .mzero e r c z a => Sys2Proof.Machine.execMzero e r c z a s
  | .mma e z a b => Sys2Proof.Machine.execMma e z a b s
  | .mloop e r c z a b => Sys2Proof.Machine.execMloop e r c z a b s
  | .mref e r c z a b => Sys2Proof.Machine.execMref e r c z a b s
  | .mldz e z a b => Sys2Proof.Machine.execMldz e z a b s
  | .mstore e z a b => Sys2Proof.Machine.execMstore e z a b s
  | .mread e d a z => Sys2Proof.Machine.execMread e d a z s
  | .mbound e r c z a b => Sys2Proof.Machine.execMbound e r c z a b s
  | .masn e d z => Sys2Proof.Machine.execMasn e d z s
  | .mwait z a => Sys2Proof.Machine.execMwait z a s
  | .pass e d a => Sys2Proof.Machine.execPass e d a s
  | .seal e a b => Sys2Proof.Machine.execSeal e a b s
  | .vget e d a => Sys2Proof.Machine.execVget e d a s
  | .vpin e d a => Sys2Proof.Machine.execVpin e d a s
  | .vrel e a b => Sys2Proof.Machine.execVrel e a b s
  | .qwaitQual e d a b => Sys2Proof.Machine.execQwaitQual e d a b s
  | .qwaitVer e d a b => Sys2Proof.Machine.execQwaitVer e d a b s
  | .qwaitDone e d a => Sys2Proof.Machine.execQwaitDone e d a s
  | .qcvt e d a => Sys2Proof.Machine.execQcvt e d a s
  | .budget e d => Sys2Proof.Machine.execBudget e d s
  | .jinit e a b => Sys2Proof.Machine.execJinit e a b s
  | .join e a => Sys2Proof.Machine.execJoin e a s
  | .fld e d a b => Sys2Proof.Machine.execFld e d a b s
  | .fst e d a b => Sys2Proof.Machine.execFst e d a b s
  | .yld e a b => Sys2Proof.Machine.execYld e a b s
  | .gchk e => Sys2Proof.Machine.execGchk e s
  | .gret => Sys2Proof.Machine.execGret s
  | .gend => Sys2Proof.Machine.execGend s
  | .rinv e d a b => Sys2Proof.Machine.execRinv e d a b s
  | .wsend e a b => Sys2Proof.Machine.execWsend e a b s
  | .cwait e a b => Sys2Proof.Machine.execCwait e a b s
  | .cwaitOut e => Sys2Proof.Machine.execCwaitOut e s
  | .spawn e k a o => Sys2Proof.Machine.execSpawn e k a o s
  | .genb e a o => Sys2Proof.Machine.execGenb e a o s
  | .br o => Sys2Proof.Machine.execBr o s
  | .beqz a o => Sys2Proof.Machine.execBeqz a o s
  | .bnez a o => Sys2Proof.Machine.execBnez a o s
  | .bltz a o => Sys2Proof.Machine.execBltz a o s
  | .bgez a o => Sys2Proof.Machine.execBgez a o s
  | .bgtz a o => Sys2Proof.Machine.execBgtz a o s
  | .blez a o => Sys2Proof.Machine.execBlez a o s
  | .call o => Sys2Proof.Machine.execCall o s
  | .vbany k o => Sys2Proof.Machine.execVbany k o s
  | .vball k o => Sys2Proof.Machine.execVball k o s
  | .vbr k toff koff => Sys2Proof.Machine.execVbr k toff koff s
  | .nop e => Sys2Proof.Machine.execNop e s
  | .exit => Sys2Proof.Machine.execExit s
  | .ret => Sys2Proof.Machine.execRet s
  | .jmpr a => Sys2Proof.Machine.execJmpr a s
  | .rcv e => Sys2Proof.Machine.execRcv e s
  | .bar e => Sys2Proof.Machine.execBar e s
  | .gbar e => Sys2Proof.Machine.execGbar e s
  | .pause e a => Sys2Proof.Machine.execPause e a s
  | .srd e d b => Sys2Proof.Machine.execSrd e d b s
  | .swr e a b => Sys2Proof.Machine.execSwr e a b s
  | .trap n => Sys2Proof.Machine.execTrap n s
  | .tret => Sys2Proof.Machine.execTret s
  | .icinv e a b => Sys2Proof.Machine.execIcinv e a b s
  | .ifence => Sys2Proof.Machine.execIfence s
  | .hintRegionNop e m => Sys2Proof.Machine.execHintRegionNop e m s
  | .ximm imm => Sys2Proof.Machine.execXimm imm s
  | .xmod pneg rmv rm sat scv scope ch ord => Sys2Proof.Machine.execXmod pneg rmv rm sat scv scope ch ord s
  | .hint k => Sys2Proof.Machine.execHint k s
  | .illegalWord w => Sys2Proof.Machine.execIllegalWord w s
  | .asyncTrapDelivery ent => Sys2Proof.Machine.execAsyncTrapDelivery ent s
  | .runArbitration core slot => Sys2Proof.Machine.execRunArbitration core slot s
  | .runFetch ent => Sys2Proof.Machine.execRunFetch ent s
  | .pauseExpiry ent => Sys2Proof.Machine.execPauseExpiry ent s
  | .globalAccessResponse k => Sys2Proof.Machine.execGlobalAccessResponse k s
  | .faultRecordWrite die => Sys2Proof.Machine.execFaultRecordWrite die s
  | .drainComplete ent => Sys2Proof.Machine.execDrainComplete ent s
  | .binLaunch pav bin => Sys2Proof.Machine.execBinLaunch pav bin s
  | .binIdleExpiry pav bin => Sys2Proof.Machine.execBinIdleExpiry pav bin s
  | .spillRingDrain tree => Sys2Proof.Machine.execSpillRingDrain tree s
  | .parentSpill ent => Sys2Proof.Machine.execParentSpill ent s
  | .parentRestore k => Sys2Proof.Machine.execParentRestore k s
  | .waitPoll ent => Sys2Proof.Machine.execWaitPoll ent s
  | .bankOperation k => Sys2Proof.Machine.execBankOperation k s
  | .bankPass k => Sys2Proof.Machine.execBankPass k s
  | .bankSeal k => Sys2Proof.Machine.execBankSeal k s
  | .bankVget k => Sys2Proof.Machine.execBankVget k s
  | .bankVpin k => Sys2Proof.Machine.execBankVpin k s
  | .bankVrel k => Sys2Proof.Machine.execBankVrel k s
  | .bankAnswer k => Sys2Proof.Machine.execBankAnswer k s
  | .objectClose launch k => Sys2Proof.Machine.execObjectClose launch k s
  | .objectDrop launch k => Sys2Proof.Machine.execObjectDrop launch k s
  | .copyComplete core k => Sys2Proof.Machine.execCopyComplete core k s
  | .copyPageFaultPark core k => Sys2Proof.Machine.execCopyPageFaultPark core k s
  | .matrixQueueArrival core => Sys2Proof.Machine.execMatrixQueueArrival core s
  | .matrixStart core => Sys2Proof.Machine.execMatrixStart core s
  | .matrixStepEnd core => Sys2Proof.Machine.execMatrixStepEnd core s
  | .matrixRelease core => Sys2Proof.Machine.execMatrixRelease core s
  | .matrixComplete core => Sys2Proof.Machine.execMatrixComplete core s
  | .icinvComplete k => Sys2Proof.Machine.execIcinvComplete k s
  | .epochTimeout die => Sys2Proof.Machine.execEpochTimeout die s
  | .epochApply die src => Sys2Proof.Machine.execEpochApply die src s
  | .hostEpochAck die => Sys2Proof.Machine.execHostEpochAck die s
  | .gfenceRelease ent => Sys2Proof.Machine.execGfenceRelease ent s
  | .rinvPacketArrival src => Sys2Proof.Machine.execRinvPacketArrival src s
  | .rinvStatusReturn k status => Sys2Proof.Machine.execRinvStatusReturn k status s
  | .receiveQueueFeed => Sys2Proof.Machine.execReceiveQueueFeed s
  | .retirementAck k failed => Sys2Proof.Machine.execRetirementAck k failed s
  | .wsendArrival win off data => Sys2Proof.Machine.execWsendArrival win off data s
  | .wsendAck k => Sys2Proof.Machine.execWsendAck k s
  | .wsendFailure k => Sys2Proof.Machine.execWsendFailure k s
  | .hangRunLimit ent => Sys2Proof.Machine.execHangRunLimit ent s
  | .issueStallWatchdog ent => Sys2Proof.Machine.execIssueStallWatchdog ent s
  | .engineQueueWatchdog core k => Sys2Proof.Machine.execEngineQueueWatchdog core k s
  | .strikeReport core => Sys2Proof.Machine.execStrikeReport core s
  | .strikeBufferSend core => Sys2Proof.Machine.execStrikeBufferSend core s
  | .containment ent cause unit addr => Sys2Proof.Machine.execContainment ent cause unit addr s
  | .scrub die => Sys2Proof.Machine.execScrub die s
  | .selfTestStart core => Sys2Proof.Machine.execSelfTestStart core s
  | .selfTestVerdict core pass => Sys2Proof.Machine.execSelfTestVerdict core pass s
  | .pathDelayMeasure pav => Sys2Proof.Machine.execPathDelayMeasure pav s
  | .energyMeterInterval mj => Sys2Proof.Machine.execEnergyMeterInterval mj s
  | .timeBudgetExhausted launch => Sys2Proof.Machine.execTimeBudgetExhausted launch s
  | .recordTake queue => Sys2Proof.Machine.execRecordTake queue s
  | .gangPlace => Sys2Proof.Machine.execGangPlace s
  | .gangRetire gang => Sys2Proof.Machine.execGangRetire gang s
  | .preemption pav => Sys2Proof.Machine.execPreemption pav s
  | .contextEvict k => Sys2Proof.Machine.execContextEvict k s
  | .contextStageIn k => Sys2Proof.Machine.execContextStageIn k s
  | .contextRestore k pav => Sys2Proof.Machine.execContextRestore k pav s
  | .launchComplete launch => Sys2Proof.Machine.execLaunchComplete launch s
  | .completionPost => Sys2Proof.Machine.execCompletionPost s
  | .signal ring => Sys2Proof.Machine.execSignal ring s
  | .dispatchCoreFailure dc => Sys2Proof.Machine.execDispatchCoreFailure dc s
  | .heartbeat dc => Sys2Proof.Machine.execHeartbeat dc s
  | .heartbeatMiss dc => Sys2Proof.Machine.execHeartbeatMiss dc s
  | .dispatchTakeover dc => Sys2Proof.Machine.execDispatchTakeover dc s
  | .queueSet queue asid prio n cq base headAddr => Sys2Proof.Machine.execQueueSet queue asid prio n cq base headAddr s
  | .asidBind asid fn sys root => Sys2Proof.Machine.execAsidBind asid fn sys root s
  | .vfBounds fn hbmBase hbmBound tierBase tierBound => Sys2Proof.Machine.execVfBounds fn hbmBase hbmBound tierBase tierBound s
  | .ounitGrant asid unit code => Sys2Proof.Machine.execOunitGrant asid unit code s
  | .tlbInval asid base length => Sys2Proof.Machine.execTlbInval asid base length s
  | .tlbInvalComplete => Sys2Proof.Machine.execTlbInvalComplete s
  | .faultAnswer die verdict park => Sys2Proof.Machine.execFaultAnswer die verdict park s
  | .objCreate asid index slots rule hostVis slotSize slotBase quality => Sys2Proof.Machine.execObjCreate asid index slots rule hostVis slotSize slotBase quality s
  | .objDestroy asid index => Sys2Proof.Machine.execObjDestroy asid index s
  | .handlerSet asid index vregs entry handler => Sys2Proof.Machine.execHandlerSet asid index vregs entry handler s
  | .rxqSet prio cres vregs pav entries ring spillSize base spill => Sys2Proof.Machine.execRxqSet prio cres vregs pav entries ring spillSize base spill s
  | .windowReg number reduce format contributors base length arrival origin elements expo => Sys2Proof.Machine.execWindowReg number reduce format contributors base length arrival origin elements expo s
  | .windowDereg number => Sys2Proof.Machine.execWindowDereg number s
  | .fenceClear die core => Sys2Proof.Machine.execFenceClear die core s
  | .dispatchRestore dc => Sys2Proof.Machine.execDispatchRestore dc s
  | .cqSet cq n base => Sys2Proof.Machine.execCqSet cq n base s
  | .doorbell queue tail => Sys2Proof.Machine.execDoorbell queue tail s
  | .cqhead cq head => Sys2Proof.Machine.execCqhead cq head s
  | .warmReset word => Sys2Proof.Machine.execWarmReset word s
  | .chipid value => Sys2Proof.Machine.execChipid value s
  | .devstatOvfClear bits => Sys2Proof.Machine.execDevstatOvfClear bits s
  | .ringSetupWrite ring size value => Sys2Proof.Machine.execRingSetupWrite ring size value s
  | .ringHeadWrite ring head => Sys2Proof.Machine.execRingHeadWrite ring head s
  | .registerWrite offset value => Sys2Proof.Machine.execRegisterWrite offset value s
  | .orngVget line gen host => Sys2Proof.Machine.execOrngVget line gen host s
  | .orngVpin line gen host => Sys2Proof.Machine.execOrngVpin line gen host s
  | .orngVrel line slot gen host => Sys2Proof.Machine.execOrngVrel line slot gen host s
  | .dmemAccess acc => Sys2Proof.Machine.execDmemAccess acc s
  | .orngAccess acc => Sys2Proof.Machine.execOrngAccess acc s
  | .getVersion => Sys2Proof.Machine.execGetVersion s
  | .getCapabilities => Sys2Proof.Machine.execGetCapabilities s
  | .negotiateAlgorithms => Sys2Proof.Machine.execNegotiateAlgorithms s
  | .getDigests => Sys2Proof.Machine.execGetDigests s
  | .getCertificate slot => Sys2Proof.Machine.execGetCertificate slot s
  | .challenge slot nonce => Sys2Proof.Machine.execChallenge slot nonce s
  | .getMeasurements index => Sys2Proof.Machine.execGetMeasurements index s
  | .pldmFirmwareUpdate image => Sys2Proof.Machine.execPldmFirmwareUpdate image s
  | .pldmMonitor item => Sys2Proof.Machine.execPldmMonitor item s
  | .counterRead die counter => Sys2Proof.Machine.execCounterRead die counter s
  | .powerOnReset trainErr failed => Sys2Proof.Machine.execPowerOnReset trainErr failed s
  | .thermalThrottle pavs => Sys2Proof.Machine.execThermalThrottle pavs s
  | .thermalTrip => Sys2Proof.Machine.execThermalTrip s
  | .homeOperation k => Sys2Proof.Machine.execHomeOperation k s
  | .pathDown chip => Sys2Proof.Machine.execPathDown chip s
  | .pathDelayMeasurementEnd pav margins => Sys2Proof.Machine.execPathDelayMeasurementEnd pav margins s

end Sys2Proof.Machine
end

