-- ==== Sys2Proof/Machine/Schedule.lean ====
section
/-! DEFINITION. What a step of the package is (assumptions 3 and 4): time passes, then the next scheduled device step runs, or the entity in
focus issues its next word, or a device step that can make progress is taken; and how a word is placed where the next step issues it. -/

namespace Sys2Proof.Machine

open Sys2Proof

/-! ### Time -/

/-- The cycles that this step takes pass. -/
def passTime (s : State) : State := { s with now := s.now + s.pace.headD 1, pace := s.pace.tail }

/-! ### Issue -/

/-- The entity in focus has a word to issue, and nothing halts it (R244, R257); an entity that has just stalled tries again in odd cycles. -/
def issuing (s : State) : Option (Nat × Word) :=
  match s.focus with
  | none => none
  | some k => match look s.ents k with
    | none => none
    | some e =>
      match e.buf with
      | [] => none
      | w :: _ =>
        if e.park = .running ∧ e.boundary = false ∧ heldByGen s k e = false ∧ haltedEnt s k e = false ∧ (e.stalled.isNone = true ∨ s.now % 2 = 1) then some (k, w) else none

/-- R126: one word of an entity is issued: what its instruction does, and whose turn it is then. -/
def issueWord (s : State) (k : Nat) (w : Word) : Out :=
  match exec (instrOf w) (remember s (coreOfKey k)) with
  | .next t => .next (afterWord t k (vectorHold s k w))
  | o => o

/-! ### Device steps that can make progress -/

/-- Whether an instruction of the table is a device step: it has no encoding. -/
def isDevice (i : Instr) : Bool := match i with | .illegalWord _ => false | _ => (encode i).isNone

/-- Positions of a list. -/
def positions {α : Type} (l : List α) : List Nat := List.range l.length

/-- Device steps of cores. -/
def coreSteps (s : State) : List (State → Out) :=
  s.cores.flatMap (fun c =>
    let d := c.2.data
    (if d.held.isEmpty then [] else [execStrikeBufferSend c.1]) ++ (if d.enroute.isEmpty then [] else [execMatrixQueueArrival c.1]) ++
    (if d.queue.isEmpty && d.run.isNone && decide (d.groups = 0) then []
      else [execMatrixStepEnd c.1, execMatrixComplete c.1, execMatrixStart c.1, execMatrixRelease c.1]) ++
    (positions d.queue).map (fun k => execEngineQueueWatchdog c.1 k) ++
    (positions d.copies).flatMap (fun k => [execCopyComplete c.1 k, execCopyPageFaultPark c.1 k]) ++
    (if c.2.marked.isSome then [execSelfTestStart c.1] else []))

/-- Device steps of memory: homes, banks, replies, answers, epochs. -/
def memorySteps (s : State) : List (State → Out) :=
  (positions s.homeQ).map execHomeOperation ++ (positions s.replies).map execGlobalAccessResponse ++ (positions s.bankQ).map execBankOperation ++
  (positions s.passQ).flatMap (fun k => [execBankPass k, execBankSeal k, execBankVget k, execBankVpin k, execBankVrel k]) ++
  (positions s.answers).map execBankAnswer ++ (positions s.icinvs).map execIcinvComplete ++
  s.dies.flatMap (fun d =>
    (if d.2.openAt.isSome then [execEpochTimeout d.1] else []) ++ d.2.inbox.map (fun e => execEpochApply d.1 e.src) ++
    (if d.2.hostOut.isEmpty then [] else [execHostEpochAck d.1]) ++ (if (parksSending s d.1).isEmpty then [] else [execFaultRecordWrite d.1]))

/-- Device steps of entities, bins, packets and parents. -/
def taskSteps (s : State) : List (State → Out) :=
  (positions s.packets).map (fun k => execRinvPacketArrival (.local k)) ++
  (s.statuses.zipIdx).filterMap (fun m => m.1.status.map (fun n => execRinvStatusReturn m.2 n)) ++
  (s.acks.zipIdx).filterMap (fun a => a.1.failed.map (fun f => execRetirementAck a.2 f)) ++ [execReceiveQueueFeed] ++
  s.ents.flatMap (fun e => match e.2.park with
    | .pause _ => [execPauseExpiry e.1]
    | .gfence _ => [execGfenceRelease e.1]
    | .exited => [execDrainComplete e.1]
    | .wait _ _ => [execParentSpill e.1]
    | .poll _ _ => [execParentSpill e.1]
    | _ => []) ++
  s.ents.flatMap (fun e => (if e.2.pending.isEmpty then [] else [execAsyncTrapDelivery e.1]) ++ [execHangRunLimit e.1, execIssueStallWatchdog e.1]) ++
  s.launches.map (fun l => execSpillRingDrain (ownerKey (.launch l.1))) ++ s.trees.map (fun t => execSpillRingDrain (ownerKey (.tree t.1))) ++
  s.pavs.flatMap (fun p => p.2.bins.flatMap (fun b => [execBinIdleExpiry p.1 b.1, execBinLaunch p.1 b.1])) ++ (positions s.spilled).map execParentRestore

/-- Device steps of the control path. -/
def controlSteps (s : State) : List (State → Out) :=
  s.launches.flatMap (fun l => execTimeBudgetExhausted l.1 :: ((List.range 4).flatMap (fun k => [execObjectClose l.1 k, execObjectDrop l.1 k]) ++
    [execLaunchComplete l.1])) ++
  (s.launches.filter (fun l => l.2.stopping)).map (fun l s => .next (settleCut s l.1)) ++
  s.gangs.map (fun g => execGangRetire g.1) ++ [execCompletionPost] ++ s.ctl.owed.map execSignal ++
  (s.dispatch.kicks ++ (s.queues.filter (fun q => q.2.upTo.isSome)).map (fun q => q.1)).map execRecordTake ++ [execGangPlace] ++
  (positions s.contexts).flatMap (fun k => execContextStageIn k :: (List.range 32).map (fun p => execContextRestore k p)) ++
  (if cmdReady s then [takeCommand] else []) ++ (if s.launches.isEmpty then [] else (List.range 32).map execPreemption) ++ [execTlbInvalComplete, execDispatchTakeover 0, execDispatchTakeover 1] ++
  (if s.ctl.bootState < 4 then [execPowerOnReset 0 []] else [])

/-- R20: issue slots of cores with entities, those after the slot in focus first. -/
def slotsOf (s : State) : List Nat :=
  let slots := ((s.ents.map (fun e => e.1 / 8)).eraseDups)
  let f := match s.focus with | some k => k / 8 | none => 0
  slots.filter (fun x => decide (f < x)) ++ slots.filter (fun x => decide (x ≤ f))

/-- Stands for the chance that decides what the issue logic tries first, so that no entity is passed over for ever (assumption 3). -/
def turnOf (now : Nat) : Nat := now * 2654435761 / 2 ^ 20 % 4

/-- R19, R20, R38: fetches, the turns of issue slots and polls, in an order that changes from cycle to cycle. -/
def issueSteps (s : State) : List (State → Out) :=
  let fetches := (s.ents.filter (fun e => decide (e.2.park = .running) && e.2.buf.isEmpty)).map (fun e => execRunFetch e.1)
  let turns := (slotsOf s).map (fun x => execRunArbitration (x / 4) (x % 4))
  let polls := s.ents.flatMap (fun e => match e.2.park with | .poll _ _ => [execWaitPoll e.1] | _ => [])
  match turnOf s.now with | 2 => turns ++ fetches ++ polls | 3 => polls ++ fetches ++ turns | _ => fetches ++ turns ++ polls

/-- The device steps that the model takes of itself, in the order in which it tries them (assumption 3). Inputs of the host, of peers, of the
board and of nature are never among them: they come from the schedule. -/
def candidates (s : State) : List (State → Out) := coreSteps s ++ memorySteps s ++ taskSteps s ++ controlSteps s ++ issueSteps s

/-- The first device step that changes the state; none leaves it as it is. -/
def firstProgress (s : State) : List (State → Out) → Out
  | [] => .next s
  | f :: r => match f s with
    | .next t => if t = s then firstProgress s r else .next t
    | _ => firstProgress s r

/-! ### A step -/

/-- One step of the package. -/
def advance (s : State) : Out :=
  let t := passTime s
  match t.sched with
  | d :: r => if isDevice d then exec d { t with sched := r } else .next { t with sched := r }
  | [] => match issuing t with
    | some (k, w) => issueWord t k w
    | none => firstProgress t (candidates t)

/-! ### Placing a word (assumption 1) -/

/-- The wave that a placed word runs in: 96 lanes, 64 vector registers, system privilege as address space 0 has it, no launch behind it. -/
def placedWave : Wave := Wave.start .block 0 0 0 (.launch 0) 64 0 0 0

/-- Its block: no scratchpad frames, 64 tags. -/
def placedBlock : Block :=
  { core := 0, gang := 0, lin := 0, x := 0, y := 0, z := 0, rank := 0, frame := 0, frames := 0, ntags := 64, tags := BitVec.allOnes 64, nwaves := 1,
    done := 0, seals := [] }

/-- Its gang. -/
def placedGang : Gang :=
  { owner := .launch 0, id := 0, pav := 0, valid := true, cores := [0], blocks := [0], ie := false, iex := false, relaunch := 0, gbars := 0, releases := 0,
    position := 0, stopped := false, retired := false, placed := 0 }

/-- Its entity, in the middle of a run, with the word to issue next. -/
def placedEntity (w : Word) : Entity :=
  { Entity.start 0 0 (BitVec.allOnes 96) (BitVec.allOnes 96) [] with boundary := false, buf := [w] }

/-- The word stands in the run buffer of an entity on core 0 of die 0, which is in focus: the next step issues it. Where key 0, wave 0, block 0,
gang 0 or launch 0 stand already they give way to it, and its pavilion is not being halted. -/
def placeWord (s : State) (w : Word) : State :=
  { s with
    sched := [], focus := some 0, ents := put s.ents 0 (placedEntity w), waves := put s.waves 0 placedWave, blocks := put s.blocks 0 placedBlock
    gangs := put s.gangs 0 placedGang, launches := erase s.launches 0
    pavs := if (s.pav 0).halting then put s.pavs 0 { s.pav 0 with halting := false } else s.pavs }

end Sys2Proof.Machine
end

