-- ==== Sys2Proof/Machine/Step.lean ====
section
/-! DEFINITION. One step of the package, and a word placed where the next step issues it. -/

namespace Sys2Proof.Machine

open Sys2Proof

/-- One step (Schedule.lean). -/
def step (s : State) : Host.Outcome State Fault Refusal := advance s

/-- The state with an instruction of `nbits` bits where the next step issues it: every instruction is one 32-bit word (R115). -/
def State.withFetchWord (s : State) (_nbits w : Nat) : State := placeWord s (BitVec.ofNat 32 w)

end Sys2Proof.Machine
end

