-- ==== Sys2Proof/Laws/Fields.lean ====
section
/-! SUPPORT. What each field of an encoded word reads, for every format that the encoder builds (R118, R130). -/

namespace Sys2Proof.Laws

open Sys2Proof

theorem fld_body (e : Bool) (op : BitVec 6) (x : BitVec 25) (lo n : Nat) (h : lo + n ≤ 25) : fld (wordOf e op x) lo n = x.extractLsb' lo n :=
  BitVec.extractLsb'_append_eq_of_add_le (xhi := BitVec.ofBool e ++ op) (xlo := x) h

theorem fld_op (e : Bool) (op : BitVec 6) (x : BitVec 25) : fld (wordOf e op x) 25 6 = op := by
  refine (BitVec.extractLsb'_append_eq_of_le (xhi := BitVec.ofBool e ++ op) (xlo := x) (by decide)).trans ?_
  refine (BitVec.extractLsb'_append_eq_of_add_le (xhi := BitVec.ofBool e) (xlo := op) (by decide)).trans ?_
  simp

theorem msb_wordOf (e : Bool) (op : BitVec 6) (x : BitVec 25) : (wordOf e op x).msb = e := by
  unfold wordOf
  refine (BitVec.msb_append (x := BitVec.ofBool e ++ op) (y := x)).trans ?_
  refine (BitVec.msb_append (x := BitVec.ofBool e) (y := op)).trans ?_
  cases e <;> simp

theorem hiPart {v w lo n : Nat} (x : BitVec v) (y : BitVec w) (h : w ≤ lo) : (x ++ y).extractLsb' lo n = x.extractLsb' (lo - w) n :=
  BitVec.extractLsb'_append_eq_of_le h

theorem loPart {v w lo n : Nat} (x : BitVec v) (y : BitVec w) (h : lo + n ≤ w) : (x ++ y).extractLsb' lo n = y.extractLsb' lo n :=
  BitVec.extractLsb'_append_eq_of_add_le h

theorem whole {v : Nat} (x : BitVec v) : x.extractLsb' 0 v = x := BitVec.extractLsb'_eq_self

/-- A bit of a word is its one-bit field. -/
theorem getLsbD_fld (w : Word) (i : Nat) (q : Bool) (h : fld w i 1 = BitVec.ofBool q) : w.getLsbD i = q := by
  have h2 : (fld w i 1).getLsbD 0 = (BitVec.ofBool q).getLsbD 0 := by rw [h]
  simpa [fld] using h2

/-- The same of a bit read as an element. -/
theorem bit_fld (w : Word) (i : Nat) (q : Bool) (hi : i < 32) (h : fld w i 1 = BitVec.ofBool q) : w[i] = q := by
  rw [← BitVec.getLsbD_eq_getElem]; exact getLsbD_fld w i q h

/-- Part of a field. -/
theorem fld_part (w : Word) (lo n k m : Nat) (h : k + m ≤ n) : fld w (lo + k) m = (fld w lo n).extractLsb' k m := by
  unfold fld
  apply BitVec.eq_of_getLsbD_eq
  intro i hi
  have h1 : k + i < n := by omega
  simp [hi, h1, Nat.add_assoc]

theorem f0_0_7 (e : Bool) (op : BitVec 6) (x0 : BitVec 6) (x1 : BitVec 6) (x2 : BitVec 6) (x3 : BitVec 7) :
    fld (wordOf e op (x0 ++ x1 ++ x2 ++ x3)) 0 7 = x3 :=
  (fld_body e op (x0 ++ x1 ++ x2 ++ x3) 0 7 (by decide)).trans ((loPart (v := 18) (w := 7) (lo := 0) (n := 7) (x0 ++ x1 ++ x2 : BitVec 18) (x3) (by decide)).trans ((whole (x3))))

theorem f0_7_6 (e : Bool) (op : BitVec 6) (x0 : BitVec 6) (x1 : BitVec 6) (x2 : BitVec 6) (x3 : BitVec 7) :
    fld (wordOf e op (x0 ++ x1 ++ x2 ++ x3)) 7 6 = x2 :=
  (fld_body e op (x0 ++ x1 ++ x2 ++ x3) 7 6 (by decide)).trans ((hiPart (v := 18) (w := 7) (lo := 7) (n := 6) (x0 ++ x1 ++ x2 : BitVec 18) (x3) (by decide)).trans ((loPart (v := 12) (w := 6) (lo := 0) (n := 6) (x0 ++ x1 : BitVec 12) (x2) (by decide)).trans ((whole (x2)))))

theorem f0_13_6 (e : Bool) (op : BitVec 6) (x0 : BitVec 6) (x1 : BitVec 6) (x2 : BitVec 6) (x3 : BitVec 7) :
    fld (wordOf e op (x0 ++ x1 ++ x2 ++ x3)) 13 6 = x1 :=
  (fld_body e op (x0 ++ x1 ++ x2 ++ x3) 13 6 (by decide)).trans ((hiPart (v := 18) (w := 7) (lo := 13) (n := 6) (x0 ++ x1 ++ x2 : BitVec 18) (x3) (by decide)).trans ((hiPart (v := 12) (w := 6) (lo := 6) (n := 6) (x0 ++ x1 : BitVec 12) (x2) (by decide)).trans ((loPart (v := 6) (w := 6) (lo := 0) (n := 6) (x0 : BitVec 6) (x1) (by decide)).trans ((whole (x1))))))

theorem f0_19_6 (e : Bool) (op : BitVec 6) (x0 : BitVec 6) (x1 : BitVec 6) (x2 : BitVec 6) (x3 : BitVec 7) :
    fld (wordOf e op (x0 ++ x1 ++ x2 ++ x3)) 19 6 = x0 :=
  (fld_body e op (x0 ++ x1 ++ x2 ++ x3) 19 6 (by decide)).trans ((hiPart (v := 18) (w := 7) (lo := 19) (n := 6) (x0 ++ x1 ++ x2 : BitVec 18) (x3) (by decide)).trans ((hiPart (v := 12) (w := 6) (lo := 12) (n := 6) (x0 ++ x1 : BitVec 12) (x2) (by decide)).trans ((hiPart (v := 6) (w := 6) (lo := 6) (n := 6) (x0 : BitVec 6) (x1) (by decide)).trans ((whole (x0))))))

theorem f1_0_7 (e : Bool) (op : BitVec 6) (x0 : BitVec 6) (x1 : BitVec 6) (x2 : BitVec 13) :
    fld (wordOf e op (x0 ++ x1 ++ x2)) 0 7 = (x2).extractLsb' 0 7 :=
  (fld_body e op (x0 ++ x1 ++ x2) 0 7 (by decide)).trans ((loPart (v := 12) (w := 13) (lo := 0) (n := 7) (x0 ++ x1 : BitVec 12) (x2) (by decide)))

theorem f1_13_6 (e : Bool) (op : BitVec 6) (x0 : BitVec 6) (x1 : BitVec 6) (x2 : BitVec 13) :
    fld (wordOf e op (x0 ++ x1 ++ x2)) 13 6 = x1 :=
  (fld_body e op (x0 ++ x1 ++ x2) 13 6 (by decide)).trans ((hiPart (v := 12) (w := 13) (lo := 13) (n := 6) (x0 ++ x1 : BitVec 12) (x2) (by decide)).trans ((loPart (v := 6) (w := 6) (lo := 0) (n := 6) (x0 : BitVec 6) (x1) (by decide)).trans ((whole (x1)))))

theorem f1_19_6 (e : Bool) (op : BitVec 6) (x0 : BitVec 6) (x1 : BitVec 6) (x2 : BitVec 13) :
    fld (wordOf e op (x0 ++ x1 ++ x2)) 19 6 = x0 :=
  (fld_body e op (x0 ++ x1 ++ x2) 19 6 (by decide)).trans ((hiPart (v := 12) (w := 13) (lo := 19) (n := 6) (x0 ++ x1 : BitVec 12) (x2) (by decide)).trans ((hiPart (v := 6) (w := 6) (lo := 6) (n := 6) (x0 : BitVec 6) (x1) (by decide)).trans ((whole (x0)))))

theorem f2_0_13 (e : Bool) (op : BitVec 6) (x0 : BitVec 6) (x1 : BitVec 6) (x2 : BitVec 13) :
    fld (wordOf e op (x0 ++ x1 ++ x2)) 0 13 = x2 :=
  (fld_body e op (x0 ++ x1 ++ x2) 0 13 (by decide)).trans ((loPart (v := 12) (w := 13) (lo := 0) (n := 13) (x0 ++ x1 : BitVec 12) (x2) (by decide)).trans ((whole (x2))))

theorem f2_13_6 (e : Bool) (op : BitVec 6) (x0 : BitVec 6) (x1 : BitVec 6) (x2 : BitVec 13) :
    fld (wordOf e op (x0 ++ x1 ++ x2)) 13 6 = x1 :=
  (fld_body e op (x0 ++ x1 ++ x2) 13 6 (by decide)).trans ((hiPart (v := 12) (w := 13) (lo := 13) (n := 6) (x0 ++ x1 : BitVec 12) (x2) (by decide)).trans ((loPart (v := 6) (w := 6) (lo := 0) (n := 6) (x0 : BitVec 6) (x1) (by decide)).trans ((whole (x1)))))

theorem f2_19_6 (e : Bool) (op : BitVec 6) (x0 : BitVec 6) (x1 : BitVec 6) (x2 : BitVec 13) :
    fld (wordOf e op (x0 ++ x1 ++ x2)) 19 6 = x0 :=
  (fld_body e op (x0 ++ x1 ++ x2) 19 6 (by decide)).trans ((hiPart (v := 12) (w := 13) (lo := 19) (n := 6) (x0 ++ x1 : BitVec 12) (x2) (by decide)).trans ((hiPart (v := 6) (w := 6) (lo := 6) (n := 6) (x0 : BitVec 6) (x1) (by decide)).trans ((whole (x0)))))

theorem f3_0_19 (e : Bool) (op : BitVec 6) (x0 : BitVec 6) (x1 : BitVec 19) :
    fld (wordOf e op (x0 ++ x1)) 0 19 = x1 :=
  (fld_body e op (x0 ++ x1) 0 19 (by decide)).trans ((loPart (v := 6) (w := 19) (lo := 0) (n := 19) (x0 : BitVec 6) (x1) (by decide)).trans ((whole (x1))))

theorem f3_19_6 (e : Bool) (op : BitVec 6) (x0 : BitVec 6) (x1 : BitVec 19) :
    fld (wordOf e op (x0 ++ x1)) 19 6 = x0 :=
  (fld_body e op (x0 ++ x1) 19 6 (by decide)).trans ((hiPart (v := 6) (w := 19) (lo := 19) (n := 6) (x0 : BitVec 6) (x1) (by decide)).trans ((whole (x0))))

theorem f4_0_3 (e : Bool) (op : BitVec 6) (x0 : BitVec 6) (x1 : BitVec 6) (x2 : BitVec 6) (x3 : BitVec 4) (x4 : BitVec 3) :
    fld (wordOf e op (x0 ++ x1 ++ x2 ++ x3 ++ x4)) 0 3 = x4 :=
  (fld_body e op (x0 ++ x1 ++ x2 ++ x3 ++ x4) 0 3 (by decide)).trans ((loPart (v := 22) (w := 3) (lo := 0) (n := 3) (x0 ++ x1 ++ x2 ++ x3 : BitVec 22) (x4) (by decide)).trans ((whole (x4))))

theorem f4_3_4 (e : Bool) (op : BitVec 6) (x0 : BitVec 6) (x1 : BitVec 6) (x2 : BitVec 6) (x3 : BitVec 4) (x4 : BitVec 3) :
    fld (wordOf e op (x0 ++ x1 ++ x2 ++ x3 ++ x4)) 3 4 = x3 :=
  (fld_body e op (x0 ++ x1 ++ x2 ++ x3 ++ x4) 3 4 (by decide)).trans ((hiPart (v := 22) (w := 3) (lo := 3) (n := 4) (x0 ++ x1 ++ x2 ++ x3 : BitVec 22) (x4) (by decide)).trans ((loPart (v := 18) (w := 4) (lo := 0) (n := 4) (x0 ++ x1 ++ x2 : BitVec 18) (x3) (by decide)).trans ((whole (x3)))))

theorem f4_7_6 (e : Bool) (op : BitVec 6) (x0 : BitVec 6) (x1 : BitVec 6) (x2 : BitVec 6) (x3 : BitVec 4) (x4 : BitVec 3) :
    fld (wordOf e op (x0 ++ x1 ++ x2 ++ x3 ++ x4)) 7 6 = x2 :=
  (fld_body e op (x0 ++ x1 ++ x2 ++ x3 ++ x4) 7 6 (by decide)).trans ((hiPart (v := 22) (w := 3) (lo := 7) (n := 6) (x0 ++ x1 ++ x2 ++ x3 : BitVec 22) (x4) (by decide)).trans ((hiPart (v := 18) (w := 4) (lo := 4) (n := 6) (x0 ++ x1 ++ x2 : BitVec 18) (x3) (by decide)).trans ((loPart (v := 12) (w := 6) (lo := 0) (n := 6) (x0 ++ x1 : BitVec 12) (x2) (by decide)).trans ((whole (x2))))))

theorem f4_13_6 (e : Bool) (op : BitVec 6) (x0 : BitVec 6) (x1 : BitVec 6) (x2 : BitVec 6) (x3 : BitVec 4) (x4 : BitVec 3) :
    fld (wordOf e op (x0 ++ x1 ++ x2 ++ x3 ++ x4)) 13 6 = x1 :=
  (fld_body e op (x0 ++ x1 ++ x2 ++ x3 ++ x4) 13 6 (by decide)).trans ((hiPart (v := 22) (w := 3) (lo := 13) (n := 6) (x0 ++ x1 ++ x2 ++ x3 : BitVec 22) (x4) (by decide)).trans ((hiPart (v := 18) (w := 4) (lo := 10) (n := 6) (x0 ++ x1 ++ x2 : BitVec 18) (x3) (by decide)).trans ((hiPart (v := 12) (w := 6) (lo := 6) (n := 6) (x0 ++ x1 : BitVec 12) (x2) (by decide)).trans ((loPart (v := 6) (w := 6) (lo := 0) (n := 6) (x0 : BitVec 6) (x1) (by decide)).trans ((whole (x1)))))))

theorem f4_19_6 (e : Bool) (op : BitVec 6) (x0 : BitVec 6) (x1 : BitVec 6) (x2 : BitVec 6) (x3 : BitVec 4) (x4 : BitVec 3) :
    fld (wordOf e op (x0 ++ x1 ++ x2 ++ x3 ++ x4)) 19 6 = x0 :=
  (fld_body e op (x0 ++ x1 ++ x2 ++ x3 ++ x4) 19 6 (by decide)).trans ((hiPart (v := 22) (w := 3) (lo := 19) (n := 6) (x0 ++ x1 ++ x2 ++ x3 : BitVec 22) (x4) (by decide)).trans ((hiPart (v := 18) (w := 4) (lo := 16) (n := 6) (x0 ++ x1 ++ x2 : BitVec 18) (x3) (by decide)).trans ((hiPart (v := 12) (w := 6) (lo := 12) (n := 6) (x0 ++ x1 : BitVec 12) (x2) (by decide)).trans ((hiPart (v := 6) (w := 6) (lo := 6) (n := 6) (x0 : BitVec 6) (x1) (by decide)).trans ((whole (x0)))))))

theorem f5_0_3 (e : Bool) (op : BitVec 6) (x0 : BitVec 6) (x1 : BitVec 6) (x2 : BitVec 10) (x3 : BitVec 3) :
    fld (wordOf e op (x0 ++ x1 ++ x2 ++ x3)) 0 3 = x3 :=
  (fld_body e op (x0 ++ x1 ++ x2 ++ x3) 0 3 (by decide)).trans ((loPart (v := 22) (w := 3) (lo := 0) (n := 3) (x0 ++ x1 ++ x2 : BitVec 22) (x3) (by decide)).trans ((whole (x3))))

theorem f5_3_4 (e : Bool) (op : BitVec 6) (x0 : BitVec 6) (x1 : BitVec 6) (x2 : BitVec 10) (x3 : BitVec 3) :
    fld (wordOf e op (x0 ++ x1 ++ x2 ++ x3)) 3 4 = (x2).extractLsb' 0 4 :=
  (fld_body e op (x0 ++ x1 ++ x2 ++ x3) 3 4 (by decide)).trans ((hiPart (v := 22) (w := 3) (lo := 3) (n := 4) (x0 ++ x1 ++ x2 : BitVec 22) (x3) (by decide)).trans ((loPart (v := 12) (w := 10) (lo := 0) (n := 4) (x0 ++ x1 : BitVec 12) (x2) (by decide))))

theorem f5_13_6 (e : Bool) (op : BitVec 6) (x0 : BitVec 6) (x1 : BitVec 6) (x2 : BitVec 10) (x3 : BitVec 3) :
    fld (wordOf e op (x0 ++ x1 ++ x2 ++ x3)) 13 6 = x1 :=
  (fld_body e op (x0 ++ x1 ++ x2 ++ x3) 13 6 (by decide)).trans ((hiPart (v := 22) (w := 3) (lo := 13) (n := 6) (x0 ++ x1 ++ x2 : BitVec 22) (x3) (by decide)).trans ((hiPart (v := 12) (w := 10) (lo := 10) (n := 6) (x0 ++ x1 : BitVec 12) (x2) (by decide)).trans ((loPart (v := 6) (w := 6) (lo := 0) (n := 6) (x0 : BitVec 6) (x1) (by decide)).trans ((whole (x1))))))

theorem f5_19_6 (e : Bool) (op : BitVec 6) (x0 : BitVec 6) (x1 : BitVec 6) (x2 : BitVec 10) (x3 : BitVec 3) :
    fld (wordOf e op (x0 ++ x1 ++ x2 ++ x3)) 19 6 = x0 :=
  (fld_body e op (x0 ++ x1 ++ x2 ++ x3) 19 6 (by decide)).trans ((hiPart (v := 22) (w := 3) (lo := 19) (n := 6) (x0 ++ x1 ++ x2 : BitVec 22) (x3) (by decide)).trans ((hiPart (v := 12) (w := 10) (lo := 16) (n := 6) (x0 ++ x1 : BitVec 12) (x2) (by decide)).trans ((hiPart (v := 6) (w := 6) (lo := 6) (n := 6) (x0 : BitVec 6) (x1) (by decide)).trans ((whole (x0))))))

theorem f6_0_3 (e : Bool) (op : BitVec 6) (x0 : BitVec 6) (x1 : BitVec 16) (x2 : BitVec 3) :
    fld (wordOf e op (x0 ++ x1 ++ x2)) 0 3 = x2 :=
  (fld_body e op (x0 ++ x1 ++ x2) 0 3 (by decide)).trans ((loPart (v := 22) (w := 3) (lo := 0) (n := 3) (x0 ++ x1 : BitVec 22) (x2) (by decide)).trans ((whole (x2))))

theorem f6_3_4 (e : Bool) (op : BitVec 6) (x0 : BitVec 6) (x1 : BitVec 16) (x2 : BitVec 3) :
    fld (wordOf e op (x0 ++ x1 ++ x2)) 3 4 = (x1).extractLsb' 0 4 :=
  (fld_body e op (x0 ++ x1 ++ x2) 3 4 (by decide)).trans ((hiPart (v := 22) (w := 3) (lo := 3) (n := 4) (x0 ++ x1 : BitVec 22) (x2) (by decide)).trans ((loPart (v := 6) (w := 16) (lo := 0) (n := 4) (x0 : BitVec 6) (x1) (by decide))))

theorem f6_19_6 (e : Bool) (op : BitVec 6) (x0 : BitVec 6) (x1 : BitVec 16) (x2 : BitVec 3) :
    fld (wordOf e op (x0 ++ x1 ++ x2)) 19 6 = x0 :=
  (fld_body e op (x0 ++ x1 ++ x2) 19 6 (by decide)).trans ((hiPart (v := 22) (w := 3) (lo := 19) (n := 6) (x0 ++ x1 : BitVec 22) (x2) (by decide)).trans ((hiPart (v := 6) (w := 16) (lo := 16) (n := 6) (x0 : BitVec 6) (x1) (by decide)).trans ((whole (x0)))))

theorem f7_0_3 (e : Bool) (op : BitVec 6) (x0 : BitVec 3) (x1 : BitVec 3) (x2 : BitVec 6) (x3 : BitVec 6) (x4 : BitVec 4) (x5 : BitVec 3) :
    fld (wordOf e op (x0 ++ x1 ++ x2 ++ x3 ++ x4 ++ x5)) 0 3 = x5 :=
  (fld_body e op (x0 ++ x1 ++ x2 ++ x3 ++ x4 ++ x5) 0 3 (by decide)).trans ((loPart (v := 22) (w := 3) (lo := 0) (n := 3) (x0 ++ x1 ++ x2 ++ x3 ++ x4 : BitVec 22) (x5) (by decide)).trans ((whole (x5))))

theorem f7_3_4 (e : Bool) (op : BitVec 6) (x0 : BitVec 3) (x1 : BitVec 3) (x2 : BitVec 6) (x3 : BitVec 6) (x4 : BitVec 4) (x5 : BitVec 3) :
    fld (wordOf e op (x0 ++ x1 ++ x2 ++ x3 ++ x4 ++ x5)) 3 4 = x4 :=
  (fld_body e op (x0 ++ x1 ++ x2 ++ x3 ++ x4 ++ x5) 3 4 (by decide)).trans ((hiPart (v := 22) (w := 3) (lo := 3) (n := 4) (x0 ++ x1 ++ x2 ++ x3 ++ x4 : BitVec 22) (x5) (by decide)).trans ((loPart (v := 18) (w := 4) (lo := 0) (n := 4) (x0 ++ x1 ++ x2 ++ x3 : BitVec 18) (x4) (by decide)).trans ((whole (x4)))))

theorem f7_7_6 (e : Bool) (op : BitVec 6) (x0 : BitVec 3) (x1 : BitVec 3) (x2 : BitVec 6) (x3 : BitVec 6) (x4 : BitVec 4) (x5 : BitVec 3) :
    fld (wordOf e op (x0 ++ x1 ++ x2 ++ x3 ++ x4 ++ x5)) 7 6 = x3 :=
  (fld_body e op (x0 ++ x1 ++ x2 ++ x3 ++ x4 ++ x5) 7 6 (by decide)).trans ((hiPart (v := 22) (w := 3) (lo := 7) (n := 6) (x0 ++ x1 ++ x2 ++ x3 ++ x4 : BitVec 22) (x5) (by decide)).trans ((hiPart (v := 18) (w := 4) (lo := 4) (n := 6) (x0 ++ x1 ++ x2 ++ x3 : BitVec 18) (x4) (by decide)).trans ((loPart (v := 12) (w := 6) (lo := 0) (n := 6) (x0 ++ x1 ++ x2 : BitVec 12) (x3) (by decide)).trans ((whole (x3))))))

theorem f7_13_6 (e : Bool) (op : BitVec 6) (x0 : BitVec 3) (x1 : BitVec 3) (x2 : BitVec 6) (x3 : BitVec 6) (x4 : BitVec 4) (x5 : BitVec 3) :
    fld (wordOf e op (x0 ++ x1 ++ x2 ++ x3 ++ x4 ++ x5)) 13 6 = x2 :=
  (fld_body e op (x0 ++ x1 ++ x2 ++ x3 ++ x4 ++ x5) 13 6 (by decide)).trans ((hiPart (v := 22) (w := 3) (lo := 13) (n := 6) (x0 ++ x1 ++ x2 ++ x3 ++ x4 : BitVec 22) (x5) (by decide)).trans ((hiPart (v := 18) (w := 4) (lo := 10) (n := 6) (x0 ++ x1 ++ x2 ++ x3 : BitVec 18) (x4) (by decide)).trans ((hiPart (v := 12) (w := 6) (lo := 6) (n := 6) (x0 ++ x1 ++ x2 : BitVec 12) (x3) (by decide)).trans ((loPart (v := 6) (w := 6) (lo := 0) (n := 6) (x0 ++ x1 : BitVec 6) (x2) (by decide)).trans ((whole (x2)))))))

theorem f7_19_3 (e : Bool) (op : BitVec 6) (x0 : BitVec 3) (x1 : BitVec 3) (x2 : BitVec 6) (x3 : BitVec 6) (x4 : BitVec 4) (x5 : BitVec 3) :
    fld (wordOf e op (x0 ++ x1 ++ x2 ++ x3 ++ x4 ++ x5)) 19 3 = x1 :=
  (fld_body e op (x0 ++ x1 ++ x2 ++ x3 ++ x4 ++ x5) 19 3 (by decide)).trans ((hiPart (v := 22) (w := 3) (lo := 19) (n := 3) (x0 ++ x1 ++ x2 ++ x3 ++ x4 : BitVec 22) (x5) (by decide)).trans ((hiPart (v := 18) (w := 4) (lo := 16) (n := 3) (x0 ++ x1 ++ x2 ++ x3 : BitVec 18) (x4) (by decide)).trans ((hiPart (v := 12) (w := 6) (lo := 12) (n := 3) (x0 ++ x1 ++ x2 : BitVec 12) (x3) (by decide)).trans ((hiPart (v := 6) (w := 6) (lo := 6) (n := 3) (x0 ++ x1 : BitVec 6) (x2) (by decide)).trans ((loPart (v := 3) (w := 3) (lo := 0) (n := 3) (x0 : BitVec 3) (x1) (by decide)).trans ((whole (x1))))))))

theorem f8_0_3 (e : Bool) (op : BitVec 6) (x0 : BitVec 3) (x1 : BitVec 3) (x2 : BitVec 6) (x3 : BitVec 6) (x4 : BitVec 1) (x5 : BitVec 3) (x6 : BitVec 3) :
    fld (wordOf e op (x0 ++ x1 ++ x2 ++ x3 ++ x4 ++ x5 ++ x6)) 0 3 = x6 :=
  (fld_body e op (x0 ++ x1 ++ x2 ++ x3 ++ x4 ++ x5 ++ x6) 0 3 (by decide)).trans ((loPart (v := 22) (w := 3) (lo := 0) (n := 3) (x0 ++ x1 ++ x2 ++ x3 ++ x4 ++ x5 : BitVec 22) (x6) (by decide)).trans ((whole (x6))))

theorem f8_3_3 (e : Bool) (op : BitVec 6) (x0 : BitVec 3) (x1 : BitVec 3) (x2 : BitVec 6) (x3 : BitVec 6) (x4 : BitVec 1) (x5 : BitVec 3) (x6 : BitVec 3) :
    fld (wordOf e op (x0 ++ x1 ++ x2 ++ x3 ++ x4 ++ x5 ++ x6)) 3 3 = x5 :=
  (fld_body e op (x0 ++ x1 ++ x2 ++ x3 ++ x4 ++ x5 ++ x6) 3 3 (by decide)).trans ((hiPart (v := 22) (w := 3) (lo := 3) (n := 3) (x0 ++ x1 ++ x2 ++ x3 ++ x4 ++ x5 : BitVec 22) (x6) (by decide)).trans ((loPart (v := 19) (w := 3) (lo := 0) (n := 3) (x0 ++ x1 ++ x2 ++ x3 ++ x4 : BitVec 19) (x5) (by decide)).trans ((whole (x5)))))

theorem f8_6_1 (e : Bool) (op : BitVec 6) (x0 : BitVec 3) (x1 : BitVec 3) (x2 : BitVec 6) (x3 : BitVec 6) (x4 : BitVec 1) (x5 : BitVec 3) (x6 : BitVec 3) :
    fld (wordOf e op (x0 ++ x1 ++ x2 ++ x3 ++ x4 ++ x5 ++ x6)) 6 1 = x4 :=
  (fld_body e op (x0 ++ x1 ++ x2 ++ x3 ++ x4 ++ x5 ++ x6) 6 1 (by decide)).trans ((hiPart (v := 22) (w := 3) (lo := 6) (n := 1) (x0 ++ x1 ++ x2 ++ x3 ++ x4 ++ x5 : BitVec 22) (x6) (by decide)).trans ((hiPart (v := 19) (w := 3) (lo := 3) (n := 1) (x0 ++ x1 ++ x2 ++ x3 ++ x4 : BitVec 19) (x5) (by decide)).trans ((loPart (v := 18) (w := 1) (lo := 0) (n := 1) (x0 ++ x1 ++ x2 ++ x3 : BitVec 18) (x4) (by decide)).trans ((whole (x4))))))

theorem f8_7_6 (e : Bool) (op : BitVec 6) (x0 : BitVec 3) (x1 : BitVec 3) (x2 : BitVec 6) (x3 : BitVec 6) (x4 : BitVec 1) (x5 : BitVec 3) (x6 : BitVec 3) :
    fld (wordOf e op (x0 ++ x1 ++ x2 ++ x3 ++ x4 ++ x5 ++ x6)) 7 6 = x3 :=
  (fld_body e op (x0 ++ x1 ++ x2 ++ x3 ++ x4 ++ x5 ++ x6) 7 6 (by decide)).trans ((hiPart (v := 22) (w := 3) (lo := 7) (n := 6) (x0 ++ x1 ++ x2 ++ x3 ++ x4 ++ x5 : BitVec 22) (x6) (by decide)).trans ((hiPart (v := 19) (w := 3) (lo := 4) (n := 6) (x0 ++ x1 ++ x2 ++ x3 ++ x4 : BitVec 19) (x5) (by decide)).trans ((hiPart (v := 18) (w := 1) (lo := 1) (n := 6) (x0 ++ x1 ++ x2 ++ x3 : BitVec 18) (x4) (by decide)).trans ((loPart (v := 12) (w := 6) (lo := 0) (n := 6) (x0 ++ x1 ++ x2 : BitVec 12) (x3) (by decide)).trans ((whole (x3)))))))

theorem f8_13_6 (e : Bool) (op : BitVec 6) (x0 : BitVec 3) (x1 : BitVec 3) (x2 : BitVec 6) (x3 : BitVec 6) (x4 : BitVec 1) (x5 : BitVec 3) (x6 : BitVec 3) :
    fld (wordOf e op (x0 ++ x1 ++ x2 ++ x3 ++ x4 ++ x5 ++ x6)) 13 6 = x2 :=
  (fld_body e op (x0 ++ x1 ++ x2 ++ x3 ++ x4 ++ x5 ++ x6) 13 6 (by decide)).trans ((hiPart (v := 22) (w := 3) (lo := 13) (n := 6) (x0 ++ x1 ++ x2 ++ x3 ++ x4 ++ x5 : BitVec 22) (x6) (by decide)).trans ((hiPart (v := 19) (w := 3) (lo := 10) (n := 6) (x0 ++ x1 ++ x2 ++ x3 ++ x4 : BitVec 19) (x5) (by decide)).trans ((hiPart (v := 18) (w := 1) (lo := 7) (n := 6) (x0 ++ x1 ++ x2 ++ x3 : BitVec 18) (x4) (by decide)).trans ((hiPart (v := 12) (w := 6) (lo := 6) (n := 6) (x0 ++ x1 ++ x2 : BitVec 12) (x3) (by decide)).trans ((loPart (v := 6) (w := 6) (lo := 0) (n := 6) (x0 ++ x1 : BitVec 6) (x2) (by decide)).trans ((whole (x2))))))))

theorem f8_19_3 (e : Bool) (op : BitVec 6) (x0 : BitVec 3) (x1 : BitVec 3) (x2 : BitVec 6) (x3 : BitVec 6) (x4 : BitVec 1) (x5 : BitVec 3) (x6 : BitVec 3) :
    fld (wordOf e op (x0 ++ x1 ++ x2 ++ x3 ++ x4 ++ x5 ++ x6)) 19 3 = x1 :=
  (fld_body e op (x0 ++ x1 ++ x2 ++ x3 ++ x4 ++ x5 ++ x6) 19 3 (by decide)).trans ((hiPart (v := 22) (w := 3) (lo := 19) (n := 3) (x0 ++ x1 ++ x2 ++ x3 ++ x4 ++ x5 : BitVec 22) (x6) (by decide)).trans ((hiPart (v := 19) (w := 3) (lo := 16) (n := 3) (x0 ++ x1 ++ x2 ++ x3 ++ x4 : BitVec 19) (x5) (by decide)).trans ((hiPart (v := 18) (w := 1) (lo := 13) (n := 3) (x0 ++ x1 ++ x2 ++ x3 : BitVec 18) (x4) (by decide)).trans ((hiPart (v := 12) (w := 6) (lo := 12) (n := 3) (x0 ++ x1 ++ x2 : BitVec 12) (x3) (by decide)).trans ((hiPart (v := 6) (w := 6) (lo := 6) (n := 3) (x0 ++ x1 : BitVec 6) (x2) (by decide)).trans ((loPart (v := 3) (w := 3) (lo := 0) (n := 3) (x0 : BitVec 3) (x1) (by decide)).trans ((whole (x1)))))))))

theorem f9_0_3 (e : Bool) (op : BitVec 6) (x0 : BitVec 6) (x1 : BitVec 6) (x2 : BitVec 2) (x3 : BitVec 4) (x4 : BitVec 4) (x5 : BitVec 3) :
    fld (wordOf e op (x0 ++ x1 ++ x2 ++ x3 ++ x4 ++ x5)) 0 3 = x5 :=
  (fld_body e op (x0 ++ x1 ++ x2 ++ x3 ++ x4 ++ x5) 0 3 (by decide)).trans ((loPart (v := 22) (w := 3) (lo := 0) (n := 3) (x0 ++ x1 ++ x2 ++ x3 ++ x4 : BitVec 22) (x5) (by decide)).trans ((whole (x5))))

theorem f9_3_4 (e : Bool) (op : BitVec 6) (x0 : BitVec 6) (x1 : BitVec 6) (x2 : BitVec 2) (x3 : BitVec 4) (x4 : BitVec 4) (x5 : BitVec 3) :
    fld (wordOf e op (x0 ++ x1 ++ x2 ++ x3 ++ x4 ++ x5)) 3 4 = x4 :=
  (fld_body e op (x0 ++ x1 ++ x2 ++ x3 ++ x4 ++ x5) 3 4 (by decide)).trans ((hiPart (v := 22) (w := 3) (lo := 3) (n := 4) (x0 ++ x1 ++ x2 ++ x3 ++ x4 : BitVec 22) (x5) (by decide)).trans ((loPart (v := 18) (w := 4) (lo := 0) (n := 4) (x0 ++ x1 ++ x2 ++ x3 : BitVec 18) (x4) (by decide)).trans ((whole (x4)))))

theorem f9_7_4 (e : Bool) (op : BitVec 6) (x0 : BitVec 6) (x1 : BitVec 6) (x2 : BitVec 2) (x3 : BitVec 4) (x4 : BitVec 4) (x5 : BitVec 3) :
    fld (wordOf e op (x0 ++ x1 ++ x2 ++ x3 ++ x4 ++ x5)) 7 4 = x3 :=
  (fld_body e op (x0 ++ x1 ++ x2 ++ x3 ++ x4 ++ x5) 7 4 (by decide)).trans ((hiPart (v := 22) (w := 3) (lo := 7) (n := 4) (x0 ++ x1 ++ x2 ++ x3 ++ x4 : BitVec 22) (x5) (by decide)).trans ((hiPart (v := 18) (w := 4) (lo := 4) (n := 4) (x0 ++ x1 ++ x2 ++ x3 : BitVec 18) (x4) (by decide)).trans ((loPart (v := 14) (w := 4) (lo := 0) (n := 4) (x0 ++ x1 ++ x2 : BitVec 14) (x3) (by decide)).trans ((whole (x3))))))

theorem f9_13_6 (e : Bool) (op : BitVec 6) (x0 : BitVec 6) (x1 : BitVec 6) (x2 : BitVec 2) (x3 : BitVec 4) (x4 : BitVec 4) (x5 : BitVec 3) :
    fld (wordOf e op (x0 ++ x1 ++ x2 ++ x3 ++ x4 ++ x5)) 13 6 = x1 :=
  (fld_body e op (x0 ++ x1 ++ x2 ++ x3 ++ x4 ++ x5) 13 6 (by decide)).trans ((hiPart (v := 22) (w := 3) (lo := 13) (n := 6) (x0 ++ x1 ++ x2 ++ x3 ++ x4 : BitVec 22) (x5) (by decide)).trans ((hiPart (v := 18) (w := 4) (lo := 10) (n := 6) (x0 ++ x1 ++ x2 ++ x3 : BitVec 18) (x4) (by decide)).trans ((hiPart (v := 14) (w := 4) (lo := 6) (n := 6) (x0 ++ x1 ++ x2 : BitVec 14) (x3) (by decide)).trans ((hiPart (v := 12) (w := 2) (lo := 2) (n := 6) (x0 ++ x1 : BitVec 12) (x2) (by decide)).trans ((loPart (v := 6) (w := 6) (lo := 0) (n := 6) (x0 : BitVec 6) (x1) (by decide)).trans ((whole (x1))))))))

theorem f9_19_6 (e : Bool) (op : BitVec 6) (x0 : BitVec 6) (x1 : BitVec 6) (x2 : BitVec 2) (x3 : BitVec 4) (x4 : BitVec 4) (x5 : BitVec 3) :
    fld (wordOf e op (x0 ++ x1 ++ x2 ++ x3 ++ x4 ++ x5)) 19 6 = x0 :=
  (fld_body e op (x0 ++ x1 ++ x2 ++ x3 ++ x4 ++ x5) 19 6 (by decide)).trans ((hiPart (v := 22) (w := 3) (lo := 19) (n := 6) (x0 ++ x1 ++ x2 ++ x3 ++ x4 : BitVec 22) (x5) (by decide)).trans ((hiPart (v := 18) (w := 4) (lo := 16) (n := 6) (x0 ++ x1 ++ x2 ++ x3 : BitVec 18) (x4) (by decide)).trans ((hiPart (v := 14) (w := 4) (lo := 12) (n := 6) (x0 ++ x1 ++ x2 : BitVec 14) (x3) (by decide)).trans ((hiPart (v := 12) (w := 2) (lo := 8) (n := 6) (x0 ++ x1 : BitVec 12) (x2) (by decide)).trans ((hiPart (v := 6) (w := 6) (lo := 6) (n := 6) (x0 : BitVec 6) (x1) (by decide)).trans ((whole (x0))))))))

theorem f10_0_3 (e : Bool) (op : BitVec 6) (x0 : BitVec 6) (x1 : BitVec 6) (x2 : BitVec 3) (x3 : BitVec 3) (x4 : BitVec 4) (x5 : BitVec 3) :
    fld (wordOf e op (x0 ++ x1 ++ x2 ++ x3 ++ x4 ++ x5)) 0 3 = x5 :=
  (fld_body e op (x0 ++ x1 ++ x2 ++ x3 ++ x4 ++ x5) 0 3 (by decide)).trans ((loPart (v := 22) (w := 3) (lo := 0) (n := 3) (x0 ++ x1 ++ x2 ++ x3 ++ x4 : BitVec 22) (x5) (by decide)).trans ((whole (x5))))

theorem f10_3_4 (e : Bool) (op : BitVec 6) (x0 : BitVec 6) (x1 : BitVec 6) (x2 : BitVec 3) (x3 : BitVec 3) (x4 : BitVec 4) (x5 : BitVec 3) :
    fld (wordOf e op (x0 ++ x1 ++ x2 ++ x3 ++ x4 ++ x5)) 3 4 = x4 :=
  (fld_body e op (x0 ++ x1 ++ x2 ++ x3 ++ x4 ++ x5) 3 4 (by decide)).trans ((hiPart (v := 22) (w := 3) (lo := 3) (n := 4) (x0 ++ x1 ++ x2 ++ x3 ++ x4 : BitVec 22) (x5) (by decide)).trans ((loPart (v := 18) (w := 4) (lo := 0) (n := 4) (x0 ++ x1 ++ x2 ++ x3 : BitVec 18) (x4) (by decide)).trans ((whole (x4)))))

theorem f10_7_3 (e : Bool) (op : BitVec 6) (x0 : BitVec 6) (x1 : BitVec 6) (x2 : BitVec 3) (x3 : BitVec 3) (x4 : BitVec 4) (x5 : BitVec 3) :
    fld (wordOf e op (x0 ++ x1 ++ x2 ++ x3 ++ x4 ++ x5)) 7 3 = x3 :=
  (fld_body e op (x0 ++ x1 ++ x2 ++ x3 ++ x4 ++ x5) 7 3 (by decide)).trans ((hiPart (v := 22) (w := 3) (lo := 7) (n := 3) (x0 ++ x1 ++ x2 ++ x3 ++ x4 : BitVec 22) (x5) (by decide)).trans ((hiPart (v := 18) (w := 4) (lo := 4) (n := 3) (x0 ++ x1 ++ x2 ++ x3 : BitVec 18) (x4) (by decide)).trans ((loPart (v := 15) (w := 3) (lo := 0) (n := 3) (x0 ++ x1 ++ x2 : BitVec 15) (x3) (by decide)).trans ((whole (x3))))))

theorem f10_13_6 (e : Bool) (op : BitVec 6) (x0 : BitVec 6) (x1 : BitVec 6) (x2 : BitVec 3) (x3 : BitVec 3) (x4 : BitVec 4) (x5 : BitVec 3) :
    fld (wordOf e op (x0 ++ x1 ++ x2 ++ x3 ++ x4 ++ x5)) 13 6 = x1 :=
  (fld_body e op (x0 ++ x1 ++ x2 ++ x3 ++ x4 ++ x5) 13 6 (by decide)).trans ((hiPart (v := 22) (w := 3) (lo := 13) (n := 6) (x0 ++ x1 ++ x2 ++ x3 ++ x4 : BitVec 22) (x5) (by decide)).trans ((hiPart (v := 18) (w := 4) (lo := 10) (n := 6) (x0 ++ x1 ++ x2 ++ x3 : BitVec 18) (x4) (by decide)).trans ((hiPart (v := 15) (w := 3) (lo := 6) (n := 6) (x0 ++ x1 ++ x2 : BitVec 15) (x3) (by decide)).trans ((hiPart (v := 12) (w := 3) (lo := 3) (n := 6) (x0 ++ x1 : BitVec 12) (x2) (by decide)).trans ((loPart (v := 6) (w := 6) (lo := 0) (n := 6) (x0 : BitVec 6) (x1) (by decide)).trans ((whole (x1))))))))

theorem f10_19_6 (e : Bool) (op : BitVec 6) (x0 : BitVec 6) (x1 : BitVec 6) (x2 : BitVec 3) (x3 : BitVec 3) (x4 : BitVec 4) (x5 : BitVec 3) :
    fld (wordOf e op (x0 ++ x1 ++ x2 ++ x3 ++ x4 ++ x5)) 19 6 = x0 :=
  (fld_body e op (x0 ++ x1 ++ x2 ++ x3 ++ x4 ++ x5) 19 6 (by decide)).trans ((hiPart (v := 22) (w := 3) (lo := 19) (n := 6) (x0 ++ x1 ++ x2 ++ x3 ++ x4 : BitVec 22) (x5) (by decide)).trans ((hiPart (v := 18) (w := 4) (lo := 16) (n := 6) (x0 ++ x1 ++ x2 ++ x3 : BitVec 18) (x4) (by decide)).trans ((hiPart (v := 15) (w := 3) (lo := 12) (n := 6) (x0 ++ x1 ++ x2 : BitVec 15) (x3) (by decide)).trans ((hiPart (v := 12) (w := 3) (lo := 9) (n := 6) (x0 ++ x1 : BitVec 12) (x2) (by decide)).trans ((hiPart (v := 6) (w := 6) (lo := 6) (n := 6) (x0 : BitVec 6) (x1) (by decide)).trans ((whole (x0))))))))

theorem f11_0_3 (e : Bool) (op : BitVec 6) (x0 : BitVec 6) (x1 : BitVec 6) (x2 : BitVec 2) (x3 : BitVec 4) (x4 : BitVec 4) (x5 : BitVec 3) :
    fld (wordOf e op (x0 ++ x1 ++ x2 ++ x3 ++ x4 ++ x5)) 0 3 = x5 :=
  (fld_body e op (x0 ++ x1 ++ x2 ++ x3 ++ x4 ++ x5) 0 3 (by decide)).trans ((loPart (v := 22) (w := 3) (lo := 0) (n := 3) (x0 ++ x1 ++ x2 ++ x3 ++ x4 : BitVec 22) (x5) (by decide)).trans ((whole (x5))))

theorem f11_3_4 (e : Bool) (op : BitVec 6) (x0 : BitVec 6) (x1 : BitVec 6) (x2 : BitVec 2) (x3 : BitVec 4) (x4 : BitVec 4) (x5 : BitVec 3) :
    fld (wordOf e op (x0 ++ x1 ++ x2 ++ x3 ++ x4 ++ x5)) 3 4 = x4 :=
  (fld_body e op (x0 ++ x1 ++ x2 ++ x3 ++ x4 ++ x5) 3 4 (by decide)).trans ((hiPart (v := 22) (w := 3) (lo := 3) (n := 4) (x0 ++ x1 ++ x2 ++ x3 ++ x4 : BitVec 22) (x5) (by decide)).trans ((loPart (v := 18) (w := 4) (lo := 0) (n := 4) (x0 ++ x1 ++ x2 ++ x3 : BitVec 18) (x4) (by decide)).trans ((whole (x4)))))

theorem f11_7_4 (e : Bool) (op : BitVec 6) (x0 : BitVec 6) (x1 : BitVec 6) (x2 : BitVec 2) (x3 : BitVec 4) (x4 : BitVec 4) (x5 : BitVec 3) :
    fld (wordOf e op (x0 ++ x1 ++ x2 ++ x3 ++ x4 ++ x5)) 7 4 = x3 :=
  (fld_body e op (x0 ++ x1 ++ x2 ++ x3 ++ x4 ++ x5) 7 4 (by decide)).trans ((hiPart (v := 22) (w := 3) (lo := 7) (n := 4) (x0 ++ x1 ++ x2 ++ x3 ++ x4 : BitVec 22) (x5) (by decide)).trans ((hiPart (v := 18) (w := 4) (lo := 4) (n := 4) (x0 ++ x1 ++ x2 ++ x3 : BitVec 18) (x4) (by decide)).trans ((loPart (v := 14) (w := 4) (lo := 0) (n := 4) (x0 ++ x1 ++ x2 : BitVec 14) (x3) (by decide)).trans ((whole (x3))))))

theorem f11_13_6 (e : Bool) (op : BitVec 6) (x0 : BitVec 6) (x1 : BitVec 6) (x2 : BitVec 2) (x3 : BitVec 4) (x4 : BitVec 4) (x5 : BitVec 3) :
    fld (wordOf e op (x0 ++ x1 ++ x2 ++ x3 ++ x4 ++ x5)) 13 6 = x1 :=
  (fld_body e op (x0 ++ x1 ++ x2 ++ x3 ++ x4 ++ x5) 13 6 (by decide)).trans ((hiPart (v := 22) (w := 3) (lo := 13) (n := 6) (x0 ++ x1 ++ x2 ++ x3 ++ x4 : BitVec 22) (x5) (by decide)).trans ((hiPart (v := 18) (w := 4) (lo := 10) (n := 6) (x0 ++ x1 ++ x2 ++ x3 : BitVec 18) (x4) (by decide)).trans ((hiPart (v := 14) (w := 4) (lo := 6) (n := 6) (x0 ++ x1 ++ x2 : BitVec 14) (x3) (by decide)).trans ((hiPart (v := 12) (w := 2) (lo := 2) (n := 6) (x0 ++ x1 : BitVec 12) (x2) (by decide)).trans ((loPart (v := 6) (w := 6) (lo := 0) (n := 6) (x0 : BitVec 6) (x1) (by decide)).trans ((whole (x1))))))))

theorem f11_19_6 (e : Bool) (op : BitVec 6) (x0 : BitVec 6) (x1 : BitVec 6) (x2 : BitVec 2) (x3 : BitVec 4) (x4 : BitVec 4) (x5 : BitVec 3) :
    fld (wordOf e op (x0 ++ x1 ++ x2 ++ x3 ++ x4 ++ x5)) 19 6 = x0 :=
  (fld_body e op (x0 ++ x1 ++ x2 ++ x3 ++ x4 ++ x5) 19 6 (by decide)).trans ((hiPart (v := 22) (w := 3) (lo := 19) (n := 6) (x0 ++ x1 ++ x2 ++ x3 ++ x4 : BitVec 22) (x5) (by decide)).trans ((hiPart (v := 18) (w := 4) (lo := 16) (n := 6) (x0 ++ x1 ++ x2 ++ x3 : BitVec 18) (x4) (by decide)).trans ((hiPart (v := 14) (w := 4) (lo := 12) (n := 6) (x0 ++ x1 ++ x2 : BitVec 14) (x3) (by decide)).trans ((hiPart (v := 12) (w := 2) (lo := 8) (n := 6) (x0 ++ x1 : BitVec 12) (x2) (by decide)).trans ((hiPart (v := 6) (w := 6) (lo := 6) (n := 6) (x0 : BitVec 6) (x1) (by decide)).trans ((whole (x0))))))))

theorem f12_0_3 (e : Bool) (op : BitVec 6) (x0 : BitVec 6) (x1 : BitVec 6) (x2 : BitVec 1) (x3 : Bool) (x4 : BitVec 4) (x5 : BitVec 4) (x6 : BitVec 3) :
    fld (wordOf e op (x0 ++ x1 ++ x2 ++ BitVec.ofBool x3 ++ x4 ++ x5 ++ x6)) 0 3 = x6 :=
  (fld_body e op (x0 ++ x1 ++ x2 ++ BitVec.ofBool x3 ++ x4 ++ x5 ++ x6) 0 3 (by decide)).trans ((loPart (v := 22) (w := 3) (lo := 0) (n := 3) (x0 ++ x1 ++ x2 ++ BitVec.ofBool x3 ++ x4 ++ x5 : BitVec 22) (x6) (by decide)).trans ((whole (x6))))

theorem f12_3_4 (e : Bool) (op : BitVec 6) (x0 : BitVec 6) (x1 : BitVec 6) (x2 : BitVec 1) (x3 : Bool) (x4 : BitVec 4) (x5 : BitVec 4) (x6 : BitVec 3) :
    fld (wordOf e op (x0 ++ x1 ++ x2 ++ BitVec.ofBool x3 ++ x4 ++ x5 ++ x6)) 3 4 = x5 :=
  (fld_body e op (x0 ++ x1 ++ x2 ++ BitVec.ofBool x3 ++ x4 ++ x5 ++ x6) 3 4 (by decide)).trans ((hiPart (v := 22) (w := 3) (lo := 3) (n := 4) (x0 ++ x1 ++ x2 ++ BitVec.ofBool x3 ++ x4 ++ x5 : BitVec 22) (x6) (by decide)).trans ((loPart (v := 18) (w := 4) (lo := 0) (n := 4) (x0 ++ x1 ++ x2 ++ BitVec.ofBool x3 ++ x4 : BitVec 18) (x5) (by decide)).trans ((whole (x5)))))

theorem f12_7_4 (e : Bool) (op : BitVec 6) (x0 : BitVec 6) (x1 : BitVec 6) (x2 : BitVec 1) (x3 : Bool) (x4 : BitVec 4) (x5 : BitVec 4) (x6 : BitVec 3) :
    fld (wordOf e op (x0 ++ x1 ++ x2 ++ BitVec.ofBool x3 ++ x4 ++ x5 ++ x6)) 7 4 = x4 :=
  (fld_body e op (x0 ++ x1 ++ x2 ++ BitVec.ofBool x3 ++ x4 ++ x5 ++ x6) 7 4 (by decide)).trans ((hiPart (v := 22) (w := 3) (lo := 7) (n := 4) (x0 ++ x1 ++ x2 ++ BitVec.ofBool x3 ++ x4 ++ x5 : BitVec 22) (x6) (by decide)).trans ((hiPart (v := 18) (w := 4) (lo := 4) (n := 4) (x0 ++ x1 ++ x2 ++ BitVec.ofBool x3 ++ x4 : BitVec 18) (x5) (by decide)).trans ((loPart (v := 14) (w := 4) (lo := 0) (n := 4) (x0 ++ x1 ++ x2 ++ BitVec.ofBool x3 : BitVec 14) (x4) (by decide)).trans ((whole (x4))))))

theorem f12_11_1 (e : Bool) (op : BitVec 6) (x0 : BitVec 6) (x1 : BitVec 6) (x2 : BitVec 1) (x3 : Bool) (x4 : BitVec 4) (x5 : BitVec 4) (x6 : BitVec 3) :
    fld (wordOf e op (x0 ++ x1 ++ x2 ++ BitVec.ofBool x3 ++ x4 ++ x5 ++ x6)) 11 1 = BitVec.ofBool x3 :=
  (fld_body e op (x0 ++ x1 ++ x2 ++ BitVec.ofBool x3 ++ x4 ++ x5 ++ x6) 11 1 (by decide)).trans ((hiPart (v := 22) (w := 3) (lo := 11) (n := 1) (x0 ++ x1 ++ x2 ++ BitVec.ofBool x3 ++ x4 ++ x5 : BitVec 22) (x6) (by decide)).trans ((hiPart (v := 18) (w := 4) (lo := 8) (n := 1) (x0 ++ x1 ++ x2 ++ BitVec.ofBool x3 ++ x4 : BitVec 18) (x5) (by decide)).trans ((hiPart (v := 14) (w := 4) (lo := 4) (n := 1) (x0 ++ x1 ++ x2 ++ BitVec.ofBool x3 : BitVec 14) (x4) (by decide)).trans ((loPart (v := 13) (w := 1) (lo := 0) (n := 1) (x0 ++ x1 ++ x2 : BitVec 13) (BitVec.ofBool x3) (by decide)).trans ((whole (BitVec.ofBool x3)))))))

theorem f12_13_6 (e : Bool) (op : BitVec 6) (x0 : BitVec 6) (x1 : BitVec 6) (x2 : BitVec 1) (x3 : Bool) (x4 : BitVec 4) (x5 : BitVec 4) (x6 : BitVec 3) :
    fld (wordOf e op (x0 ++ x1 ++ x2 ++ BitVec.ofBool x3 ++ x4 ++ x5 ++ x6)) 13 6 = x1 :=
  (fld_body e op (x0 ++ x1 ++ x2 ++ BitVec.ofBool x3 ++ x4 ++ x5 ++ x6) 13 6 (by decide)).trans ((hiPart (v := 22) (w := 3) (lo := 13) (n := 6) (x0 ++ x1 ++ x2 ++ BitVec.ofBool x3 ++ x4 ++ x5 : BitVec 22) (x6) (by decide)).trans ((hiPart (v := 18) (w := 4) (lo := 10) (n := 6) (x0 ++ x1 ++ x2 ++ BitVec.ofBool x3 ++ x4 : BitVec 18) (x5) (by decide)).trans ((hiPart (v := 14) (w := 4) (lo := 6) (n := 6) (x0 ++ x1 ++ x2 ++ BitVec.ofBool x3 : BitVec 14) (x4) (by decide)).trans ((hiPart (v := 13) (w := 1) (lo := 2) (n := 6) (x0 ++ x1 ++ x2 : BitVec 13) (BitVec.ofBool x3) (by decide)).trans ((hiPart (v := 12) (w := 1) (lo := 1) (n := 6) (x0 ++ x1 : BitVec 12) (x2) (by decide)).trans ((loPart (v := 6) (w := 6) (lo := 0) (n := 6) (x0 : BitVec 6) (x1) (by decide)).trans ((whole (x1)))))))))

theorem f12_19_6 (e : Bool) (op : BitVec 6) (x0 : BitVec 6) (x1 : BitVec 6) (x2 : BitVec 1) (x3 : Bool) (x4 : BitVec 4) (x5 : BitVec 4) (x6 : BitVec 3) :
    fld (wordOf e op (x0 ++ x1 ++ x2 ++ BitVec.ofBool x3 ++ x4 ++ x5 ++ x6)) 19 6 = x0 :=
  (fld_body e op (x0 ++ x1 ++ x2 ++ BitVec.ofBool x3 ++ x4 ++ x5 ++ x6) 19 6 (by decide)).trans ((hiPart (v := 22) (w := 3) (lo := 19) (n := 6) (x0 ++ x1 ++ x2 ++ BitVec.ofBool x3 ++ x4 ++ x5 : BitVec 22) (x6) (by decide)).trans ((hiPart (v := 18) (w := 4) (lo := 16) (n := 6) (x0 ++ x1 ++ x2 ++ BitVec.ofBool x3 ++ x4 : BitVec 18) (x5) (by decide)).trans ((hiPart (v := 14) (w := 4) (lo := 12) (n := 6) (x0 ++ x1 ++ x2 ++ BitVec.ofBool x3 : BitVec 14) (x4) (by decide)).trans ((hiPart (v := 13) (w := 1) (lo := 8) (n := 6) (x0 ++ x1 ++ x2 : BitVec 13) (BitVec.ofBool x3) (by decide)).trans ((hiPart (v := 12) (w := 1) (lo := 7) (n := 6) (x0 ++ x1 : BitVec 12) (x2) (by decide)).trans ((hiPart (v := 6) (w := 6) (lo := 6) (n := 6) (x0 : BitVec 6) (x1) (by decide)).trans ((whole (x0)))))))))

theorem f13_0_3 (e : Bool) (op : BitVec 6) (x0 : BitVec 3) (x1 : BitVec 3) (x2 : BitVec 6) (x3 : BitVec 10) (x4 : BitVec 3) :
    fld (wordOf e op (x0 ++ x1 ++ x2 ++ x3 ++ x4)) 0 3 = x4 :=
  (fld_body e op (x0 ++ x1 ++ x2 ++ x3 ++ x4) 0 3 (by decide)).trans ((loPart (v := 22) (w := 3) (lo := 0) (n := 3) (x0 ++ x1 ++ x2 ++ x3 : BitVec 22) (x4) (by decide)).trans ((whole (x4))))

theorem f13_3_4 (e : Bool) (op : BitVec 6) (x0 : BitVec 3) (x1 : BitVec 3) (x2 : BitVec 6) (x3 : BitVec 10) (x4 : BitVec 3) :
    fld (wordOf e op (x0 ++ x1 ++ x2 ++ x3 ++ x4)) 3 4 = (x3).extractLsb' 0 4 :=
  (fld_body e op (x0 ++ x1 ++ x2 ++ x3 ++ x4) 3 4 (by decide)).trans ((hiPart (v := 22) (w := 3) (lo := 3) (n := 4) (x0 ++ x1 ++ x2 ++ x3 : BitVec 22) (x4) (by decide)).trans ((loPart (v := 12) (w := 10) (lo := 0) (n := 4) (x0 ++ x1 ++ x2 : BitVec 12) (x3) (by decide))))

theorem f13_13_6 (e : Bool) (op : BitVec 6) (x0 : BitVec 3) (x1 : BitVec 3) (x2 : BitVec 6) (x3 : BitVec 10) (x4 : BitVec 3) :
    fld (wordOf e op (x0 ++ x1 ++ x2 ++ x3 ++ x4)) 13 6 = x2 :=
  (fld_body e op (x0 ++ x1 ++ x2 ++ x3 ++ x4) 13 6 (by decide)).trans ((hiPart (v := 22) (w := 3) (lo := 13) (n := 6) (x0 ++ x1 ++ x2 ++ x3 : BitVec 22) (x4) (by decide)).trans ((hiPart (v := 12) (w := 10) (lo := 10) (n := 6) (x0 ++ x1 ++ x2 : BitVec 12) (x3) (by decide)).trans ((loPart (v := 6) (w := 6) (lo := 0) (n := 6) (x0 ++ x1 : BitVec 6) (x2) (by decide)).trans ((whole (x2))))))

theorem f13_19_3 (e : Bool) (op : BitVec 6) (x0 : BitVec 3) (x1 : BitVec 3) (x2 : BitVec 6) (x3 : BitVec 10) (x4 : BitVec 3) :
    fld (wordOf e op (x0 ++ x1 ++ x2 ++ x3 ++ x4)) 19 3 = x1 :=
  (fld_body e op (x0 ++ x1 ++ x2 ++ x3 ++ x4) 19 3 (by decide)).trans ((hiPart (v := 22) (w := 3) (lo := 19) (n := 3) (x0 ++ x1 ++ x2 ++ x3 : BitVec 22) (x4) (by decide)).trans ((hiPart (v := 12) (w := 10) (lo := 16) (n := 3) (x0 ++ x1 ++ x2 : BitVec 12) (x3) (by decide)).trans ((hiPart (v := 6) (w := 6) (lo := 6) (n := 3) (x0 ++ x1 : BitVec 6) (x2) (by decide)).trans ((loPart (v := 3) (w := 3) (lo := 0) (n := 3) (x0 : BitVec 3) (x1) (by decide)).trans ((whole (x1)))))))

theorem f14_0_7 (e : Bool) (op : BitVec 6) (x0 : BitVec 6) (x1 : BitVec 3) (x2 : BitVec 3) (x3 : BitVec 13) :
    fld (wordOf e op (x0 ++ x1 ++ x2 ++ x3)) 0 7 = (x3).extractLsb' 0 7 :=
  (fld_body e op (x0 ++ x1 ++ x2 ++ x3) 0 7 (by decide)).trans ((loPart (v := 12) (w := 13) (lo := 0) (n := 7) (x0 ++ x1 ++ x2 : BitVec 12) (x3) (by decide)))

theorem f14_3_4 (e : Bool) (op : BitVec 6) (x0 : BitVec 6) (x1 : BitVec 3) (x2 : BitVec 3) (x3 : BitVec 13) :
    fld (wordOf e op (x0 ++ x1 ++ x2 ++ x3)) 3 4 = (x3).extractLsb' 3 4 :=
  (fld_body e op (x0 ++ x1 ++ x2 ++ x3) 3 4 (by decide)).trans ((loPart (v := 12) (w := 13) (lo := 3) (n := 4) (x0 ++ x1 ++ x2 : BitVec 12) (x3) (by decide)))

theorem f14_13_3 (e : Bool) (op : BitVec 6) (x0 : BitVec 6) (x1 : BitVec 3) (x2 : BitVec 3) (x3 : BitVec 13) :
    fld (wordOf e op (x0 ++ x1 ++ x2 ++ x3)) 13 3 = x2 :=
  (fld_body e op (x0 ++ x1 ++ x2 ++ x3) 13 3 (by decide)).trans ((hiPart (v := 12) (w := 13) (lo := 13) (n := 3) (x0 ++ x1 ++ x2 : BitVec 12) (x3) (by decide)).trans ((loPart (v := 9) (w := 3) (lo := 0) (n := 3) (x0 ++ x1 : BitVec 9) (x2) (by decide)).trans ((whole (x2)))))

theorem f14_19_6 (e : Bool) (op : BitVec 6) (x0 : BitVec 6) (x1 : BitVec 3) (x2 : BitVec 3) (x3 : BitVec 13) :
    fld (wordOf e op (x0 ++ x1 ++ x2 ++ x3)) 19 6 = x0 :=
  (fld_body e op (x0 ++ x1 ++ x2 ++ x3) 19 6 (by decide)).trans ((hiPart (v := 12) (w := 13) (lo := 19) (n := 6) (x0 ++ x1 ++ x2 : BitVec 12) (x3) (by decide)).trans ((hiPart (v := 9) (w := 3) (lo := 6) (n := 6) (x0 ++ x1 : BitVec 9) (x2) (by decide)).trans ((hiPart (v := 6) (w := 3) (lo := 3) (n := 6) (x0 : BitVec 6) (x1) (by decide)).trans ((whole (x0))))))

theorem f15_0_3 (e : Bool) (op : BitVec 6) (x0 : BitVec 3) (x1 : BitVec 3) (x2 : BitVec 3) (x3 : BitVec 3) (x4 : BitVec 3) (x5 : BitVec 3) (x6 : BitVec 4) (x7 : BitVec 3) :
    fld (wordOf e op (x0 ++ x1 ++ x2 ++ x3 ++ x4 ++ x5 ++ x6 ++ x7)) 0 3 = x7 :=
  (fld_body e op (x0 ++ x1 ++ x2 ++ x3 ++ x4 ++ x5 ++ x6 ++ x7) 0 3 (by decide)).trans ((loPart (v := 22) (w := 3) (lo := 0) (n := 3) (x0 ++ x1 ++ x2 ++ x3 ++ x4 ++ x5 ++ x6 : BitVec 22) (x7) (by decide)).trans ((whole (x7))))

theorem f15_3_4 (e : Bool) (op : BitVec 6) (x0 : BitVec 3) (x1 : BitVec 3) (x2 : BitVec 3) (x3 : BitVec 3) (x4 : BitVec 3) (x5 : BitVec 3) (x6 : BitVec 4) (x7 : BitVec 3) :
    fld (wordOf e op (x0 ++ x1 ++ x2 ++ x3 ++ x4 ++ x5 ++ x6 ++ x7)) 3 4 = x6 :=
  (fld_body e op (x0 ++ x1 ++ x2 ++ x3 ++ x4 ++ x5 ++ x6 ++ x7) 3 4 (by decide)).trans ((hiPart (v := 22) (w := 3) (lo := 3) (n := 4) (x0 ++ x1 ++ x2 ++ x3 ++ x4 ++ x5 ++ x6 : BitVec 22) (x7) (by decide)).trans ((loPart (v := 18) (w := 4) (lo := 0) (n := 4) (x0 ++ x1 ++ x2 ++ x3 ++ x4 ++ x5 : BitVec 18) (x6) (by decide)).trans ((whole (x6)))))

theorem f15_7_3 (e : Bool) (op : BitVec 6) (x0 : BitVec 3) (x1 : BitVec 3) (x2 : BitVec 3) (x3 : BitVec 3) (x4 : BitVec 3) (x5 : BitVec 3) (x6 : BitVec 4) (x7 : BitVec 3) :
    fld (wordOf e op (x0 ++ x1 ++ x2 ++ x3 ++ x4 ++ x5 ++ x6 ++ x7)) 7 3 = x5 :=
  (fld_body e op (x0 ++ x1 ++ x2 ++ x3 ++ x4 ++ x5 ++ x6 ++ x7) 7 3 (by decide)).trans ((hiPart (v := 22) (w := 3) (lo := 7) (n := 3) (x0 ++ x1 ++ x2 ++ x3 ++ x4 ++ x5 ++ x6 : BitVec 22) (x7) (by decide)).trans ((hiPart (v := 18) (w := 4) (lo := 4) (n := 3) (x0 ++ x1 ++ x2 ++ x3 ++ x4 ++ x5 : BitVec 18) (x6) (by decide)).trans ((loPart (v := 15) (w := 3) (lo := 0) (n := 3) (x0 ++ x1 ++ x2 ++ x3 ++ x4 : BitVec 15) (x5) (by decide)).trans ((whole (x5))))))

theorem f15_13_3 (e : Bool) (op : BitVec 6) (x0 : BitVec 3) (x1 : BitVec 3) (x2 : BitVec 3) (x3 : BitVec 3) (x4 : BitVec 3) (x5 : BitVec 3) (x6 : BitVec 4) (x7 : BitVec 3) :
    fld (wordOf e op (x0 ++ x1 ++ x2 ++ x3 ++ x4 ++ x5 ++ x6 ++ x7)) 13 3 = x3 :=
  (fld_body e op (x0 ++ x1 ++ x2 ++ x3 ++ x4 ++ x5 ++ x6 ++ x7) 13 3 (by decide)).trans ((hiPart (v := 22) (w := 3) (lo := 13) (n := 3) (x0 ++ x1 ++ x2 ++ x3 ++ x4 ++ x5 ++ x6 : BitVec 22) (x7) (by decide)).trans ((hiPart (v := 18) (w := 4) (lo := 10) (n := 3) (x0 ++ x1 ++ x2 ++ x3 ++ x4 ++ x5 : BitVec 18) (x6) (by decide)).trans ((hiPart (v := 15) (w := 3) (lo := 6) (n := 3) (x0 ++ x1 ++ x2 ++ x3 ++ x4 : BitVec 15) (x5) (by decide)).trans ((hiPart (v := 12) (w := 3) (lo := 3) (n := 3) (x0 ++ x1 ++ x2 ++ x3 : BitVec 12) (x4) (by decide)).trans ((loPart (v := 9) (w := 3) (lo := 0) (n := 3) (x0 ++ x1 ++ x2 : BitVec 9) (x3) (by decide)).trans ((whole (x3))))))))

theorem f15_19_3 (e : Bool) (op : BitVec 6) (x0 : BitVec 3) (x1 : BitVec 3) (x2 : BitVec 3) (x3 : BitVec 3) (x4 : BitVec 3) (x5 : BitVec 3) (x6 : BitVec 4) (x7 : BitVec 3) :
    fld (wordOf e op (x0 ++ x1 ++ x2 ++ x3 ++ x4 ++ x5 ++ x6 ++ x7)) 19 3 = x1 :=
  (fld_body e op (x0 ++ x1 ++ x2 ++ x3 ++ x4 ++ x5 ++ x6 ++ x7) 19 3 (by decide)).trans ((hiPart (v := 22) (w := 3) (lo := 19) (n := 3) (x0 ++ x1 ++ x2 ++ x3 ++ x4 ++ x5 ++ x6 : BitVec 22) (x7) (by decide)).trans ((hiPart (v := 18) (w := 4) (lo := 16) (n := 3) (x0 ++ x1 ++ x2 ++ x3 ++ x4 ++ x5 : BitVec 18) (x6) (by decide)).trans ((hiPart (v := 15) (w := 3) (lo := 12) (n := 3) (x0 ++ x1 ++ x2 ++ x3 ++ x4 : BitVec 15) (x5) (by decide)).trans ((hiPart (v := 12) (w := 3) (lo := 9) (n := 3) (x0 ++ x1 ++ x2 ++ x3 : BitVec 12) (x4) (by decide)).trans ((hiPart (v := 9) (w := 3) (lo := 6) (n := 3) (x0 ++ x1 ++ x2 : BitVec 9) (x3) (by decide)).trans ((hiPart (v := 6) (w := 3) (lo := 3) (n := 3) (x0 ++ x1 : BitVec 6) (x2) (by decide)).trans ((loPart (v := 3) (w := 3) (lo := 0) (n := 3) (x0 : BitVec 3) (x1) (by decide)).trans ((whole (x1))))))))))

theorem f16_0_3 (e : Bool) (op : BitVec 6) (x0 : BitVec 3) (x1 : BitVec 3) (x2 : BitVec 3) (x3 : BitVec 3) (x4 : BitVec 10) (x5 : BitVec 3) :
    fld (wordOf e op (x0 ++ x1 ++ x2 ++ x3 ++ x4 ++ x5)) 0 3 = x5 :=
  (fld_body e op (x0 ++ x1 ++ x2 ++ x3 ++ x4 ++ x5) 0 3 (by decide)).trans ((loPart (v := 22) (w := 3) (lo := 0) (n := 3) (x0 ++ x1 ++ x2 ++ x3 ++ x4 : BitVec 22) (x5) (by decide)).trans ((whole (x5))))

theorem f16_3_4 (e : Bool) (op : BitVec 6) (x0 : BitVec 3) (x1 : BitVec 3) (x2 : BitVec 3) (x3 : BitVec 3) (x4 : BitVec 10) (x5 : BitVec 3) :
    fld (wordOf e op (x0 ++ x1 ++ x2 ++ x3 ++ x4 ++ x5)) 3 4 = (x4).extractLsb' 0 4 :=
  (fld_body e op (x0 ++ x1 ++ x2 ++ x3 ++ x4 ++ x5) 3 4 (by decide)).trans ((hiPart (v := 22) (w := 3) (lo := 3) (n := 4) (x0 ++ x1 ++ x2 ++ x3 ++ x4 : BitVec 22) (x5) (by decide)).trans ((loPart (v := 12) (w := 10) (lo := 0) (n := 4) (x0 ++ x1 ++ x2 ++ x3 : BitVec 12) (x4) (by decide))))

theorem f16_13_3 (e : Bool) (op : BitVec 6) (x0 : BitVec 3) (x1 : BitVec 3) (x2 : BitVec 3) (x3 : BitVec 3) (x4 : BitVec 10) (x5 : BitVec 3) :
    fld (wordOf e op (x0 ++ x1 ++ x2 ++ x3 ++ x4 ++ x5)) 13 3 = x3 :=
  (fld_body e op (x0 ++ x1 ++ x2 ++ x3 ++ x4 ++ x5) 13 3 (by decide)).trans ((hiPart (v := 22) (w := 3) (lo := 13) (n := 3) (x0 ++ x1 ++ x2 ++ x3 ++ x4 : BitVec 22) (x5) (by decide)).trans ((hiPart (v := 12) (w := 10) (lo := 10) (n := 3) (x0 ++ x1 ++ x2 ++ x3 : BitVec 12) (x4) (by decide)).trans ((loPart (v := 9) (w := 3) (lo := 0) (n := 3) (x0 ++ x1 ++ x2 : BitVec 9) (x3) (by decide)).trans ((whole (x3))))))

theorem f16_19_3 (e : Bool) (op : BitVec 6) (x0 : BitVec 3) (x1 : BitVec 3) (x2 : BitVec 3) (x3 : BitVec 3) (x4 : BitVec 10) (x5 : BitVec 3) :
    fld (wordOf e op (x0 ++ x1 ++ x2 ++ x3 ++ x4 ++ x5)) 19 3 = x1 :=
  (fld_body e op (x0 ++ x1 ++ x2 ++ x3 ++ x4 ++ x5) 19 3 (by decide)).trans ((hiPart (v := 22) (w := 3) (lo := 19) (n := 3) (x0 ++ x1 ++ x2 ++ x3 ++ x4 : BitVec 22) (x5) (by decide)).trans ((hiPart (v := 12) (w := 10) (lo := 16) (n := 3) (x0 ++ x1 ++ x2 ++ x3 : BitVec 12) (x4) (by decide)).trans ((hiPart (v := 9) (w := 3) (lo := 6) (n := 3) (x0 ++ x1 ++ x2 : BitVec 9) (x3) (by decide)).trans ((hiPart (v := 6) (w := 3) (lo := 3) (n := 3) (x0 ++ x1 : BitVec 6) (x2) (by decide)).trans ((loPart (v := 3) (w := 3) (lo := 0) (n := 3) (x0 : BitVec 3) (x1) (by decide)).trans ((whole (x1))))))))

theorem f17_0_3 (e : Bool) (op : BitVec 6) (x0 : BitVec 6) (x1 : BitVec 6) (x2 : BitVec 6) (x3 : Bool) (x4 : BitVec 3) (x5 : BitVec 3) :
    fld (wordOf e op (x0 ++ x1 ++ x2 ++ BitVec.ofBool x3 ++ x4 ++ x5)) 0 3 = x5 :=
  (fld_body e op (x0 ++ x1 ++ x2 ++ BitVec.ofBool x3 ++ x4 ++ x5) 0 3 (by decide)).trans ((loPart (v := 22) (w := 3) (lo := 0) (n := 3) (x0 ++ x1 ++ x2 ++ BitVec.ofBool x3 ++ x4 : BitVec 22) (x5) (by decide)).trans ((whole (x5))))

theorem f17_3_3 (e : Bool) (op : BitVec 6) (x0 : BitVec 6) (x1 : BitVec 6) (x2 : BitVec 6) (x3 : Bool) (x4 : BitVec 3) (x5 : BitVec 3) :
    fld (wordOf e op (x0 ++ x1 ++ x2 ++ BitVec.ofBool x3 ++ x4 ++ x5)) 3 3 = x4 :=
  (fld_body e op (x0 ++ x1 ++ x2 ++ BitVec.ofBool x3 ++ x4 ++ x5) 3 3 (by decide)).trans ((hiPart (v := 22) (w := 3) (lo := 3) (n := 3) (x0 ++ x1 ++ x2 ++ BitVec.ofBool x3 ++ x4 : BitVec 22) (x5) (by decide)).trans ((loPart (v := 19) (w := 3) (lo := 0) (n := 3) (x0 ++ x1 ++ x2 ++ BitVec.ofBool x3 : BitVec 19) (x4) (by decide)).trans ((whole (x4)))))

theorem f17_6_1 (e : Bool) (op : BitVec 6) (x0 : BitVec 6) (x1 : BitVec 6) (x2 : BitVec 6) (x3 : Bool) (x4 : BitVec 3) (x5 : BitVec 3) :
    fld (wordOf e op (x0 ++ x1 ++ x2 ++ BitVec.ofBool x3 ++ x4 ++ x5)) 6 1 = BitVec.ofBool x3 :=
  (fld_body e op (x0 ++ x1 ++ x2 ++ BitVec.ofBool x3 ++ x4 ++ x5) 6 1 (by decide)).trans ((hiPart (v := 22) (w := 3) (lo := 6) (n := 1) (x0 ++ x1 ++ x2 ++ BitVec.ofBool x3 ++ x4 : BitVec 22) (x5) (by decide)).trans ((hiPart (v := 19) (w := 3) (lo := 3) (n := 1) (x0 ++ x1 ++ x2 ++ BitVec.ofBool x3 : BitVec 19) (x4) (by decide)).trans ((loPart (v := 18) (w := 1) (lo := 0) (n := 1) (x0 ++ x1 ++ x2 : BitVec 18) (BitVec.ofBool x3) (by decide)).trans ((whole (BitVec.ofBool x3))))))

theorem f17_7_6 (e : Bool) (op : BitVec 6) (x0 : BitVec 6) (x1 : BitVec 6) (x2 : BitVec 6) (x3 : Bool) (x4 : BitVec 3) (x5 : BitVec 3) :
    fld (wordOf e op (x0 ++ x1 ++ x2 ++ BitVec.ofBool x3 ++ x4 ++ x5)) 7 6 = x2 :=
  (fld_body e op (x0 ++ x1 ++ x2 ++ BitVec.ofBool x3 ++ x4 ++ x5) 7 6 (by decide)).trans ((hiPart (v := 22) (w := 3) (lo := 7) (n := 6) (x0 ++ x1 ++ x2 ++ BitVec.ofBool x3 ++ x4 : BitVec 22) (x5) (by decide)).trans ((hiPart (v := 19) (w := 3) (lo := 4) (n := 6) (x0 ++ x1 ++ x2 ++ BitVec.ofBool x3 : BitVec 19) (x4) (by decide)).trans ((hiPart (v := 18) (w := 1) (lo := 1) (n := 6) (x0 ++ x1 ++ x2 : BitVec 18) (BitVec.ofBool x3) (by decide)).trans ((loPart (v := 12) (w := 6) (lo := 0) (n := 6) (x0 ++ x1 : BitVec 12) (x2) (by decide)).trans ((whole (x2)))))))

theorem f17_13_6 (e : Bool) (op : BitVec 6) (x0 : BitVec 6) (x1 : BitVec 6) (x2 : BitVec 6) (x3 : Bool) (x4 : BitVec 3) (x5 : BitVec 3) :
    fld (wordOf e op (x0 ++ x1 ++ x2 ++ BitVec.ofBool x3 ++ x4 ++ x5)) 13 6 = x1 :=
  (fld_body e op (x0 ++ x1 ++ x2 ++ BitVec.ofBool x3 ++ x4 ++ x5) 13 6 (by decide)).trans ((hiPart (v := 22) (w := 3) (lo := 13) (n := 6) (x0 ++ x1 ++ x2 ++ BitVec.ofBool x3 ++ x4 : BitVec 22) (x5) (by decide)).trans ((hiPart (v := 19) (w := 3) (lo := 10) (n := 6) (x0 ++ x1 ++ x2 ++ BitVec.ofBool x3 : BitVec 19) (x4) (by decide)).trans ((hiPart (v := 18) (w := 1) (lo := 7) (n := 6) (x0 ++ x1 ++ x2 : BitVec 18) (BitVec.ofBool x3) (by decide)).trans ((hiPart (v := 12) (w := 6) (lo := 6) (n := 6) (x0 ++ x1 : BitVec 12) (x2) (by decide)).trans ((loPart (v := 6) (w := 6) (lo := 0) (n := 6) (x0 : BitVec 6) (x1) (by decide)).trans ((whole (x1))))))))

theorem f17_19_6 (e : Bool) (op : BitVec 6) (x0 : BitVec 6) (x1 : BitVec 6) (x2 : BitVec 6) (x3 : Bool) (x4 : BitVec 3) (x5 : BitVec 3) :
    fld (wordOf e op (x0 ++ x1 ++ x2 ++ BitVec.ofBool x3 ++ x4 ++ x5)) 19 6 = x0 :=
  (fld_body e op (x0 ++ x1 ++ x2 ++ BitVec.ofBool x3 ++ x4 ++ x5) 19 6 (by decide)).trans ((hiPart (v := 22) (w := 3) (lo := 19) (n := 6) (x0 ++ x1 ++ x2 ++ BitVec.ofBool x3 ++ x4 : BitVec 22) (x5) (by decide)).trans ((hiPart (v := 19) (w := 3) (lo := 16) (n := 6) (x0 ++ x1 ++ x2 ++ BitVec.ofBool x3 : BitVec 19) (x4) (by decide)).trans ((hiPart (v := 18) (w := 1) (lo := 13) (n := 6) (x0 ++ x1 ++ x2 : BitVec 18) (BitVec.ofBool x3) (by decide)).trans ((hiPart (v := 12) (w := 6) (lo := 12) (n := 6) (x0 ++ x1 : BitVec 12) (x2) (by decide)).trans ((hiPart (v := 6) (w := 6) (lo := 6) (n := 6) (x0 : BitVec 6) (x1) (by decide)).trans ((whole (x0))))))))

theorem f18_0_3 (e : Bool) (op : BitVec 6) (x0 : BitVec 6) (x1 : BitVec 6) (x2 : BitVec 6) (x3 : BitVec 1) (x4 : BitVec 3) (x5 : BitVec 3) :
    fld (wordOf e op (x0 ++ x1 ++ x2 ++ x3 ++ x4 ++ x5)) 0 3 = x5 :=
  (fld_body e op (x0 ++ x1 ++ x2 ++ x3 ++ x4 ++ x5) 0 3 (by decide)).trans ((loPart (v := 22) (w := 3) (lo := 0) (n := 3) (x0 ++ x1 ++ x2 ++ x3 ++ x4 : BitVec 22) (x5) (by decide)).trans ((whole (x5))))

theorem f18_3_3 (e : Bool) (op : BitVec 6) (x0 : BitVec 6) (x1 : BitVec 6) (x2 : BitVec 6) (x3 : BitVec 1) (x4 : BitVec 3) (x5 : BitVec 3) :
    fld (wordOf e op (x0 ++ x1 ++ x2 ++ x3 ++ x4 ++ x5)) 3 3 = x4 :=
  (fld_body e op (x0 ++ x1 ++ x2 ++ x3 ++ x4 ++ x5) 3 3 (by decide)).trans ((hiPart (v := 22) (w := 3) (lo := 3) (n := 3) (x0 ++ x1 ++ x2 ++ x3 ++ x4 : BitVec 22) (x5) (by decide)).trans ((loPart (v := 19) (w := 3) (lo := 0) (n := 3) (x0 ++ x1 ++ x2 ++ x3 : BitVec 19) (x4) (by decide)).trans ((whole (x4)))))

theorem f18_6_1 (e : Bool) (op : BitVec 6) (x0 : BitVec 6) (x1 : BitVec 6) (x2 : BitVec 6) (x3 : BitVec 1) (x4 : BitVec 3) (x5 : BitVec 3) :
    fld (wordOf e op (x0 ++ x1 ++ x2 ++ x3 ++ x4 ++ x5)) 6 1 = x3 :=
  (fld_body e op (x0 ++ x1 ++ x2 ++ x3 ++ x4 ++ x5) 6 1 (by decide)).trans ((hiPart (v := 22) (w := 3) (lo := 6) (n := 1) (x0 ++ x1 ++ x2 ++ x3 ++ x4 : BitVec 22) (x5) (by decide)).trans ((hiPart (v := 19) (w := 3) (lo := 3) (n := 1) (x0 ++ x1 ++ x2 ++ x3 : BitVec 19) (x4) (by decide)).trans ((loPart (v := 18) (w := 1) (lo := 0) (n := 1) (x0 ++ x1 ++ x2 : BitVec 18) (x3) (by decide)).trans ((whole (x3))))))

theorem f18_7_6 (e : Bool) (op : BitVec 6) (x0 : BitVec 6) (x1 : BitVec 6) (x2 : BitVec 6) (x3 : BitVec 1) (x4 : BitVec 3) (x5 : BitVec 3) :
    fld (wordOf e op (x0 ++ x1 ++ x2 ++ x3 ++ x4 ++ x5)) 7 6 = x2 :=
  (fld_body e op (x0 ++ x1 ++ x2 ++ x3 ++ x4 ++ x5) 7 6 (by decide)).trans ((hiPart (v := 22) (w := 3) (lo := 7) (n := 6) (x0 ++ x1 ++ x2 ++ x3 ++ x4 : BitVec 22) (x5) (by decide)).trans ((hiPart (v := 19) (w := 3) (lo := 4) (n := 6) (x0 ++ x1 ++ x2 ++ x3 : BitVec 19) (x4) (by decide)).trans ((hiPart (v := 18) (w := 1) (lo := 1) (n := 6) (x0 ++ x1 ++ x2 : BitVec 18) (x3) (by decide)).trans ((loPart (v := 12) (w := 6) (lo := 0) (n := 6) (x0 ++ x1 : BitVec 12) (x2) (by decide)).trans ((whole (x2)))))))

theorem f18_13_6 (e : Bool) (op : BitVec 6) (x0 : BitVec 6) (x1 : BitVec 6) (x2 : BitVec 6) (x3 : BitVec 1) (x4 : BitVec 3) (x5 : BitVec 3) :
    fld (wordOf e op (x0 ++ x1 ++ x2 ++ x3 ++ x4 ++ x5)) 13 6 = x1 :=
  (fld_body e op (x0 ++ x1 ++ x2 ++ x3 ++ x4 ++ x5) 13 6 (by decide)).trans ((hiPart (v := 22) (w := 3) (lo := 13) (n := 6) (x0 ++ x1 ++ x2 ++ x3 ++ x4 : BitVec 22) (x5) (by decide)).trans ((hiPart (v := 19) (w := 3) (lo := 10) (n := 6) (x0 ++ x1 ++ x2 ++ x3 : BitVec 19) (x4) (by decide)).trans ((hiPart (v := 18) (w := 1) (lo := 7) (n := 6) (x0 ++ x1 ++ x2 : BitVec 18) (x3) (by decide)).trans ((hiPart (v := 12) (w := 6) (lo := 6) (n := 6) (x0 ++ x1 : BitVec 12) (x2) (by decide)).trans ((loPart (v := 6) (w := 6) (lo := 0) (n := 6) (x0 : BitVec 6) (x1) (by decide)).trans ((whole (x1))))))))

theorem f18_19_6 (e : Bool) (op : BitVec 6) (x0 : BitVec 6) (x1 : BitVec 6) (x2 : BitVec 6) (x3 : BitVec 1) (x4 : BitVec 3) (x5 : BitVec 3) :
    fld (wordOf e op (x0 ++ x1 ++ x2 ++ x3 ++ x4 ++ x5)) 19 6 = x0 :=
  (fld_body e op (x0 ++ x1 ++ x2 ++ x3 ++ x4 ++ x5) 19 6 (by decide)).trans ((hiPart (v := 22) (w := 3) (lo := 19) (n := 6) (x0 ++ x1 ++ x2 ++ x3 ++ x4 : BitVec 22) (x5) (by decide)).trans ((hiPart (v := 19) (w := 3) (lo := 16) (n := 6) (x0 ++ x1 ++ x2 ++ x3 : BitVec 19) (x4) (by decide)).trans ((hiPart (v := 18) (w := 1) (lo := 13) (n := 6) (x0 ++ x1 ++ x2 : BitVec 18) (x3) (by decide)).trans ((hiPart (v := 12) (w := 6) (lo := 12) (n := 6) (x0 ++ x1 : BitVec 12) (x2) (by decide)).trans ((hiPart (v := 6) (w := 6) (lo := 6) (n := 6) (x0 : BitVec 6) (x1) (by decide)).trans ((whole (x0))))))))

theorem f19_0_3 (e : Bool) (op : BitVec 6) (x0 : BitVec 6) (x1 : BitVec 6) (x2 : BitVec 6) (x3 : BitVec 1) (x4 : Bool) (x5 : BitVec 2) (x6 : BitVec 3) :
    fld (wordOf e op (x0 ++ x1 ++ x2 ++ x3 ++ BitVec.ofBool x4 ++ x5 ++ x6)) 0 3 = x6 :=
  (fld_body e op (x0 ++ x1 ++ x2 ++ x3 ++ BitVec.ofBool x4 ++ x5 ++ x6) 0 3 (by decide)).trans ((loPart (v := 22) (w := 3) (lo := 0) (n := 3) (x0 ++ x1 ++ x2 ++ x3 ++ BitVec.ofBool x4 ++ x5 : BitVec 22) (x6) (by decide)).trans ((whole (x6))))

theorem f19_3_2 (e : Bool) (op : BitVec 6) (x0 : BitVec 6) (x1 : BitVec 6) (x2 : BitVec 6) (x3 : BitVec 1) (x4 : Bool) (x5 : BitVec 2) (x6 : BitVec 3) :
    fld (wordOf e op (x0 ++ x1 ++ x2 ++ x3 ++ BitVec.ofBool x4 ++ x5 ++ x6)) 3 2 = x5 :=
  (fld_body e op (x0 ++ x1 ++ x2 ++ x3 ++ BitVec.ofBool x4 ++ x5 ++ x6) 3 2 (by decide)).trans ((hiPart (v := 22) (w := 3) (lo := 3) (n := 2) (x0 ++ x1 ++ x2 ++ x3 ++ BitVec.ofBool x4 ++ x5 : BitVec 22) (x6) (by decide)).trans ((loPart (v := 20) (w := 2) (lo := 0) (n := 2) (x0 ++ x1 ++ x2 ++ x3 ++ BitVec.ofBool x4 : BitVec 20) (x5) (by decide)).trans ((whole (x5)))))

theorem f19_5_1 (e : Bool) (op : BitVec 6) (x0 : BitVec 6) (x1 : BitVec 6) (x2 : BitVec 6) (x3 : BitVec 1) (x4 : Bool) (x5 : BitVec 2) (x6 : BitVec 3) :
    fld (wordOf e op (x0 ++ x1 ++ x2 ++ x3 ++ BitVec.ofBool x4 ++ x5 ++ x6)) 5 1 = BitVec.ofBool x4 :=
  (fld_body e op (x0 ++ x1 ++ x2 ++ x3 ++ BitVec.ofBool x4 ++ x5 ++ x6) 5 1 (by decide)).trans ((hiPart (v := 22) (w := 3) (lo := 5) (n := 1) (x0 ++ x1 ++ x2 ++ x3 ++ BitVec.ofBool x4 ++ x5 : BitVec 22) (x6) (by decide)).trans ((hiPart (v := 20) (w := 2) (lo := 2) (n := 1) (x0 ++ x1 ++ x2 ++ x3 ++ BitVec.ofBool x4 : BitVec 20) (x5) (by decide)).trans ((loPart (v := 19) (w := 1) (lo := 0) (n := 1) (x0 ++ x1 ++ x2 ++ x3 : BitVec 19) (BitVec.ofBool x4) (by decide)).trans ((whole (BitVec.ofBool x4))))))

theorem f19_6_1 (e : Bool) (op : BitVec 6) (x0 : BitVec 6) (x1 : BitVec 6) (x2 : BitVec 6) (x3 : BitVec 1) (x4 : Bool) (x5 : BitVec 2) (x6 : BitVec 3) :
    fld (wordOf e op (x0 ++ x1 ++ x2 ++ x3 ++ BitVec.ofBool x4 ++ x5 ++ x6)) 6 1 = x3 :=
  (fld_body e op (x0 ++ x1 ++ x2 ++ x3 ++ BitVec.ofBool x4 ++ x5 ++ x6) 6 1 (by decide)).trans ((hiPart (v := 22) (w := 3) (lo := 6) (n := 1) (x0 ++ x1 ++ x2 ++ x3 ++ BitVec.ofBool x4 ++ x5 : BitVec 22) (x6) (by decide)).trans ((hiPart (v := 20) (w := 2) (lo := 3) (n := 1) (x0 ++ x1 ++ x2 ++ x3 ++ BitVec.ofBool x4 : BitVec 20) (x5) (by decide)).trans ((hiPart (v := 19) (w := 1) (lo := 1) (n := 1) (x0 ++ x1 ++ x2 ++ x3 : BitVec 19) (BitVec.ofBool x4) (by decide)).trans ((loPart (v := 18) (w := 1) (lo := 0) (n := 1) (x0 ++ x1 ++ x2 : BitVec 18) (x3) (by decide)).trans ((whole (x3)))))))

theorem f19_7_6 (e : Bool) (op : BitVec 6) (x0 : BitVec 6) (x1 : BitVec 6) (x2 : BitVec 6) (x3 : BitVec 1) (x4 : Bool) (x5 : BitVec 2) (x6 : BitVec 3) :
    fld (wordOf e op (x0 ++ x1 ++ x2 ++ x3 ++ BitVec.ofBool x4 ++ x5 ++ x6)) 7 6 = x2 :=
  (fld_body e op (x0 ++ x1 ++ x2 ++ x3 ++ BitVec.ofBool x4 ++ x5 ++ x6) 7 6 (by decide)).trans ((hiPart (v := 22) (w := 3) (lo := 7) (n := 6) (x0 ++ x1 ++ x2 ++ x3 ++ BitVec.ofBool x4 ++ x5 : BitVec 22) (x6) (by decide)).trans ((hiPart (v := 20) (w := 2) (lo := 4) (n := 6) (x0 ++ x1 ++ x2 ++ x3 ++ BitVec.ofBool x4 : BitVec 20) (x5) (by decide)).trans ((hiPart (v := 19) (w := 1) (lo := 2) (n := 6) (x0 ++ x1 ++ x2 ++ x3 : BitVec 19) (BitVec.ofBool x4) (by decide)).trans ((hiPart (v := 18) (w := 1) (lo := 1) (n := 6) (x0 ++ x1 ++ x2 : BitVec 18) (x3) (by decide)).trans ((loPart (v := 12) (w := 6) (lo := 0) (n := 6) (x0 ++ x1 : BitVec 12) (x2) (by decide)).trans ((whole (x2))))))))

theorem f19_13_6 (e : Bool) (op : BitVec 6) (x0 : BitVec 6) (x1 : BitVec 6) (x2 : BitVec 6) (x3 : BitVec 1) (x4 : Bool) (x5 : BitVec 2) (x6 : BitVec 3) :
    fld (wordOf e op (x0 ++ x1 ++ x2 ++ x3 ++ BitVec.ofBool x4 ++ x5 ++ x6)) 13 6 = x1 :=
  (fld_body e op (x0 ++ x1 ++ x2 ++ x3 ++ BitVec.ofBool x4 ++ x5 ++ x6) 13 6 (by decide)).trans ((hiPart (v := 22) (w := 3) (lo := 13) (n := 6) (x0 ++ x1 ++ x2 ++ x3 ++ BitVec.ofBool x4 ++ x5 : BitVec 22) (x6) (by decide)).trans ((hiPart (v := 20) (w := 2) (lo := 10) (n := 6) (x0 ++ x1 ++ x2 ++ x3 ++ BitVec.ofBool x4 : BitVec 20) (x5) (by decide)).trans ((hiPart (v := 19) (w := 1) (lo := 8) (n := 6) (x0 ++ x1 ++ x2 ++ x3 : BitVec 19) (BitVec.ofBool x4) (by decide)).trans ((hiPart (v := 18) (w := 1) (lo := 7) (n := 6) (x0 ++ x1 ++ x2 : BitVec 18) (x3) (by decide)).trans ((hiPart (v := 12) (w := 6) (lo := 6) (n := 6) (x0 ++ x1 : BitVec 12) (x2) (by decide)).trans ((loPart (v := 6) (w := 6) (lo := 0) (n := 6) (x0 : BitVec 6) (x1) (by decide)).trans ((whole (x1)))))))))

theorem f19_19_6 (e : Bool) (op : BitVec 6) (x0 : BitVec 6) (x1 : BitVec 6) (x2 : BitVec 6) (x3 : BitVec 1) (x4 : Bool) (x5 : BitVec 2) (x6 : BitVec 3) :
    fld (wordOf e op (x0 ++ x1 ++ x2 ++ x3 ++ BitVec.ofBool x4 ++ x5 ++ x6)) 19 6 = x0 :=
  (fld_body e op (x0 ++ x1 ++ x2 ++ x3 ++ BitVec.ofBool x4 ++ x5 ++ x6) 19 6 (by decide)).trans ((hiPart (v := 22) (w := 3) (lo := 19) (n := 6) (x0 ++ x1 ++ x2 ++ x3 ++ BitVec.ofBool x4 ++ x5 : BitVec 22) (x6) (by decide)).trans ((hiPart (v := 20) (w := 2) (lo := 16) (n := 6) (x0 ++ x1 ++ x2 ++ x3 ++ BitVec.ofBool x4 : BitVec 20) (x5) (by decide)).trans ((hiPart (v := 19) (w := 1) (lo := 14) (n := 6) (x0 ++ x1 ++ x2 ++ x3 : BitVec 19) (BitVec.ofBool x4) (by decide)).trans ((hiPart (v := 18) (w := 1) (lo := 13) (n := 6) (x0 ++ x1 ++ x2 : BitVec 18) (x3) (by decide)).trans ((hiPart (v := 12) (w := 6) (lo := 12) (n := 6) (x0 ++ x1 : BitVec 12) (x2) (by decide)).trans ((hiPart (v := 6) (w := 6) (lo := 6) (n := 6) (x0 : BitVec 6) (x1) (by decide)).trans ((whole (x0)))))))))

theorem f20_0_4 (e : Bool) (op : BitVec 6) (x0 : BitVec 6) (x1 : BitVec 6) (x2 : BitVec 6) (x3 : BitVec 1) (x4 : BitVec 2) (x5 : BitVec 4) :
    fld (wordOf e op (x0 ++ x1 ++ x2 ++ x3 ++ x4 ++ x5)) 0 4 = x5 :=
  (fld_body e op (x0 ++ x1 ++ x2 ++ x3 ++ x4 ++ x5) 0 4 (by decide)).trans ((loPart (v := 21) (w := 4) (lo := 0) (n := 4) (x0 ++ x1 ++ x2 ++ x3 ++ x4 : BitVec 21) (x5) (by decide)).trans ((whole (x5))))

theorem f20_4_2 (e : Bool) (op : BitVec 6) (x0 : BitVec 6) (x1 : BitVec 6) (x2 : BitVec 6) (x3 : BitVec 1) (x4 : BitVec 2) (x5 : BitVec 4) :
    fld (wordOf e op (x0 ++ x1 ++ x2 ++ x3 ++ x4 ++ x5)) 4 2 = x4 :=
  (fld_body e op (x0 ++ x1 ++ x2 ++ x3 ++ x4 ++ x5) 4 2 (by decide)).trans ((hiPart (v := 21) (w := 4) (lo := 4) (n := 2) (x0 ++ x1 ++ x2 ++ x3 ++ x4 : BitVec 21) (x5) (by decide)).trans ((loPart (v := 19) (w := 2) (lo := 0) (n := 2) (x0 ++ x1 ++ x2 ++ x3 : BitVec 19) (x4) (by decide)).trans ((whole (x4)))))

theorem f20_6_1 (e : Bool) (op : BitVec 6) (x0 : BitVec 6) (x1 : BitVec 6) (x2 : BitVec 6) (x3 : BitVec 1) (x4 : BitVec 2) (x5 : BitVec 4) :
    fld (wordOf e op (x0 ++ x1 ++ x2 ++ x3 ++ x4 ++ x5)) 6 1 = x3 :=
  (fld_body e op (x0 ++ x1 ++ x2 ++ x3 ++ x4 ++ x5) 6 1 (by decide)).trans ((hiPart (v := 21) (w := 4) (lo := 6) (n := 1) (x0 ++ x1 ++ x2 ++ x3 ++ x4 : BitVec 21) (x5) (by decide)).trans ((hiPart (v := 19) (w := 2) (lo := 2) (n := 1) (x0 ++ x1 ++ x2 ++ x3 : BitVec 19) (x4) (by decide)).trans ((loPart (v := 18) (w := 1) (lo := 0) (n := 1) (x0 ++ x1 ++ x2 : BitVec 18) (x3) (by decide)).trans ((whole (x3))))))

theorem f20_7_6 (e : Bool) (op : BitVec 6) (x0 : BitVec 6) (x1 : BitVec 6) (x2 : BitVec 6) (x3 : BitVec 1) (x4 : BitVec 2) (x5 : BitVec 4) :
    fld (wordOf e op (x0 ++ x1 ++ x2 ++ x3 ++ x4 ++ x5)) 7 6 = x2 :=
  (fld_body e op (x0 ++ x1 ++ x2 ++ x3 ++ x4 ++ x5) 7 6 (by decide)).trans ((hiPart (v := 21) (w := 4) (lo := 7) (n := 6) (x0 ++ x1 ++ x2 ++ x3 ++ x4 : BitVec 21) (x5) (by decide)).trans ((hiPart (v := 19) (w := 2) (lo := 3) (n := 6) (x0 ++ x1 ++ x2 ++ x3 : BitVec 19) (x4) (by decide)).trans ((hiPart (v := 18) (w := 1) (lo := 1) (n := 6) (x0 ++ x1 ++ x2 : BitVec 18) (x3) (by decide)).trans ((loPart (v := 12) (w := 6) (lo := 0) (n := 6) (x0 ++ x1 : BitVec 12) (x2) (by decide)).trans ((whole (x2)))))))

theorem f20_13_6 (e : Bool) (op : BitVec 6) (x0 : BitVec 6) (x1 : BitVec 6) (x2 : BitVec 6) (x3 : BitVec 1) (x4 : BitVec 2) (x5 : BitVec 4) :
    fld (wordOf e op (x0 ++ x1 ++ x2 ++ x3 ++ x4 ++ x5)) 13 6 = x1 :=
  (fld_body e op (x0 ++ x1 ++ x2 ++ x3 ++ x4 ++ x5) 13 6 (by decide)).trans ((hiPart (v := 21) (w := 4) (lo := 13) (n := 6) (x0 ++ x1 ++ x2 ++ x3 ++ x4 : BitVec 21) (x5) (by decide)).trans ((hiPart (v := 19) (w := 2) (lo := 9) (n := 6) (x0 ++ x1 ++ x2 ++ x3 : BitVec 19) (x4) (by decide)).trans ((hiPart (v := 18) (w := 1) (lo := 7) (n := 6) (x0 ++ x1 ++ x2 : BitVec 18) (x3) (by decide)).trans ((hiPart (v := 12) (w := 6) (lo := 6) (n := 6) (x0 ++ x1 : BitVec 12) (x2) (by decide)).trans ((loPart (v := 6) (w := 6) (lo := 0) (n := 6) (x0 : BitVec 6) (x1) (by decide)).trans ((whole (x1))))))))

theorem f20_19_6 (e : Bool) (op : BitVec 6) (x0 : BitVec 6) (x1 : BitVec 6) (x2 : BitVec 6) (x3 : BitVec 1) (x4 : BitVec 2) (x5 : BitVec 4) :
    fld (wordOf e op (x0 ++ x1 ++ x2 ++ x3 ++ x4 ++ x5)) 19 6 = x0 :=
  (fld_body e op (x0 ++ x1 ++ x2 ++ x3 ++ x4 ++ x5) 19 6 (by decide)).trans ((hiPart (v := 21) (w := 4) (lo := 19) (n := 6) (x0 ++ x1 ++ x2 ++ x3 ++ x4 : BitVec 21) (x5) (by decide)).trans ((hiPart (v := 19) (w := 2) (lo := 15) (n := 6) (x0 ++ x1 ++ x2 ++ x3 : BitVec 19) (x4) (by decide)).trans ((hiPart (v := 18) (w := 1) (lo := 13) (n := 6) (x0 ++ x1 ++ x2 : BitVec 18) (x3) (by decide)).trans ((hiPart (v := 12) (w := 6) (lo := 12) (n := 6) (x0 ++ x1 : BitVec 12) (x2) (by decide)).trans ((hiPart (v := 6) (w := 6) (lo := 6) (n := 6) (x0 : BitVec 6) (x1) (by decide)).trans ((whole (x0))))))))

theorem f21_0_4 (e : Bool) (op : BitVec 6) (x0 : BitVec 6) (x1 : BitVec 6) (x2 : BitVec 6) (x3 : BitVec 3) (x4 : BitVec 4) :
    fld (wordOf e op (x0 ++ x1 ++ x2 ++ x3 ++ x4)) 0 4 = x4 :=
  (fld_body e op (x0 ++ x1 ++ x2 ++ x3 ++ x4) 0 4 (by decide)).trans ((loPart (v := 21) (w := 4) (lo := 0) (n := 4) (x0 ++ x1 ++ x2 ++ x3 : BitVec 21) (x4) (by decide)).trans ((whole (x4))))

theorem f21_4_3 (e : Bool) (op : BitVec 6) (x0 : BitVec 6) (x1 : BitVec 6) (x2 : BitVec 6) (x3 : BitVec 3) (x4 : BitVec 4) :
    fld (wordOf e op (x0 ++ x1 ++ x2 ++ x3 ++ x4)) 4 3 = x3 :=
  (fld_body e op (x0 ++ x1 ++ x2 ++ x3 ++ x4) 4 3 (by decide)).trans ((hiPart (v := 21) (w := 4) (lo := 4) (n := 3) (x0 ++ x1 ++ x2 ++ x3 : BitVec 21) (x4) (by decide)).trans ((loPart (v := 18) (w := 3) (lo := 0) (n := 3) (x0 ++ x1 ++ x2 : BitVec 18) (x3) (by decide)).trans ((whole (x3)))))

theorem f21_7_6 (e : Bool) (op : BitVec 6) (x0 : BitVec 6) (x1 : BitVec 6) (x2 : BitVec 6) (x3 : BitVec 3) (x4 : BitVec 4) :
    fld (wordOf e op (x0 ++ x1 ++ x2 ++ x3 ++ x4)) 7 6 = x2 :=
  (fld_body e op (x0 ++ x1 ++ x2 ++ x3 ++ x4) 7 6 (by decide)).trans ((hiPart (v := 21) (w := 4) (lo := 7) (n := 6) (x0 ++ x1 ++ x2 ++ x3 : BitVec 21) (x4) (by decide)).trans ((hiPart (v := 18) (w := 3) (lo := 3) (n := 6) (x0 ++ x1 ++ x2 : BitVec 18) (x3) (by decide)).trans ((loPart (v := 12) (w := 6) (lo := 0) (n := 6) (x0 ++ x1 : BitVec 12) (x2) (by decide)).trans ((whole (x2))))))

theorem f21_13_6 (e : Bool) (op : BitVec 6) (x0 : BitVec 6) (x1 : BitVec 6) (x2 : BitVec 6) (x3 : BitVec 3) (x4 : BitVec 4) :
    fld (wordOf e op (x0 ++ x1 ++ x2 ++ x3 ++ x4)) 13 6 = x1 :=
  (fld_body e op (x0 ++ x1 ++ x2 ++ x3 ++ x4) 13 6 (by decide)).trans ((hiPart (v := 21) (w := 4) (lo := 13) (n := 6) (x0 ++ x1 ++ x2 ++ x3 : BitVec 21) (x4) (by decide)).trans ((hiPart (v := 18) (w := 3) (lo := 9) (n := 6) (x0 ++ x1 ++ x2 : BitVec 18) (x3) (by decide)).trans ((hiPart (v := 12) (w := 6) (lo := 6) (n := 6) (x0 ++ x1 : BitVec 12) (x2) (by decide)).trans ((loPart (v := 6) (w := 6) (lo := 0) (n := 6) (x0 : BitVec 6) (x1) (by decide)).trans ((whole (x1)))))))

theorem f21_19_6 (e : Bool) (op : BitVec 6) (x0 : BitVec 6) (x1 : BitVec 6) (x2 : BitVec 6) (x3 : BitVec 3) (x4 : BitVec 4) :
    fld (wordOf e op (x0 ++ x1 ++ x2 ++ x3 ++ x4)) 19 6 = x0 :=
  (fld_body e op (x0 ++ x1 ++ x2 ++ x3 ++ x4) 19 6 (by decide)).trans ((hiPart (v := 21) (w := 4) (lo := 19) (n := 6) (x0 ++ x1 ++ x2 ++ x3 : BitVec 21) (x4) (by decide)).trans ((hiPart (v := 18) (w := 3) (lo := 15) (n := 6) (x0 ++ x1 ++ x2 : BitVec 18) (x3) (by decide)).trans ((hiPart (v := 12) (w := 6) (lo := 12) (n := 6) (x0 ++ x1 : BitVec 12) (x2) (by decide)).trans ((hiPart (v := 6) (w := 6) (lo := 6) (n := 6) (x0 : BitVec 6) (x1) (by decide)).trans ((whole (x0)))))))

theorem f22_0_4 (e : Bool) (op : BitVec 6) (x0 : BitVec 6) (x1 : BitVec 6) (x2 : BitVec 9) (x3 : BitVec 4) :
    fld (wordOf e op (x0 ++ x1 ++ x2 ++ x3)) 0 4 = x3 :=
  (fld_body e op (x0 ++ x1 ++ x2 ++ x3) 0 4 (by decide)).trans ((loPart (v := 21) (w := 4) (lo := 0) (n := 4) (x0 ++ x1 ++ x2 : BitVec 21) (x3) (by decide)).trans ((whole (x3))))

theorem f22_4_3 (e : Bool) (op : BitVec 6) (x0 : BitVec 6) (x1 : BitVec 6) (x2 : BitVec 9) (x3 : BitVec 4) :
    fld (wordOf e op (x0 ++ x1 ++ x2 ++ x3)) 4 3 = (x2).extractLsb' 0 3 :=
  (fld_body e op (x0 ++ x1 ++ x2 ++ x3) 4 3 (by decide)).trans ((hiPart (v := 21) (w := 4) (lo := 4) (n := 3) (x0 ++ x1 ++ x2 : BitVec 21) (x3) (by decide)).trans ((loPart (v := 12) (w := 9) (lo := 0) (n := 3) (x0 ++ x1 : BitVec 12) (x2) (by decide))))

theorem f22_13_6 (e : Bool) (op : BitVec 6) (x0 : BitVec 6) (x1 : BitVec 6) (x2 : BitVec 9) (x3 : BitVec 4) :
    fld (wordOf e op (x0 ++ x1 ++ x2 ++ x3)) 13 6 = x1 :=
  (fld_body e op (x0 ++ x1 ++ x2 ++ x3) 13 6 (by decide)).trans ((hiPart (v := 21) (w := 4) (lo := 13) (n := 6) (x0 ++ x1 ++ x2 : BitVec 21) (x3) (by decide)).trans ((hiPart (v := 12) (w := 9) (lo := 9) (n := 6) (x0 ++ x1 : BitVec 12) (x2) (by decide)).trans ((loPart (v := 6) (w := 6) (lo := 0) (n := 6) (x0 : BitVec 6) (x1) (by decide)).trans ((whole (x1))))))

theorem f22_19_6 (e : Bool) (op : BitVec 6) (x0 : BitVec 6) (x1 : BitVec 6) (x2 : BitVec 9) (x3 : BitVec 4) :
    fld (wordOf e op (x0 ++ x1 ++ x2 ++ x3)) 19 6 = x0 :=
  (fld_body e op (x0 ++ x1 ++ x2 ++ x3) 19 6 (by decide)).trans ((hiPart (v := 21) (w := 4) (lo := 19) (n := 6) (x0 ++ x1 ++ x2 : BitVec 21) (x3) (by decide)).trans ((hiPart (v := 12) (w := 9) (lo := 15) (n := 6) (x0 ++ x1 : BitVec 12) (x2) (by decide)).trans ((hiPart (v := 6) (w := 6) (lo := 6) (n := 6) (x0 : BitVec 6) (x1) (by decide)).trans ((whole (x0))))))

theorem f23_0_3 (e : Bool) (op : BitVec 6) (x0 : BitVec 20) (x1 : BitVec 2) (x2 : BitVec 3) :
    fld (wordOf e op (x0 ++ x1 ++ x2)) 0 3 = x2 :=
  (fld_body e op (x0 ++ x1 ++ x2) 0 3 (by decide)).trans ((loPart (v := 22) (w := 3) (lo := 0) (n := 3) (x0 ++ x1 : BitVec 22) (x2) (by decide)).trans ((whole (x2))))

theorem f23_3_2 (e : Bool) (op : BitVec 6) (x0 : BitVec 20) (x1 : BitVec 2) (x2 : BitVec 3) :
    fld (wordOf e op (x0 ++ x1 ++ x2)) 3 2 = x1 :=
  (fld_body e op (x0 ++ x1 ++ x2) 3 2 (by decide)).trans ((hiPart (v := 22) (w := 3) (lo := 3) (n := 2) (x0 ++ x1 : BitVec 22) (x2) (by decide)).trans ((loPart (v := 20) (w := 2) (lo := 0) (n := 2) (x0 : BitVec 20) (x1) (by decide)).trans ((whole (x1)))))

theorem f23_5_2 (e : Bool) (op : BitVec 6) (x0 : BitVec 20) (x1 : BitVec 2) (x2 : BitVec 3) :
    fld (wordOf e op (x0 ++ x1 ++ x2)) 5 2 = (x0).extractLsb' 0 2 :=
  (fld_body e op (x0 ++ x1 ++ x2) 5 2 (by decide)).trans ((hiPart (v := 22) (w := 3) (lo := 5) (n := 2) (x0 ++ x1 : BitVec 22) (x2) (by decide)).trans ((hiPart (v := 20) (w := 2) (lo := 2) (n := 2) (x0 : BitVec 20) (x1) (by decide))))

theorem f24_0_7 (e : Bool) (op : BitVec 6) (x0 : BitVec 25) :
    fld (wordOf e op (x0)) 0 7 = (x0).extractLsb' 0 7 :=
  (fld_body e op (x0) 0 7 (by decide))

theorem f24_5_2 (e : Bool) (op : BitVec 6) (x0 : BitVec 25) :
    fld (wordOf e op (x0)) 5 2 = (x0).extractLsb' 5 2 :=
  (fld_body e op (x0) 5 2 (by decide))

theorem f24_19_6 (e : Bool) (op : BitVec 6) (x0 : BitVec 25) :
    fld (wordOf e op (x0)) 19 6 = (x0).extractLsb' 19 6 :=
  (fld_body e op (x0) 19 6 (by decide))

theorem f25_0_7 (e : Bool) (op : BitVec 6) (x0 : BitVec 6) (x1 : BitVec 6) (x2 : BitVec 6) (x3 : BitVec 7) :
    fld (wordOf e op (x0 ++ x1 ++ x2 ++ x3)) 0 7 = x3 :=
  (fld_body e op (x0 ++ x1 ++ x2 ++ x3) 0 7 (by decide)).trans ((loPart (v := 18) (w := 7) (lo := 0) (n := 7) (x0 ++ x1 ++ x2 : BitVec 18) (x3) (by decide)).trans ((whole (x3))))

theorem f25_5_2 (e : Bool) (op : BitVec 6) (x0 : BitVec 6) (x1 : BitVec 6) (x2 : BitVec 6) (x3 : BitVec 7) :
    fld (wordOf e op (x0 ++ x1 ++ x2 ++ x3)) 5 2 = (x3).extractLsb' 5 2 :=
  (fld_body e op (x0 ++ x1 ++ x2 ++ x3) 5 2 (by decide)).trans ((loPart (v := 18) (w := 7) (lo := 5) (n := 2) (x0 ++ x1 ++ x2 : BitVec 18) (x3) (by decide)))

theorem f25_7_6 (e : Bool) (op : BitVec 6) (x0 : BitVec 6) (x1 : BitVec 6) (x2 : BitVec 6) (x3 : BitVec 7) :
    fld (wordOf e op (x0 ++ x1 ++ x2 ++ x3)) 7 6 = x2 :=
  (fld_body e op (x0 ++ x1 ++ x2 ++ x3) 7 6 (by decide)).trans ((hiPart (v := 18) (w := 7) (lo := 7) (n := 6) (x0 ++ x1 ++ x2 : BitVec 18) (x3) (by decide)).trans ((loPart (v := 12) (w := 6) (lo := 0) (n := 6) (x0 ++ x1 : BitVec 12) (x2) (by decide)).trans ((whole (x2)))))

theorem f25_13_6 (e : Bool) (op : BitVec 6) (x0 : BitVec 6) (x1 : BitVec 6) (x2 : BitVec 6) (x3 : BitVec 7) :
    fld (wordOf e op (x0 ++ x1 ++ x2 ++ x3)) 13 6 = x1 :=
  (fld_body e op (x0 ++ x1 ++ x2 ++ x3) 13 6 (by decide)).trans ((hiPart (v := 18) (w := 7) (lo := 13) (n := 6) (x0 ++ x1 ++ x2 : BitVec 18) (x3) (by decide)).trans ((hiPart (v := 12) (w := 6) (lo := 6) (n := 6) (x0 ++ x1 : BitVec 12) (x2) (by decide)).trans ((loPart (v := 6) (w := 6) (lo := 0) (n := 6) (x0 : BitVec 6) (x1) (by decide)).trans ((whole (x1))))))

theorem f25_19_6 (e : Bool) (op : BitVec 6) (x0 : BitVec 6) (x1 : BitVec 6) (x2 : BitVec 6) (x3 : BitVec 7) :
    fld (wordOf e op (x0 ++ x1 ++ x2 ++ x3)) 19 6 = x0 :=
  (fld_body e op (x0 ++ x1 ++ x2 ++ x3) 19 6 (by decide)).trans ((hiPart (v := 18) (w := 7) (lo := 19) (n := 6) (x0 ++ x1 ++ x2 : BitVec 18) (x3) (by decide)).trans ((hiPart (v := 12) (w := 6) (lo := 12) (n := 6) (x0 ++ x1 : BitVec 12) (x2) (by decide)).trans ((hiPart (v := 6) (w := 6) (lo := 6) (n := 6) (x0 : BitVec 6) (x1) (by decide)).trans ((whole (x0))))))

theorem f26_0_7 (e : Bool) (op : BitVec 6) (x0 : BitVec 6) (x1 : BitVec 6) (x2 : BitVec 13) :
    fld (wordOf e op (x0 ++ x1 ++ x2)) 0 7 = (x2).extractLsb' 0 7 :=
  (fld_body e op (x0 ++ x1 ++ x2) 0 7 (by decide)).trans ((loPart (v := 12) (w := 13) (lo := 0) (n := 7) (x0 ++ x1 : BitVec 12) (x2) (by decide)))

theorem f26_13_6 (e : Bool) (op : BitVec 6) (x0 : BitVec 6) (x1 : BitVec 6) (x2 : BitVec 13) :
    fld (wordOf e op (x0 ++ x1 ++ x2)) 13 6 = x1 :=
  (fld_body e op (x0 ++ x1 ++ x2) 13 6 (by decide)).trans ((hiPart (v := 12) (w := 13) (lo := 13) (n := 6) (x0 ++ x1 : BitVec 12) (x2) (by decide)).trans ((loPart (v := 6) (w := 6) (lo := 0) (n := 6) (x0 : BitVec 6) (x1) (by decide)).trans ((whole (x1)))))

theorem f27_0_7 (e : Bool) (op : BitVec 6) (x0 : BitVec 2) (x1 : BitVec 2) (x2 : BitVec 2) (x3 : BitVec 6) (x4 : BitVec 13) :
    fld (wordOf e op (x0 ++ x1 ++ x2 ++ x3 ++ x4)) 0 7 = (x4).extractLsb' 0 7 :=
  (fld_body e op (x0 ++ x1 ++ x2 ++ x3 ++ x4) 0 7 (by decide)).trans ((loPart (v := 12) (w := 13) (lo := 0) (n := 7) (x0 ++ x1 ++ x2 ++ x3 : BitVec 12) (x4) (by decide)))

theorem f27_13_6 (e : Bool) (op : BitVec 6) (x0 : BitVec 2) (x1 : BitVec 2) (x2 : BitVec 2) (x3 : BitVec 6) (x4 : BitVec 13) :
    fld (wordOf e op (x0 ++ x1 ++ x2 ++ x3 ++ x4)) 13 6 = x3 :=
  (fld_body e op (x0 ++ x1 ++ x2 ++ x3 ++ x4) 13 6 (by decide)).trans ((hiPart (v := 12) (w := 13) (lo := 13) (n := 6) (x0 ++ x1 ++ x2 ++ x3 : BitVec 12) (x4) (by decide)).trans ((loPart (v := 6) (w := 6) (lo := 0) (n := 6) (x0 ++ x1 ++ x2 : BitVec 6) (x3) (by decide)).trans ((whole (x3)))))

theorem f27_19_2 (e : Bool) (op : BitVec 6) (x0 : BitVec 2) (x1 : BitVec 2) (x2 : BitVec 2) (x3 : BitVec 6) (x4 : BitVec 13) :
    fld (wordOf e op (x0 ++ x1 ++ x2 ++ x3 ++ x4)) 19 2 = x2 :=
  (fld_body e op (x0 ++ x1 ++ x2 ++ x3 ++ x4) 19 2 (by decide)).trans ((hiPart (v := 12) (w := 13) (lo := 19) (n := 2) (x0 ++ x1 ++ x2 ++ x3 : BitVec 12) (x4) (by decide)).trans ((hiPart (v := 6) (w := 6) (lo := 6) (n := 2) (x0 ++ x1 ++ x2 : BitVec 6) (x3) (by decide)).trans ((loPart (v := 4) (w := 2) (lo := 0) (n := 2) (x0 ++ x1 : BitVec 4) (x2) (by decide)).trans ((whole (x2))))))

theorem f27_21_2 (e : Bool) (op : BitVec 6) (x0 : BitVec 2) (x1 : BitVec 2) (x2 : BitVec 2) (x3 : BitVec 6) (x4 : BitVec 13) :
    fld (wordOf e op (x0 ++ x1 ++ x2 ++ x3 ++ x4)) 21 2 = x1 :=
  (fld_body e op (x0 ++ x1 ++ x2 ++ x3 ++ x4) 21 2 (by decide)).trans ((hiPart (v := 12) (w := 13) (lo := 21) (n := 2) (x0 ++ x1 ++ x2 ++ x3 : BitVec 12) (x4) (by decide)).trans ((hiPart (v := 6) (w := 6) (lo := 8) (n := 2) (x0 ++ x1 ++ x2 : BitVec 6) (x3) (by decide)).trans ((hiPart (v := 4) (w := 2) (lo := 2) (n := 2) (x0 ++ x1 : BitVec 4) (x2) (by decide)).trans ((loPart (v := 2) (w := 2) (lo := 0) (n := 2) (x0 : BitVec 2) (x1) (by decide)).trans ((whole (x1)))))))

theorem f27_23_2 (e : Bool) (op : BitVec 6) (x0 : BitVec 2) (x1 : BitVec 2) (x2 : BitVec 2) (x3 : BitVec 6) (x4 : BitVec 13) :
    fld (wordOf e op (x0 ++ x1 ++ x2 ++ x3 ++ x4)) 23 2 = x0 :=
  (fld_body e op (x0 ++ x1 ++ x2 ++ x3 ++ x4) 23 2 (by decide)).trans ((hiPart (v := 12) (w := 13) (lo := 23) (n := 2) (x0 ++ x1 ++ x2 ++ x3 : BitVec 12) (x4) (by decide)).trans ((hiPart (v := 6) (w := 6) (lo := 10) (n := 2) (x0 ++ x1 ++ x2 : BitVec 6) (x3) (by decide)).trans ((hiPart (v := 4) (w := 2) (lo := 4) (n := 2) (x0 ++ x1 : BitVec 4) (x2) (by decide)).trans ((hiPart (v := 2) (w := 2) (lo := 2) (n := 2) (x0 : BitVec 2) (x1) (by decide)).trans ((whole (x0)))))))

theorem f28_0_7 (e : Bool) (op : BitVec 6) (x0 : BitVec 4) (x1 : BitVec 2) (x2 : BitVec 6) (x3 : BitVec 6) (x4 : BitVec 7) :
    fld (wordOf e op (x0 ++ x1 ++ x2 ++ x3 ++ x4)) 0 7 = x4 :=
  (fld_body e op (x0 ++ x1 ++ x2 ++ x3 ++ x4) 0 7 (by decide)).trans ((loPart (v := 18) (w := 7) (lo := 0) (n := 7) (x0 ++ x1 ++ x2 ++ x3 : BitVec 18) (x4) (by decide)).trans ((whole (x4))))

theorem f28_7_6 (e : Bool) (op : BitVec 6) (x0 : BitVec 4) (x1 : BitVec 2) (x2 : BitVec 6) (x3 : BitVec 6) (x4 : BitVec 7) :
    fld (wordOf e op (x0 ++ x1 ++ x2 ++ x3 ++ x4)) 7 6 = x3 :=
  (fld_body e op (x0 ++ x1 ++ x2 ++ x3 ++ x4) 7 6 (by decide)).trans ((hiPart (v := 18) (w := 7) (lo := 7) (n := 6) (x0 ++ x1 ++ x2 ++ x3 : BitVec 18) (x4) (by decide)).trans ((loPart (v := 12) (w := 6) (lo := 0) (n := 6) (x0 ++ x1 ++ x2 : BitVec 12) (x3) (by decide)).trans ((whole (x3)))))

theorem f28_13_6 (e : Bool) (op : BitVec 6) (x0 : BitVec 4) (x1 : BitVec 2) (x2 : BitVec 6) (x3 : BitVec 6) (x4 : BitVec 7) :
    fld (wordOf e op (x0 ++ x1 ++ x2 ++ x3 ++ x4)) 13 6 = x2 :=
  (fld_body e op (x0 ++ x1 ++ x2 ++ x3 ++ x4) 13 6 (by decide)).trans ((hiPart (v := 18) (w := 7) (lo := 13) (n := 6) (x0 ++ x1 ++ x2 ++ x3 : BitVec 18) (x4) (by decide)).trans ((hiPart (v := 12) (w := 6) (lo := 6) (n := 6) (x0 ++ x1 ++ x2 : BitVec 12) (x3) (by decide)).trans ((loPart (v := 6) (w := 6) (lo := 0) (n := 6) (x0 ++ x1 : BitVec 6) (x2) (by decide)).trans ((whole (x2))))))

theorem f28_19_2 (e : Bool) (op : BitVec 6) (x0 : BitVec 4) (x1 : BitVec 2) (x2 : BitVec 6) (x3 : BitVec 6) (x4 : BitVec 7) :
    fld (wordOf e op (x0 ++ x1 ++ x2 ++ x3 ++ x4)) 19 2 = x1 :=
  (fld_body e op (x0 ++ x1 ++ x2 ++ x3 ++ x4) 19 2 (by decide)).trans ((hiPart (v := 18) (w := 7) (lo := 19) (n := 2) (x0 ++ x1 ++ x2 ++ x3 : BitVec 18) (x4) (by decide)).trans ((hiPart (v := 12) (w := 6) (lo := 12) (n := 2) (x0 ++ x1 ++ x2 : BitVec 12) (x3) (by decide)).trans ((hiPart (v := 6) (w := 6) (lo := 6) (n := 2) (x0 ++ x1 : BitVec 6) (x2) (by decide)).trans ((loPart (v := 4) (w := 2) (lo := 0) (n := 2) (x0 : BitVec 4) (x1) (by decide)).trans ((whole (x1)))))))

theorem f29_0_7 (e : Bool) (op : BitVec 6) (x0 : BitVec 2) (x1 : BitVec 2) (x2 : BitVec 2) (x3 : BitVec 6) (x4 : BitVec 6) (x5 : BitVec 7) :
    fld (wordOf e op (x0 ++ x1 ++ x2 ++ x3 ++ x4 ++ x5)) 0 7 = x5 :=
  (fld_body e op (x0 ++ x1 ++ x2 ++ x3 ++ x4 ++ x5) 0 7 (by decide)).trans ((loPart (v := 18) (w := 7) (lo := 0) (n := 7) (x0 ++ x1 ++ x2 ++ x3 ++ x4 : BitVec 18) (x5) (by decide)).trans ((whole (x5))))

theorem f29_7_6 (e : Bool) (op : BitVec 6) (x0 : BitVec 2) (x1 : BitVec 2) (x2 : BitVec 2) (x3 : BitVec 6) (x4 : BitVec 6) (x5 : BitVec 7) :
    fld (wordOf e op (x0 ++ x1 ++ x2 ++ x3 ++ x4 ++ x5)) 7 6 = x4 :=
  (fld_body e op (x0 ++ x1 ++ x2 ++ x3 ++ x4 ++ x5) 7 6 (by decide)).trans ((hiPart (v := 18) (w := 7) (lo := 7) (n := 6) (x0 ++ x1 ++ x2 ++ x3 ++ x4 : BitVec 18) (x5) (by decide)).trans ((loPart (v := 12) (w := 6) (lo := 0) (n := 6) (x0 ++ x1 ++ x2 ++ x3 : BitVec 12) (x4) (by decide)).trans ((whole (x4)))))

theorem f29_13_6 (e : Bool) (op : BitVec 6) (x0 : BitVec 2) (x1 : BitVec 2) (x2 : BitVec 2) (x3 : BitVec 6) (x4 : BitVec 6) (x5 : BitVec 7) :
    fld (wordOf e op (x0 ++ x1 ++ x2 ++ x3 ++ x4 ++ x5)) 13 6 = x3 :=
  (fld_body e op (x0 ++ x1 ++ x2 ++ x3 ++ x4 ++ x5) 13 6 (by decide)).trans ((hiPart (v := 18) (w := 7) (lo := 13) (n := 6) (x0 ++ x1 ++ x2 ++ x3 ++ x4 : BitVec 18) (x5) (by decide)).trans ((hiPart (v := 12) (w := 6) (lo := 6) (n := 6) (x0 ++ x1 ++ x2 ++ x3 : BitVec 12) (x4) (by decide)).trans ((loPart (v := 6) (w := 6) (lo := 0) (n := 6) (x0 ++ x1 ++ x2 : BitVec 6) (x3) (by decide)).trans ((whole (x3))))))

theorem f29_19_2 (e : Bool) (op : BitVec 6) (x0 : BitVec 2) (x1 : BitVec 2) (x2 : BitVec 2) (x3 : BitVec 6) (x4 : BitVec 6) (x5 : BitVec 7) :
    fld (wordOf e op (x0 ++ x1 ++ x2 ++ x3 ++ x4 ++ x5)) 19 2 = x2 :=
  (fld_body e op (x0 ++ x1 ++ x2 ++ x3 ++ x4 ++ x5) 19 2 (by decide)).trans ((hiPart (v := 18) (w := 7) (lo := 19) (n := 2) (x0 ++ x1 ++ x2 ++ x3 ++ x4 : BitVec 18) (x5) (by decide)).trans ((hiPart (v := 12) (w := 6) (lo := 12) (n := 2) (x0 ++ x1 ++ x2 ++ x3 : BitVec 12) (x4) (by decide)).trans ((hiPart (v := 6) (w := 6) (lo := 6) (n := 2) (x0 ++ x1 ++ x2 : BitVec 6) (x3) (by decide)).trans ((loPart (v := 4) (w := 2) (lo := 0) (n := 2) (x0 ++ x1 : BitVec 4) (x2) (by decide)).trans ((whole (x2)))))))

theorem f29_21_2 (e : Bool) (op : BitVec 6) (x0 : BitVec 2) (x1 : BitVec 2) (x2 : BitVec 2) (x3 : BitVec 6) (x4 : BitVec 6) (x5 : BitVec 7) :
    fld (wordOf e op (x0 ++ x1 ++ x2 ++ x3 ++ x4 ++ x5)) 21 2 = x1 :=
  (fld_body e op (x0 ++ x1 ++ x2 ++ x3 ++ x4 ++ x5) 21 2 (by decide)).trans ((hiPart (v := 18) (w := 7) (lo := 21) (n := 2) (x0 ++ x1 ++ x2 ++ x3 ++ x4 : BitVec 18) (x5) (by decide)).trans ((hiPart (v := 12) (w := 6) (lo := 14) (n := 2) (x0 ++ x1 ++ x2 ++ x3 : BitVec 12) (x4) (by decide)).trans ((hiPart (v := 6) (w := 6) (lo := 8) (n := 2) (x0 ++ x1 ++ x2 : BitVec 6) (x3) (by decide)).trans ((hiPart (v := 4) (w := 2) (lo := 2) (n := 2) (x0 ++ x1 : BitVec 4) (x2) (by decide)).trans ((loPart (v := 2) (w := 2) (lo := 0) (n := 2) (x0 : BitVec 2) (x1) (by decide)).trans ((whole (x1))))))))

theorem f29_23_2 (e : Bool) (op : BitVec 6) (x0 : BitVec 2) (x1 : BitVec 2) (x2 : BitVec 2) (x3 : BitVec 6) (x4 : BitVec 6) (x5 : BitVec 7) :
    fld (wordOf e op (x0 ++ x1 ++ x2 ++ x3 ++ x4 ++ x5)) 23 2 = x0 :=
  (fld_body e op (x0 ++ x1 ++ x2 ++ x3 ++ x4 ++ x5) 23 2 (by decide)).trans ((hiPart (v := 18) (w := 7) (lo := 23) (n := 2) (x0 ++ x1 ++ x2 ++ x3 ++ x4 : BitVec 18) (x5) (by decide)).trans ((hiPart (v := 12) (w := 6) (lo := 16) (n := 2) (x0 ++ x1 ++ x2 ++ x3 : BitVec 12) (x4) (by decide)).trans ((hiPart (v := 6) (w := 6) (lo := 10) (n := 2) (x0 ++ x1 ++ x2 : BitVec 6) (x3) (by decide)).trans ((hiPart (v := 4) (w := 2) (lo := 4) (n := 2) (x0 ++ x1 : BitVec 4) (x2) (by decide)).trans ((hiPart (v := 2) (w := 2) (lo := 2) (n := 2) (x0 : BitVec 2) (x1) (by decide)).trans ((whole (x0))))))))

theorem f30_0_7 (e : Bool) (op : BitVec 6) (x0 : BitVec 6) (x1 : BitVec 6) (x2 : BitVec 4) (x3 : BitVec 2) (x4 : BitVec 7) :
    fld (wordOf e op (x0 ++ x1 ++ x2 ++ x3 ++ x4)) 0 7 = x4 :=
  (fld_body e op (x0 ++ x1 ++ x2 ++ x3 ++ x4) 0 7 (by decide)).trans ((loPart (v := 18) (w := 7) (lo := 0) (n := 7) (x0 ++ x1 ++ x2 ++ x3 : BitVec 18) (x4) (by decide)).trans ((whole (x4))))

theorem f30_7_2 (e : Bool) (op : BitVec 6) (x0 : BitVec 6) (x1 : BitVec 6) (x2 : BitVec 4) (x3 : BitVec 2) (x4 : BitVec 7) :
    fld (wordOf e op (x0 ++ x1 ++ x2 ++ x3 ++ x4)) 7 2 = x3 :=
  (fld_body e op (x0 ++ x1 ++ x2 ++ x3 ++ x4) 7 2 (by decide)).trans ((hiPart (v := 18) (w := 7) (lo := 7) (n := 2) (x0 ++ x1 ++ x2 ++ x3 : BitVec 18) (x4) (by decide)).trans ((loPart (v := 16) (w := 2) (lo := 0) (n := 2) (x0 ++ x1 ++ x2 : BitVec 16) (x3) (by decide)).trans ((whole (x3)))))

theorem f30_13_6 (e : Bool) (op : BitVec 6) (x0 : BitVec 6) (x1 : BitVec 6) (x2 : BitVec 4) (x3 : BitVec 2) (x4 : BitVec 7) :
    fld (wordOf e op (x0 ++ x1 ++ x2 ++ x3 ++ x4)) 13 6 = x1 :=
  (fld_body e op (x0 ++ x1 ++ x2 ++ x3 ++ x4) 13 6 (by decide)).trans ((hiPart (v := 18) (w := 7) (lo := 13) (n := 6) (x0 ++ x1 ++ x2 ++ x3 : BitVec 18) (x4) (by decide)).trans ((hiPart (v := 16) (w := 2) (lo := 6) (n := 6) (x0 ++ x1 ++ x2 : BitVec 16) (x3) (by decide)).trans ((hiPart (v := 12) (w := 4) (lo := 4) (n := 6) (x0 ++ x1 : BitVec 12) (x2) (by decide)).trans ((loPart (v := 6) (w := 6) (lo := 0) (n := 6) (x0 : BitVec 6) (x1) (by decide)).trans ((whole (x1)))))))

theorem f30_19_6 (e : Bool) (op : BitVec 6) (x0 : BitVec 6) (x1 : BitVec 6) (x2 : BitVec 4) (x3 : BitVec 2) (x4 : BitVec 7) :
    fld (wordOf e op (x0 ++ x1 ++ x2 ++ x3 ++ x4)) 19 6 = x0 :=
  (fld_body e op (x0 ++ x1 ++ x2 ++ x3 ++ x4) 19 6 (by decide)).trans ((hiPart (v := 18) (w := 7) (lo := 19) (n := 6) (x0 ++ x1 ++ x2 ++ x3 : BitVec 18) (x4) (by decide)).trans ((hiPart (v := 16) (w := 2) (lo := 12) (n := 6) (x0 ++ x1 ++ x2 : BitVec 16) (x3) (by decide)).trans ((hiPart (v := 12) (w := 4) (lo := 10) (n := 6) (x0 ++ x1 : BitVec 12) (x2) (by decide)).trans ((hiPart (v := 6) (w := 6) (lo := 6) (n := 6) (x0 : BitVec 6) (x1) (by decide)).trans ((whole (x0)))))))

theorem f31_0_7 (e : Bool) (op : BitVec 6) (x0 : BitVec 6) (x1 : BitVec 4) (x2 : BitVec 2) (x3 : BitVec 13) :
    fld (wordOf e op (x0 ++ x1 ++ x2 ++ x3)) 0 7 = (x3).extractLsb' 0 7 :=
  (fld_body e op (x0 ++ x1 ++ x2 ++ x3) 0 7 (by decide)).trans ((loPart (v := 12) (w := 13) (lo := 0) (n := 7) (x0 ++ x1 ++ x2 : BitVec 12) (x3) (by decide)))

theorem f31_13_2 (e : Bool) (op : BitVec 6) (x0 : BitVec 6) (x1 : BitVec 4) (x2 : BitVec 2) (x3 : BitVec 13) :
    fld (wordOf e op (x0 ++ x1 ++ x2 ++ x3)) 13 2 = x2 :=
  (fld_body e op (x0 ++ x1 ++ x2 ++ x3) 13 2 (by decide)).trans ((hiPart (v := 12) (w := 13) (lo := 13) (n := 2) (x0 ++ x1 ++ x2 : BitVec 12) (x3) (by decide)).trans ((loPart (v := 10) (w := 2) (lo := 0) (n := 2) (x0 ++ x1 : BitVec 10) (x2) (by decide)).trans ((whole (x2)))))

theorem f31_19_6 (e : Bool) (op : BitVec 6) (x0 : BitVec 6) (x1 : BitVec 4) (x2 : BitVec 2) (x3 : BitVec 13) :
    fld (wordOf e op (x0 ++ x1 ++ x2 ++ x3)) 19 6 = x0 :=
  (fld_body e op (x0 ++ x1 ++ x2 ++ x3) 19 6 (by decide)).trans ((hiPart (v := 12) (w := 13) (lo := 19) (n := 6) (x0 ++ x1 ++ x2 : BitVec 12) (x3) (by decide)).trans ((hiPart (v := 10) (w := 2) (lo := 6) (n := 6) (x0 ++ x1 : BitVec 10) (x2) (by decide)).trans ((hiPart (v := 6) (w := 4) (lo := 4) (n := 6) (x0 : BitVec 6) (x1) (by decide)).trans ((whole (x0))))))

theorem f32_0_7 (e : Bool) (op : BitVec 6) (x0 : BitVec 4) (x1 : BitVec 2) (x2 : BitVec 6) (x3 : BitVec 13) :
    fld (wordOf e op (x0 ++ x1 ++ x2 ++ x3)) 0 7 = (x3).extractLsb' 0 7 :=
  (fld_body e op (x0 ++ x1 ++ x2 ++ x3) 0 7 (by decide)).trans ((loPart (v := 12) (w := 13) (lo := 0) (n := 7) (x0 ++ x1 ++ x2 : BitVec 12) (x3) (by decide)))

theorem f32_13_6 (e : Bool) (op : BitVec 6) (x0 : BitVec 4) (x1 : BitVec 2) (x2 : BitVec 6) (x3 : BitVec 13) :
    fld (wordOf e op (x0 ++ x1 ++ x2 ++ x3)) 13 6 = x2 :=
  (fld_body e op (x0 ++ x1 ++ x2 ++ x3) 13 6 (by decide)).trans ((hiPart (v := 12) (w := 13) (lo := 13) (n := 6) (x0 ++ x1 ++ x2 : BitVec 12) (x3) (by decide)).trans ((loPart (v := 6) (w := 6) (lo := 0) (n := 6) (x0 ++ x1 : BitVec 6) (x2) (by decide)).trans ((whole (x2)))))

theorem f32_19_2 (e : Bool) (op : BitVec 6) (x0 : BitVec 4) (x1 : BitVec 2) (x2 : BitVec 6) (x3 : BitVec 13) :
    fld (wordOf e op (x0 ++ x1 ++ x2 ++ x3)) 19 2 = x1 :=
  (fld_body e op (x0 ++ x1 ++ x2 ++ x3) 19 2 (by decide)).trans ((hiPart (v := 12) (w := 13) (lo := 19) (n := 2) (x0 ++ x1 ++ x2 : BitVec 12) (x3) (by decide)).trans ((hiPart (v := 6) (w := 6) (lo := 6) (n := 2) (x0 ++ x1 : BitVec 6) (x2) (by decide)).trans ((loPart (v := 4) (w := 2) (lo := 0) (n := 2) (x0 : BitVec 4) (x1) (by decide)).trans ((whole (x1))))))

theorem f33_0_7 (e : Bool) (op : BitVec 6) (x0 : BitVec 6) (x1 : BitVec 19) :
    fld (wordOf e op (x0 ++ x1)) 0 7 = (x1).extractLsb' 0 7 :=
  (fld_body e op (x0 ++ x1) 0 7 (by decide)).trans ((loPart (v := 6) (w := 19) (lo := 0) (n := 7) (x0 : BitVec 6) (x1) (by decide)))

theorem f33_19_6 (e : Bool) (op : BitVec 6) (x0 : BitVec 6) (x1 : BitVec 19) :
    fld (wordOf e op (x0 ++ x1)) 19 6 = x0 :=
  (fld_body e op (x0 ++ x1) 19 6 (by decide)).trans ((hiPart (v := 6) (w := 19) (lo := 19) (n := 6) (x0 : BitVec 6) (x1) (by decide)).trans ((whole (x0))))

theorem f34_0_16 (e : Bool) (op : BitVec 6) (x0 : BitVec 3) (x1 : BitVec 6) (x2 : BitVec 16) :
    fld (wordOf e op (x0 ++ x1 ++ x2)) 0 16 = x2 :=
  (fld_body e op (x0 ++ x1 ++ x2) 0 16 (by decide)).trans ((loPart (v := 9) (w := 16) (lo := 0) (n := 16) (x0 ++ x1 : BitVec 9) (x2) (by decide)).trans ((whole (x2))))

theorem f34_16_6 (e : Bool) (op : BitVec 6) (x0 : BitVec 3) (x1 : BitVec 6) (x2 : BitVec 16) :
    fld (wordOf e op (x0 ++ x1 ++ x2)) 16 6 = x1 :=
  (fld_body e op (x0 ++ x1 ++ x2) 16 6 (by decide)).trans ((hiPart (v := 9) (w := 16) (lo := 16) (n := 6) (x0 ++ x1 : BitVec 9) (x2) (by decide)).trans ((loPart (v := 3) (w := 6) (lo := 0) (n := 6) (x0 : BitVec 3) (x1) (by decide)).trans ((whole (x1)))))

theorem f34_22_3 (e : Bool) (op : BitVec 6) (x0 : BitVec 3) (x1 : BitVec 6) (x2 : BitVec 16) :
    fld (wordOf e op (x0 ++ x1 ++ x2)) 22 3 = x0 :=
  (fld_body e op (x0 ++ x1 ++ x2) 22 3 (by decide)).trans ((hiPart (v := 9) (w := 16) (lo := 22) (n := 3) (x0 ++ x1 : BitVec 9) (x2) (by decide)).trans ((hiPart (v := 3) (w := 6) (lo := 6) (n := 3) (x0 : BitVec 3) (x1) (by decide)).trans ((whole (x0)))))

theorem f35_0_16 (e : Bool) (op : BitVec 6) (x0 : BitVec 3) (x1 : BitVec 6) (x2 : BitVec 16) :
    fld (wordOf e op (x0 ++ x1 ++ x2)) 0 16 = x2 :=
  (fld_body e op (x0 ++ x1 ++ x2) 0 16 (by decide)).trans ((loPart (v := 9) (w := 16) (lo := 0) (n := 16) (x0 ++ x1 : BitVec 9) (x2) (by decide)).trans ((whole (x2))))

theorem f35_16_6 (e : Bool) (op : BitVec 6) (x0 : BitVec 3) (x1 : BitVec 6) (x2 : BitVec 16) :
    fld (wordOf e op (x0 ++ x1 ++ x2)) 16 6 = x1 :=
  (fld_body e op (x0 ++ x1 ++ x2) 16 6 (by decide)).trans ((hiPart (v := 9) (w := 16) (lo := 16) (n := 6) (x0 ++ x1 : BitVec 9) (x2) (by decide)).trans ((loPart (v := 3) (w := 6) (lo := 0) (n := 6) (x0 : BitVec 3) (x1) (by decide)).trans ((whole (x1)))))

theorem f35_22_3 (e : Bool) (op : BitVec 6) (x0 : BitVec 3) (x1 : BitVec 6) (x2 : BitVec 16) :
    fld (wordOf e op (x0 ++ x1 ++ x2)) 22 3 = x0 :=
  (fld_body e op (x0 ++ x1 ++ x2) 22 3 (by decide)).trans ((hiPart (v := 9) (w := 16) (lo := 22) (n := 3) (x0 ++ x1 : BitVec 9) (x2) (by decide)).trans ((hiPart (v := 3) (w := 6) (lo := 6) (n := 3) (x0 : BitVec 3) (x1) (by decide)).trans ((whole (x0)))))

theorem f36_0_16 (e : Bool) (op : BitVec 6) (x0 : BitVec 9) (x1 : BitVec 16) :
    fld (wordOf e op (x0 ++ x1)) 0 16 = x1 :=
  (fld_body e op (x0 ++ x1) 0 16 (by decide)).trans ((loPart (v := 9) (w := 16) (lo := 0) (n := 16) (x0 : BitVec 9) (x1) (by decide)).trans ((whole (x1))))

theorem f36_22_3 (e : Bool) (op : BitVec 6) (x0 : BitVec 9) (x1 : BitVec 16) :
    fld (wordOf e op (x0 ++ x1)) 22 3 = (x0).extractLsb' 6 3 :=
  (fld_body e op (x0 ++ x1) 22 3 (by decide)).trans ((hiPart (v := 9) (w := 16) (lo := 22) (n := 3) (x0 : BitVec 9) (x1) (by decide)))

theorem f37_0_16 (e : Bool) (op : BitVec 6) (x0 : BitVec 3) (x1 : BitVec 6) (x2 : BitVec 16) :
    fld (wordOf e op (x0 ++ x1 ++ x2)) 0 16 = x2 :=
  (fld_body e op (x0 ++ x1 ++ x2) 0 16 (by decide)).trans ((loPart (v := 9) (w := 16) (lo := 0) (n := 16) (x0 ++ x1 : BitVec 9) (x2) (by decide)).trans ((whole (x2))))

theorem f37_16_6 (e : Bool) (op : BitVec 6) (x0 : BitVec 3) (x1 : BitVec 6) (x2 : BitVec 16) :
    fld (wordOf e op (x0 ++ x1 ++ x2)) 16 6 = x1 :=
  (fld_body e op (x0 ++ x1 ++ x2) 16 6 (by decide)).trans ((hiPart (v := 9) (w := 16) (lo := 16) (n := 6) (x0 ++ x1 : BitVec 9) (x2) (by decide)).trans ((loPart (v := 3) (w := 6) (lo := 0) (n := 6) (x0 : BitVec 3) (x1) (by decide)).trans ((whole (x1)))))

theorem f37_22_3 (e : Bool) (op : BitVec 6) (x0 : BitVec 3) (x1 : BitVec 6) (x2 : BitVec 16) :
    fld (wordOf e op (x0 ++ x1 ++ x2)) 22 3 = x0 :=
  (fld_body e op (x0 ++ x1 ++ x2) 22 3 (by decide)).trans ((hiPart (v := 9) (w := 16) (lo := 22) (n := 3) (x0 ++ x1 : BitVec 9) (x2) (by decide)).trans ((hiPart (v := 3) (w := 6) (lo := 6) (n := 3) (x0 : BitVec 3) (x1) (by decide)).trans ((whole (x0)))))

theorem f38_0_11 (e : Bool) (op : BitVec 6) (x0 : BitVec 3) (x1 : BitVec 11) (x2 : BitVec 11) :
    fld (wordOf e op (x0 ++ x1 ++ x2)) 0 11 = x2 :=
  (fld_body e op (x0 ++ x1 ++ x2) 0 11 (by decide)).trans ((loPart (v := 14) (w := 11) (lo := 0) (n := 11) (x0 ++ x1 : BitVec 14) (x2) (by decide)).trans ((whole (x2))))

theorem f38_11_11 (e : Bool) (op : BitVec 6) (x0 : BitVec 3) (x1 : BitVec 11) (x2 : BitVec 11) :
    fld (wordOf e op (x0 ++ x1 ++ x2)) 11 11 = x1 :=
  (fld_body e op (x0 ++ x1 ++ x2) 11 11 (by decide)).trans ((hiPart (v := 14) (w := 11) (lo := 11) (n := 11) (x0 ++ x1 : BitVec 14) (x2) (by decide)).trans ((loPart (v := 3) (w := 11) (lo := 0) (n := 11) (x0 : BitVec 3) (x1) (by decide)).trans ((whole (x1)))))

theorem f38_22_3 (e : Bool) (op : BitVec 6) (x0 : BitVec 3) (x1 : BitVec 11) (x2 : BitVec 11) :
    fld (wordOf e op (x0 ++ x1 ++ x2)) 22 3 = x0 :=
  (fld_body e op (x0 ++ x1 ++ x2) 22 3 (by decide)).trans ((hiPart (v := 14) (w := 11) (lo := 22) (n := 3) (x0 ++ x1 : BitVec 14) (x2) (by decide)).trans ((hiPart (v := 3) (w := 11) (lo := 11) (n := 3) (x0 : BitVec 3) (x1) (by decide)).trans ((whole (x0)))))

theorem f39_0_7 (e : Bool) (op : BitVec 6) (x0 : BitVec 6) (x1 : BitVec 6) (x2 : BitVec 6) (x3 : BitVec 7) :
    fld (wordOf e op (x0 ++ x1 ++ x2 ++ x3)) 0 7 = x3 :=
  (fld_body e op (x0 ++ x1 ++ x2 ++ x3) 0 7 (by decide)).trans ((loPart (v := 18) (w := 7) (lo := 0) (n := 7) (x0 ++ x1 ++ x2 : BitVec 18) (x3) (by decide)).trans ((whole (x3))))

theorem f39_7_6 (e : Bool) (op : BitVec 6) (x0 : BitVec 6) (x1 : BitVec 6) (x2 : BitVec 6) (x3 : BitVec 7) :
    fld (wordOf e op (x0 ++ x1 ++ x2 ++ x3)) 7 6 = x2 :=
  (fld_body e op (x0 ++ x1 ++ x2 ++ x3) 7 6 (by decide)).trans ((hiPart (v := 18) (w := 7) (lo := 7) (n := 6) (x0 ++ x1 ++ x2 : BitVec 18) (x3) (by decide)).trans ((loPart (v := 12) (w := 6) (lo := 0) (n := 6) (x0 ++ x1 : BitVec 12) (x2) (by decide)).trans ((whole (x2)))))

theorem f39_19_6 (e : Bool) (op : BitVec 6) (x0 : BitVec 6) (x1 : BitVec 6) (x2 : BitVec 6) (x3 : BitVec 7) :
    fld (wordOf e op (x0 ++ x1 ++ x2 ++ x3)) 19 6 = x0 :=
  (fld_body e op (x0 ++ x1 ++ x2 ++ x3) 19 6 (by decide)).trans ((hiPart (v := 18) (w := 7) (lo := 19) (n := 6) (x0 ++ x1 ++ x2 : BitVec 18) (x3) (by decide)).trans ((hiPart (v := 12) (w := 6) (lo := 12) (n := 6) (x0 ++ x1 : BitVec 12) (x2) (by decide)).trans ((hiPart (v := 6) (w := 6) (lo := 6) (n := 6) (x0 : BitVec 6) (x1) (by decide)).trans ((whole (x0))))))

theorem f40_0_7 (e : Bool) (op : BitVec 6) (x0 : BitVec 11) (x1 : BitVec 7) (x2 : BitVec 7) :
    fld (wordOf e op (x0 ++ x1 ++ x2)) 0 7 = x2 :=
  (fld_body e op (x0 ++ x1 ++ x2) 0 7 (by decide)).trans ((loPart (v := 18) (w := 7) (lo := 0) (n := 7) (x0 ++ x1 : BitVec 18) (x2) (by decide)).trans ((whole (x2))))

theorem f40_7_7 (e : Bool) (op : BitVec 6) (x0 : BitVec 11) (x1 : BitVec 7) (x2 : BitVec 7) :
    fld (wordOf e op (x0 ++ x1 ++ x2)) 7 7 = x1 :=
  (fld_body e op (x0 ++ x1 ++ x2) 7 7 (by decide)).trans ((hiPart (v := 18) (w := 7) (lo := 7) (n := 7) (x0 ++ x1 : BitVec 18) (x2) (by decide)).trans ((loPart (v := 11) (w := 7) (lo := 0) (n := 7) (x0 : BitVec 11) (x1) (by decide)).trans ((whole (x1)))))

theorem f41_0_25 (e : Bool) (op : BitVec 6) (x0 : BitVec 25) :
    fld (wordOf e op (x0)) 0 25 = x0 :=
  (fld_body e op (x0) 0 25 (by decide)).trans ((whole (x0)))

theorem f42_8_2 (e : Bool) (op : BitVec 6) (x0 : BitVec 4) (x1 : Bool) (x2 : Bool) (x3 : BitVec 2) (x4 : Bool) (x5 : Bool) (x6 : BitVec 3) (x7 : BitVec 2) (x8 : BitVec 2) (x9 : BitVec 8) :
    fld (wordOf e op (x0 ++ BitVec.ofBool x1 ++ BitVec.ofBool x2 ++ x3 ++ BitVec.ofBool x4 ++ BitVec.ofBool x5 ++ x6 ++ x7 ++ x8 ++ x9)) 8 2 = x8 :=
  (fld_body e op (x0 ++ BitVec.ofBool x1 ++ BitVec.ofBool x2 ++ x3 ++ BitVec.ofBool x4 ++ BitVec.ofBool x5 ++ x6 ++ x7 ++ x8 ++ x9) 8 2 (by decide)).trans ((hiPart (v := 17) (w := 8) (lo := 8) (n := 2) (x0 ++ BitVec.ofBool x1 ++ BitVec.ofBool x2 ++ x3 ++ BitVec.ofBool x4 ++ BitVec.ofBool x5 ++ x6 ++ x7 ++ x8 : BitVec 17) (x9) (by decide)).trans ((loPart (v := 15) (w := 2) (lo := 0) (n := 2) (x0 ++ BitVec.ofBool x1 ++ BitVec.ofBool x2 ++ x3 ++ BitVec.ofBool x4 ++ BitVec.ofBool x5 ++ x6 ++ x7 : BitVec 15) (x8) (by decide)).trans ((whole (x8)))))

theorem f42_10_2 (e : Bool) (op : BitVec 6) (x0 : BitVec 4) (x1 : Bool) (x2 : Bool) (x3 : BitVec 2) (x4 : Bool) (x5 : Bool) (x6 : BitVec 3) (x7 : BitVec 2) (x8 : BitVec 2) (x9 : BitVec 8) :
    fld (wordOf e op (x0 ++ BitVec.ofBool x1 ++ BitVec.ofBool x2 ++ x3 ++ BitVec.ofBool x4 ++ BitVec.ofBool x5 ++ x6 ++ x7 ++ x8 ++ x9)) 10 2 = x7 :=
  (fld_body e op (x0 ++ BitVec.ofBool x1 ++ BitVec.ofBool x2 ++ x3 ++ BitVec.ofBool x4 ++ BitVec.ofBool x5 ++ x6 ++ x7 ++ x8 ++ x9) 10 2 (by decide)).trans ((hiPart (v := 17) (w := 8) (lo := 10) (n := 2) (x0 ++ BitVec.ofBool x1 ++ BitVec.ofBool x2 ++ x3 ++ BitVec.ofBool x4 ++ BitVec.ofBool x5 ++ x6 ++ x7 ++ x8 : BitVec 17) (x9) (by decide)).trans ((hiPart (v := 15) (w := 2) (lo := 2) (n := 2) (x0 ++ BitVec.ofBool x1 ++ BitVec.ofBool x2 ++ x3 ++ BitVec.ofBool x4 ++ BitVec.ofBool x5 ++ x6 ++ x7 : BitVec 15) (x8) (by decide)).trans ((loPart (v := 13) (w := 2) (lo := 0) (n := 2) (x0 ++ BitVec.ofBool x1 ++ BitVec.ofBool x2 ++ x3 ++ BitVec.ofBool x4 ++ BitVec.ofBool x5 ++ x6 : BitVec 13) (x7) (by decide)).trans ((whole (x7))))))

theorem f42_12_3 (e : Bool) (op : BitVec 6) (x0 : BitVec 4) (x1 : Bool) (x2 : Bool) (x3 : BitVec 2) (x4 : Bool) (x5 : Bool) (x6 : BitVec 3) (x7 : BitVec 2) (x8 : BitVec 2) (x9 : BitVec 8) :
    fld (wordOf e op (x0 ++ BitVec.ofBool x1 ++ BitVec.ofBool x2 ++ x3 ++ BitVec.ofBool x4 ++ BitVec.ofBool x5 ++ x6 ++ x7 ++ x8 ++ x9)) 12 3 = x6 :=
  (fld_body e op (x0 ++ BitVec.ofBool x1 ++ BitVec.ofBool x2 ++ x3 ++ BitVec.ofBool x4 ++ BitVec.ofBool x5 ++ x6 ++ x7 ++ x8 ++ x9) 12 3 (by decide)).trans ((hiPart (v := 17) (w := 8) (lo := 12) (n := 3) (x0 ++ BitVec.ofBool x1 ++ BitVec.ofBool x2 ++ x3 ++ BitVec.ofBool x4 ++ BitVec.ofBool x5 ++ x6 ++ x7 ++ x8 : BitVec 17) (x9) (by decide)).trans ((hiPart (v := 15) (w := 2) (lo := 4) (n := 3) (x0 ++ BitVec.ofBool x1 ++ BitVec.ofBool x2 ++ x3 ++ BitVec.ofBool x4 ++ BitVec.ofBool x5 ++ x6 ++ x7 : BitVec 15) (x8) (by decide)).trans ((hiPart (v := 13) (w := 2) (lo := 2) (n := 3) (x0 ++ BitVec.ofBool x1 ++ BitVec.ofBool x2 ++ x3 ++ BitVec.ofBool x4 ++ BitVec.ofBool x5 ++ x6 : BitVec 13) (x7) (by decide)).trans ((loPart (v := 10) (w := 3) (lo := 0) (n := 3) (x0 ++ BitVec.ofBool x1 ++ BitVec.ofBool x2 ++ x3 ++ BitVec.ofBool x4 ++ BitVec.ofBool x5 : BitVec 10) (x6) (by decide)).trans ((whole (x6)))))))

theorem f42_15_1 (e : Bool) (op : BitVec 6) (x0 : BitVec 4) (x1 : Bool) (x2 : Bool) (x3 : BitVec 2) (x4 : Bool) (x5 : Bool) (x6 : BitVec 3) (x7 : BitVec 2) (x8 : BitVec 2) (x9 : BitVec 8) :
    fld (wordOf e op (x0 ++ BitVec.ofBool x1 ++ BitVec.ofBool x2 ++ x3 ++ BitVec.ofBool x4 ++ BitVec.ofBool x5 ++ x6 ++ x7 ++ x8 ++ x9)) 15 1 = BitVec.ofBool x5 :=
  (fld_body e op (x0 ++ BitVec.ofBool x1 ++ BitVec.ofBool x2 ++ x3 ++ BitVec.ofBool x4 ++ BitVec.ofBool x5 ++ x6 ++ x7 ++ x8 ++ x9) 15 1 (by decide)).trans ((hiPart (v := 17) (w := 8) (lo := 15) (n := 1) (x0 ++ BitVec.ofBool x1 ++ BitVec.ofBool x2 ++ x3 ++ BitVec.ofBool x4 ++ BitVec.ofBool x5 ++ x6 ++ x7 ++ x8 : BitVec 17) (x9) (by decide)).trans ((hiPart (v := 15) (w := 2) (lo := 7) (n := 1) (x0 ++ BitVec.ofBool x1 ++ BitVec.ofBool x2 ++ x3 ++ BitVec.ofBool x4 ++ BitVec.ofBool x5 ++ x6 ++ x7 : BitVec 15) (x8) (by decide)).trans ((hiPart (v := 13) (w := 2) (lo := 5) (n := 1) (x0 ++ BitVec.ofBool x1 ++ BitVec.ofBool x2 ++ x3 ++ BitVec.ofBool x4 ++ BitVec.ofBool x5 ++ x6 : BitVec 13) (x7) (by decide)).trans ((hiPart (v := 10) (w := 3) (lo := 3) (n := 1) (x0 ++ BitVec.ofBool x1 ++ BitVec.ofBool x2 ++ x3 ++ BitVec.ofBool x4 ++ BitVec.ofBool x5 : BitVec 10) (x6) (by decide)).trans ((loPart (v := 9) (w := 1) (lo := 0) (n := 1) (x0 ++ BitVec.ofBool x1 ++ BitVec.ofBool x2 ++ x3 ++ BitVec.ofBool x4 : BitVec 9) (BitVec.ofBool x5) (by decide)).trans ((whole (BitVec.ofBool x5))))))))

theorem f42_16_1 (e : Bool) (op : BitVec 6) (x0 : BitVec 4) (x1 : Bool) (x2 : Bool) (x3 : BitVec 2) (x4 : Bool) (x5 : Bool) (x6 : BitVec 3) (x7 : BitVec 2) (x8 : BitVec 2) (x9 : BitVec 8) :
    fld (wordOf e op (x0 ++ BitVec.ofBool x1 ++ BitVec.ofBool x2 ++ x3 ++ BitVec.ofBool x4 ++ BitVec.ofBool x5 ++ x6 ++ x7 ++ x8 ++ x9)) 16 1 = BitVec.ofBool x4 :=
  (fld_body e op (x0 ++ BitVec.ofBool x1 ++ BitVec.ofBool x2 ++ x3 ++ BitVec.ofBool x4 ++ BitVec.ofBool x5 ++ x6 ++ x7 ++ x8 ++ x9) 16 1 (by decide)).trans ((hiPart (v := 17) (w := 8) (lo := 16) (n := 1) (x0 ++ BitVec.ofBool x1 ++ BitVec.ofBool x2 ++ x3 ++ BitVec.ofBool x4 ++ BitVec.ofBool x5 ++ x6 ++ x7 ++ x8 : BitVec 17) (x9) (by decide)).trans ((hiPart (v := 15) (w := 2) (lo := 8) (n := 1) (x0 ++ BitVec.ofBool x1 ++ BitVec.ofBool x2 ++ x3 ++ BitVec.ofBool x4 ++ BitVec.ofBool x5 ++ x6 ++ x7 : BitVec 15) (x8) (by decide)).trans ((hiPart (v := 13) (w := 2) (lo := 6) (n := 1) (x0 ++ BitVec.ofBool x1 ++ BitVec.ofBool x2 ++ x3 ++ BitVec.ofBool x4 ++ BitVec.ofBool x5 ++ x6 : BitVec 13) (x7) (by decide)).trans ((hiPart (v := 10) (w := 3) (lo := 4) (n := 1) (x0 ++ BitVec.ofBool x1 ++ BitVec.ofBool x2 ++ x3 ++ BitVec.ofBool x4 ++ BitVec.ofBool x5 : BitVec 10) (x6) (by decide)).trans ((hiPart (v := 9) (w := 1) (lo := 1) (n := 1) (x0 ++ BitVec.ofBool x1 ++ BitVec.ofBool x2 ++ x3 ++ BitVec.ofBool x4 : BitVec 9) (BitVec.ofBool x5) (by decide)).trans ((loPart (v := 8) (w := 1) (lo := 0) (n := 1) (x0 ++ BitVec.ofBool x1 ++ BitVec.ofBool x2 ++ x3 : BitVec 8) (BitVec.ofBool x4) (by decide)).trans ((whole (BitVec.ofBool x4)))))))))

theorem f42_17_2 (e : Bool) (op : BitVec 6) (x0 : BitVec 4) (x1 : Bool) (x2 : Bool) (x3 : BitVec 2) (x4 : Bool) (x5 : Bool) (x6 : BitVec 3) (x7 : BitVec 2) (x8 : BitVec 2) (x9 : BitVec 8) :
    fld (wordOf e op (x0 ++ BitVec.ofBool x1 ++ BitVec.ofBool x2 ++ x3 ++ BitVec.ofBool x4 ++ BitVec.ofBool x5 ++ x6 ++ x7 ++ x8 ++ x9)) 17 2 = x3 :=
  (fld_body e op (x0 ++ BitVec.ofBool x1 ++ BitVec.ofBool x2 ++ x3 ++ BitVec.ofBool x4 ++ BitVec.ofBool x5 ++ x6 ++ x7 ++ x8 ++ x9) 17 2 (by decide)).trans ((hiPart (v := 17) (w := 8) (lo := 17) (n := 2) (x0 ++ BitVec.ofBool x1 ++ BitVec.ofBool x2 ++ x3 ++ BitVec.ofBool x4 ++ BitVec.ofBool x5 ++ x6 ++ x7 ++ x8 : BitVec 17) (x9) (by decide)).trans ((hiPart (v := 15) (w := 2) (lo := 9) (n := 2) (x0 ++ BitVec.ofBool x1 ++ BitVec.ofBool x2 ++ x3 ++ BitVec.ofBool x4 ++ BitVec.ofBool x5 ++ x6 ++ x7 : BitVec 15) (x8) (by decide)).trans ((hiPart (v := 13) (w := 2) (lo := 7) (n := 2) (x0 ++ BitVec.ofBool x1 ++ BitVec.ofBool x2 ++ x3 ++ BitVec.ofBool x4 ++ BitVec.ofBool x5 ++ x6 : BitVec 13) (x7) (by decide)).trans ((hiPart (v := 10) (w := 3) (lo := 5) (n := 2) (x0 ++ BitVec.ofBool x1 ++ BitVec.ofBool x2 ++ x3 ++ BitVec.ofBool x4 ++ BitVec.ofBool x5 : BitVec 10) (x6) (by decide)).trans ((hiPart (v := 9) (w := 1) (lo := 2) (n := 2) (x0 ++ BitVec.ofBool x1 ++ BitVec.ofBool x2 ++ x3 ++ BitVec.ofBool x4 : BitVec 9) (BitVec.ofBool x5) (by decide)).trans ((hiPart (v := 8) (w := 1) (lo := 1) (n := 2) (x0 ++ BitVec.ofBool x1 ++ BitVec.ofBool x2 ++ x3 : BitVec 8) (BitVec.ofBool x4) (by decide)).trans ((loPart (v := 6) (w := 2) (lo := 0) (n := 2) (x0 ++ BitVec.ofBool x1 ++ BitVec.ofBool x2 : BitVec 6) (x3) (by decide)).trans ((whole (x3))))))))))

theorem f42_19_1 (e : Bool) (op : BitVec 6) (x0 : BitVec 4) (x1 : Bool) (x2 : Bool) (x3 : BitVec 2) (x4 : Bool) (x5 : Bool) (x6 : BitVec 3) (x7 : BitVec 2) (x8 : BitVec 2) (x9 : BitVec 8) :
    fld (wordOf e op (x0 ++ BitVec.ofBool x1 ++ BitVec.ofBool x2 ++ x3 ++ BitVec.ofBool x4 ++ BitVec.ofBool x5 ++ x6 ++ x7 ++ x8 ++ x9)) 19 1 = BitVec.ofBool x2 :=
  (fld_body e op (x0 ++ BitVec.ofBool x1 ++ BitVec.ofBool x2 ++ x3 ++ BitVec.ofBool x4 ++ BitVec.ofBool x5 ++ x6 ++ x7 ++ x8 ++ x9) 19 1 (by decide)).trans ((hiPart (v := 17) (w := 8) (lo := 19) (n := 1) (x0 ++ BitVec.ofBool x1 ++ BitVec.ofBool x2 ++ x3 ++ BitVec.ofBool x4 ++ BitVec.ofBool x5 ++ x6 ++ x7 ++ x8 : BitVec 17) (x9) (by decide)).trans ((hiPart (v := 15) (w := 2) (lo := 11) (n := 1) (x0 ++ BitVec.ofBool x1 ++ BitVec.ofBool x2 ++ x3 ++ BitVec.ofBool x4 ++ BitVec.ofBool x5 ++ x6 ++ x7 : BitVec 15) (x8) (by decide)).trans ((hiPart (v := 13) (w := 2) (lo := 9) (n := 1) (x0 ++ BitVec.ofBool x1 ++ BitVec.ofBool x2 ++ x3 ++ BitVec.ofBool x4 ++ BitVec.ofBool x5 ++ x6 : BitVec 13) (x7) (by decide)).trans ((hiPart (v := 10) (w := 3) (lo := 7) (n := 1) (x0 ++ BitVec.ofBool x1 ++ BitVec.ofBool x2 ++ x3 ++ BitVec.ofBool x4 ++ BitVec.ofBool x5 : BitVec 10) (x6) (by decide)).trans ((hiPart (v := 9) (w := 1) (lo := 4) (n := 1) (x0 ++ BitVec.ofBool x1 ++ BitVec.ofBool x2 ++ x3 ++ BitVec.ofBool x4 : BitVec 9) (BitVec.ofBool x5) (by decide)).trans ((hiPart (v := 8) (w := 1) (lo := 3) (n := 1) (x0 ++ BitVec.ofBool x1 ++ BitVec.ofBool x2 ++ x3 : BitVec 8) (BitVec.ofBool x4) (by decide)).trans ((hiPart (v := 6) (w := 2) (lo := 2) (n := 1) (x0 ++ BitVec.ofBool x1 ++ BitVec.ofBool x2 : BitVec 6) (x3) (by decide)).trans ((loPart (v := 5) (w := 1) (lo := 0) (n := 1) (x0 ++ BitVec.ofBool x1 : BitVec 5) (BitVec.ofBool x2) (by decide)).trans ((whole (BitVec.ofBool x2)))))))))))

theorem f42_20_1 (e : Bool) (op : BitVec 6) (x0 : BitVec 4) (x1 : Bool) (x2 : Bool) (x3 : BitVec 2) (x4 : Bool) (x5 : Bool) (x6 : BitVec 3) (x7 : BitVec 2) (x8 : BitVec 2) (x9 : BitVec 8) :
    fld (wordOf e op (x0 ++ BitVec.ofBool x1 ++ BitVec.ofBool x2 ++ x3 ++ BitVec.ofBool x4 ++ BitVec.ofBool x5 ++ x6 ++ x7 ++ x8 ++ x9)) 20 1 = BitVec.ofBool x1 :=
  (fld_body e op (x0 ++ BitVec.ofBool x1 ++ BitVec.ofBool x2 ++ x3 ++ BitVec.ofBool x4 ++ BitVec.ofBool x5 ++ x6 ++ x7 ++ x8 ++ x9) 20 1 (by decide)).trans ((hiPart (v := 17) (w := 8) (lo := 20) (n := 1) (x0 ++ BitVec.ofBool x1 ++ BitVec.ofBool x2 ++ x3 ++ BitVec.ofBool x4 ++ BitVec.ofBool x5 ++ x6 ++ x7 ++ x8 : BitVec 17) (x9) (by decide)).trans ((hiPart (v := 15) (w := 2) (lo := 12) (n := 1) (x0 ++ BitVec.ofBool x1 ++ BitVec.ofBool x2 ++ x3 ++ BitVec.ofBool x4 ++ BitVec.ofBool x5 ++ x6 ++ x7 : BitVec 15) (x8) (by decide)).trans ((hiPart (v := 13) (w := 2) (lo := 10) (n := 1) (x0 ++ BitVec.ofBool x1 ++ BitVec.ofBool x2 ++ x3 ++ BitVec.ofBool x4 ++ BitVec.ofBool x5 ++ x6 : BitVec 13) (x7) (by decide)).trans ((hiPart (v := 10) (w := 3) (lo := 8) (n := 1) (x0 ++ BitVec.ofBool x1 ++ BitVec.ofBool x2 ++ x3 ++ BitVec.ofBool x4 ++ BitVec.ofBool x5 : BitVec 10) (x6) (by decide)).trans ((hiPart (v := 9) (w := 1) (lo := 5) (n := 1) (x0 ++ BitVec.ofBool x1 ++ BitVec.ofBool x2 ++ x3 ++ BitVec.ofBool x4 : BitVec 9) (BitVec.ofBool x5) (by decide)).trans ((hiPart (v := 8) (w := 1) (lo := 4) (n := 1) (x0 ++ BitVec.ofBool x1 ++ BitVec.ofBool x2 ++ x3 : BitVec 8) (BitVec.ofBool x4) (by decide)).trans ((hiPart (v := 6) (w := 2) (lo := 3) (n := 1) (x0 ++ BitVec.ofBool x1 ++ BitVec.ofBool x2 : BitVec 6) (x3) (by decide)).trans ((hiPart (v := 5) (w := 1) (lo := 1) (n := 1) (x0 ++ BitVec.ofBool x1 : BitVec 5) (BitVec.ofBool x2) (by decide)).trans ((loPart (v := 4) (w := 1) (lo := 0) (n := 1) (x0 : BitVec 4) (BitVec.ofBool x1) (by decide)).trans ((whole (BitVec.ofBool x1))))))))))))

theorem f43_20_5 (e : Bool) (op : BitVec 6) (x0 : BitVec 5) (x1 : BitVec 20) :
    fld (wordOf e op (x0 ++ x1)) 20 5 = x0 :=
  (fld_body e op (x0 ++ x1) 20 5 (by decide)).trans ((hiPart (v := 5) (w := 20) (lo := 20) (n := 5) (x0 : BitVec 5) (x1) (by decide)).trans ((whole (x0))))

end Sys2Proof.Laws
end

