-- ==== Sys2Proof/Laws/PerInstr.lean ====
section
/-! SUPPORT. Decoding an encoded instruction gives it back, instruction by instruction: one lemma for each constructor (R118 to R130). -/

namespace Sys2Proof.Laws

set_option Elab.async false

open Sys2Proof

/-- The constructors that stand for no word of a program: the use of a word that is none (R129), and the rows of the table that another
unit than a wave performs. -/
def noWord : Instr → Bool
  | .illegalWord .. | .asyncTrapDelivery .. | .runArbitration .. | .runFetch .. | .pauseExpiry ..
  | .globalAccessResponse .. | .faultRecordWrite .. | .drainComplete .. | .binLaunch .. | .binIdleExpiry ..
  | .spillRingDrain .. | .parentSpill .. | .parentRestore .. | .waitPoll .. | .bankOperation .. | .bankPass ..
  | .bankSeal .. | .bankVget .. | .bankVpin .. | .bankVrel .. | .bankAnswer .. | .objectClose ..
  | .objectDrop .. | .copyComplete .. | .copyPageFaultPark .. | .matrixQueueArrival .. | .matrixStart ..
  | .matrixStepEnd .. | .matrixRelease .. | .matrixComplete .. | .icinvComplete .. | .epochTimeout ..
  | .epochApply .. | .hostEpochAck .. | .gfenceRelease .. | .rinvPacketArrival .. | .rinvStatusReturn ..
  | .receiveQueueFeed | .retirementAck .. | .wsendArrival .. | .wsendAck .. | .wsendFailure ..
  | .hangRunLimit .. | .issueStallWatchdog .. | .engineQueueWatchdog .. | .strikeReport ..
  | .strikeBufferSend .. | .containment .. | .scrub .. | .selfTestStart .. | .selfTestVerdict ..
  | .pathDelayMeasure .. | .energyMeterInterval .. | .timeBudgetExhausted .. | .recordTake .. | .gangPlace
  | .gangRetire .. | .preemption .. | .contextEvict .. | .contextStageIn .. | .contextRestore ..
  | .launchComplete .. | .completionPost | .signal .. | .dispatchCoreFailure .. | .heartbeat ..
  | .heartbeatMiss .. | .dispatchTakeover .. | .queueSet .. | .asidBind .. | .vfBounds .. | .ounitGrant ..
  | .tlbInval .. | .tlbInvalComplete | .faultAnswer .. | .objCreate .. | .objDestroy .. | .handlerSet ..
  | .rxqSet .. | .windowReg .. | .windowDereg .. | .fenceClear .. | .dispatchRestore .. | .cqSet ..
  | .doorbell .. | .cqhead .. | .warmReset .. | .chipid .. | .devstatOvfClear .. | .ringSetupWrite ..
  | .ringHeadWrite .. | .registerWrite .. | .orngVget .. | .orngVpin .. | .orngVrel .. | .dmemAccess ..
  | .orngAccess .. | .getVersion | .getCapabilities | .negotiateAlgorithms | .getDigests | .getCertificate ..
  | .challenge .. | .getMeasurements .. | .pldmFirmwareUpdate .. | .pldmMonitor .. | .counterRead ..
  | .powerOnReset .. | .thermalThrottle .. | .thermalTrip | .homeOperation .. | .pathDown ..
  | .pathDelayMeasurementEnd .. => true
  | _ => false

/-- What is said of an instruction: it has a word unless it is one of `noWord`, and that word decodes to it. -/
def RoundTrip.Statement (i : Instr) : Prop :=
  i.wellFormed = true → (noWord i = false → ∃ w, encode i = some w) ∧ ∀ w, encode i = some w → decode w = some i

/-- A constructor that has no word. -/
theorem RoundTrip.of_none {i : Instr} (h : encode i = none) (hn : noWord i = true) : RoundTrip.Statement i := by
  refine fun _ => ⟨fun hf => ?_, fun w hw => ?_⟩
  · rw [hn] at hf; cases hf
  · rw [h] at hw; cases hw

/-- A constructor that has one. -/
theorem RoundTrip.of_word {i : Instr} {w : Word} (h : encode i = some w) (hd : i.wellFormed = true → decode w = some i) : RoundTrip.Statement i := by
  refine fun hi => ⟨fun _ => ⟨w, h⟩, fun x hx => ?_⟩
  rw [h] at hx
  cases hx
  exact hd hi

/-- A predicate form of R173 is not read as PGET. -/
theorem not8 (w : Word) (h : fld w 3 4 ≠ 1#4) : fld w 0 7 ≠ 8#7 := by
  intro h8
  apply h
  have hp := fld_part w 0 7 3 4 (by decide)
  rw [Nat.zero_add] at hp
  rw [hp, h8]
  decide

theorem RoundTrip.add (e : Bool) (d : BitVec 6) (a : BitVec 6) (b : BitVec 6) : RoundTrip.Statement (Instr.add e d a b) := RoundTrip.of_word rfl (fun _ => by simp [decode, dec01, fld_op, msb_wordOf, f0_0_7, f0_7_6, f0_13_6, f0_19_6])

theorem RoundTrip.sub (e : Bool) (d : BitVec 6) (a : BitVec 6) (b : BitVec 6) : RoundTrip.Statement (Instr.sub e d a b) := RoundTrip.of_word rfl (fun _ => by simp [decode, dec01, fld_op, msb_wordOf, f0_0_7, f0_7_6, f0_13_6, f0_19_6])

theorem RoundTrip.mul (e : Bool) (d : BitVec 6) (a : BitVec 6) (b : BitVec 6) : RoundTrip.Statement (Instr.mul e d a b) := RoundTrip.of_word rfl (fun _ => by simp [decode, dec01, fld_op, msb_wordOf, f0_0_7, f0_7_6, f0_13_6, f0_19_6])

theorem RoundTrip.mulh (e : Bool) (d : BitVec 6) (a : BitVec 6) (b : BitVec 6) : RoundTrip.Statement (Instr.mulh e d a b) := RoundTrip.of_word rfl (fun _ => by simp [decode, dec01, fld_op, msb_wordOf, f0_0_7, f0_7_6, f0_13_6, f0_19_6])

theorem RoundTrip.mulhu (e : Bool) (d : BitVec 6) (a : BitVec 6) (b : BitVec 6) : RoundTrip.Statement (Instr.mulhu e d a b) := RoundTrip.of_word rfl (fun _ => by simp [decode, dec01, fld_op, msb_wordOf, f0_0_7, f0_7_6, f0_13_6, f0_19_6])

theorem RoundTrip.div (e : Bool) (d : BitVec 6) (a : BitVec 6) (b : BitVec 6) : RoundTrip.Statement (Instr.div e d a b) := RoundTrip.of_word rfl (fun _ => by simp [decode, dec01, fld_op, msb_wordOf, f0_0_7, f0_7_6, f0_13_6, f0_19_6])

theorem RoundTrip.divu (e : Bool) (d : BitVec 6) (a : BitVec 6) (b : BitVec 6) : RoundTrip.Statement (Instr.divu e d a b) := RoundTrip.of_word rfl (fun _ => by simp [decode, dec01, fld_op, msb_wordOf, f0_0_7, f0_7_6, f0_13_6, f0_19_6])

theorem RoundTrip.rem (e : Bool) (d : BitVec 6) (a : BitVec 6) (b : BitVec 6) : RoundTrip.Statement (Instr.rem e d a b) := RoundTrip.of_word rfl (fun _ => by simp [decode, dec01, fld_op, msb_wordOf, f0_0_7, f0_7_6, f0_13_6, f0_19_6])

theorem RoundTrip.remu (e : Bool) (d : BitVec 6) (a : BitVec 6) (b : BitVec 6) : RoundTrip.Statement (Instr.remu e d a b) := RoundTrip.of_word rfl (fun _ => by simp [decode, dec01, fld_op, msb_wordOf, f0_0_7, f0_7_6, f0_13_6, f0_19_6])

theorem RoundTrip.andS (e : Bool) (d : BitVec 6) (a : BitVec 6) (b : BitVec 6) : RoundTrip.Statement (Instr.andS e d a b) := RoundTrip.of_word rfl (fun _ => by simp [decode, dec01, fld_op, msb_wordOf, f0_0_7, f0_7_6, f0_13_6, f0_19_6])

theorem RoundTrip.orS (e : Bool) (d : BitVec 6) (a : BitVec 6) (b : BitVec 6) : RoundTrip.Statement (Instr.orS e d a b) := RoundTrip.of_word rfl (fun _ => by simp [decode, dec01, fld_op, msb_wordOf, f0_0_7, f0_7_6, f0_13_6, f0_19_6])

theorem RoundTrip.xorS (e : Bool) (d : BitVec 6) (a : BitVec 6) (b : BitVec 6) : RoundTrip.Statement (Instr.xorS e d a b) := RoundTrip.of_word rfl (fun _ => by simp [decode, dec01, fld_op, msb_wordOf, f0_0_7, f0_7_6, f0_13_6, f0_19_6])

theorem RoundTrip.shl (e : Bool) (d : BitVec 6) (a : BitVec 6) (b : BitVec 6) : RoundTrip.Statement (Instr.shl e d a b) := RoundTrip.of_word rfl (fun _ => by simp [decode, dec01, fld_op, msb_wordOf, f0_0_7, f0_7_6, f0_13_6, f0_19_6])

theorem RoundTrip.shr (e : Bool) (d : BitVec 6) (a : BitVec 6) (b : BitVec 6) : RoundTrip.Statement (Instr.shr e d a b) := RoundTrip.of_word rfl (fun _ => by simp [decode, dec01, fld_op, msb_wordOf, f0_0_7, f0_7_6, f0_13_6, f0_19_6])

theorem RoundTrip.sra (e : Bool) (d : BitVec 6) (a : BitVec 6) (b : BitVec 6) : RoundTrip.Statement (Instr.sra e d a b) := RoundTrip.of_word rfl (fun _ => by simp [decode, dec01, fld_op, msb_wordOf, f0_0_7, f0_7_6, f0_13_6, f0_19_6])

theorem RoundTrip.slt (e : Bool) (d : BitVec 6) (a : BitVec 6) (b : BitVec 6) : RoundTrip.Statement (Instr.slt e d a b) := RoundTrip.of_word rfl (fun _ => by simp [decode, dec01, fld_op, msb_wordOf, f0_0_7, f0_7_6, f0_13_6, f0_19_6])

theorem RoundTrip.sltu (e : Bool) (d : BitVec 6) (a : BitVec 6) (b : BitVec 6) : RoundTrip.Statement (Instr.sltu e d a b) := RoundTrip.of_word rfl (fun _ => by simp [decode, dec01, fld_op, msb_wordOf, f0_0_7, f0_7_6, f0_13_6, f0_19_6])

theorem RoundTrip.minS (e : Bool) (d : BitVec 6) (a : BitVec 6) (b : BitVec 6) : RoundTrip.Statement (Instr.minS e d a b) := RoundTrip.of_word rfl (fun _ => by simp [decode, dec01, fld_op, msb_wordOf, f0_0_7, f0_7_6, f0_13_6, f0_19_6])

theorem RoundTrip.maxS (e : Bool) (d : BitVec 6) (a : BitVec 6) (b : BitVec 6) : RoundTrip.Statement (Instr.maxS e d a b) := RoundTrip.of_word rfl (fun _ => by simp [decode, dec01, fld_op, msb_wordOf, f0_0_7, f0_7_6, f0_13_6, f0_19_6])

theorem RoundTrip.minu (e : Bool) (d : BitVec 6) (a : BitVec 6) (b : BitVec 6) : RoundTrip.Statement (Instr.minu e d a b) := RoundTrip.of_word rfl (fun _ => by simp [decode, dec01, fld_op, msb_wordOf, f0_0_7, f0_7_6, f0_13_6, f0_19_6])

theorem RoundTrip.maxu (e : Bool) (d : BitVec 6) (a : BitVec 6) (b : BitVec 6) : RoundTrip.Statement (Instr.maxu e d a b) := RoundTrip.of_word rfl (fun _ => by simp [decode, dec01, fld_op, msb_wordOf, f0_0_7, f0_7_6, f0_13_6, f0_19_6])

theorem RoundTrip.sextI8 (e : Bool) (d : BitVec 6) (a : BitVec 6) : RoundTrip.Statement (Instr.sextI8 e d a) := RoundTrip.of_word rfl (fun _ => by simp [decode, dec01, fld_op, msb_wordOf, f1_0_7, f1_13_6, f1_19_6])

theorem RoundTrip.sextI16 (e : Bool) (d : BitVec 6) (a : BitVec 6) : RoundTrip.Statement (Instr.sextI16 e d a) := RoundTrip.of_word rfl (fun _ => by simp [decode, dec01, fld_op, msb_wordOf, f1_0_7, f1_13_6, f1_19_6])

theorem RoundTrip.zextU8 (e : Bool) (d : BitVec 6) (a : BitVec 6) : RoundTrip.Statement (Instr.zextU8 e d a) := RoundTrip.of_word rfl (fun _ => by simp [decode, dec01, fld_op, msb_wordOf, f1_0_7, f1_13_6, f1_19_6])

theorem RoundTrip.zextU16 (e : Bool) (d : BitVec 6) (a : BitVec 6) : RoundTrip.Statement (Instr.zextU16 e d a) := RoundTrip.of_word rfl (fun _ => by simp [decode, dec01, fld_op, msb_wordOf, f1_0_7, f1_13_6, f1_19_6])

theorem RoundTrip.addi (e : Bool) (d : BitVec 6) (a : BitVec 6) (imm : BitVec 13) : RoundTrip.Statement (Instr.addi e d a imm) := RoundTrip.of_word rfl (fun _ => by simp [decode, fld_op, msb_wordOf, f2_0_13, f2_13_6, f2_19_6])

theorem RoundTrip.andi (e : Bool) (d : BitVec 6) (a : BitVec 6) (imm : BitVec 13) : RoundTrip.Statement (Instr.andi e d a imm) := RoundTrip.of_word rfl (fun _ => by simp [decode, fld_op, msb_wordOf, f2_0_13, f2_13_6, f2_19_6])

theorem RoundTrip.ori (e : Bool) (d : BitVec 6) (a : BitVec 6) (imm : BitVec 13) : RoundTrip.Statement (Instr.ori e d a imm) := RoundTrip.of_word rfl (fun _ => by simp [decode, fld_op, msb_wordOf, f2_0_13, f2_13_6, f2_19_6])

theorem RoundTrip.xori (e : Bool) (d : BitVec 6) (a : BitVec 6) (imm : BitVec 13) : RoundTrip.Statement (Instr.xori e d a imm) := RoundTrip.of_word rfl (fun _ => by simp [decode, fld_op, msb_wordOf, f2_0_13, f2_13_6, f2_19_6])

theorem RoundTrip.shli (e : Bool) (d : BitVec 6) (a : BitVec 6) (imm : BitVec 13) : RoundTrip.Statement (Instr.shli e d a imm) := RoundTrip.of_word rfl (fun _ => by simp [decode, fld_op, msb_wordOf, f2_0_13, f2_13_6, f2_19_6])

theorem RoundTrip.shri (e : Bool) (d : BitVec 6) (a : BitVec 6) (imm : BitVec 13) : RoundTrip.Statement (Instr.shri e d a imm) := RoundTrip.of_word rfl (fun _ => by simp [decode, fld_op, msb_wordOf, f2_0_13, f2_13_6, f2_19_6])

theorem RoundTrip.srai (e : Bool) (d : BitVec 6) (a : BitVec 6) (imm : BitVec 13) : RoundTrip.Statement (Instr.srai e d a imm) := RoundTrip.of_word rfl (fun _ => by simp [decode, fld_op, msb_wordOf, f2_0_13, f2_13_6, f2_19_6])

theorem RoundTrip.slti (e : Bool) (d : BitVec 6) (a : BitVec 6) (imm : BitVec 13) : RoundTrip.Statement (Instr.slti e d a imm) := RoundTrip.of_word rfl (fun _ => by simp [decode, fld_op, msb_wordOf, f2_0_13, f2_13_6, f2_19_6])

theorem RoundTrip.sltiu (e : Bool) (d : BitVec 6) (a : BitVec 6) (imm : BitVec 13) : RoundTrip.Statement (Instr.sltiu e d a imm) := RoundTrip.of_word rfl (fun _ => by simp [decode, fld_op, msb_wordOf, f2_0_13, f2_13_6, f2_19_6])

theorem RoundTrip.lih (e : Bool) (d : BitVec 6) (imm : BitVec 19) : RoundTrip.Statement (Instr.lih e d imm) := RoundTrip.of_word rfl (fun _ => by simp [decode, fld_op, msb_wordOf, f3_0_19, f3_19_6])

theorem RoundTrip.add64 (e : Bool) (d : BitVec 6) (a : BitVec 6) (b : BitVec 6) : RoundTrip.Statement (Instr.add64 e d a b) := RoundTrip.of_word rfl (fun _ => by simp [decode, dec0C, fld_op, msb_wordOf, f0_0_7, f0_7_6, f0_13_6, f0_19_6])

theorem RoundTrip.sub64 (e : Bool) (d : BitVec 6) (a : BitVec 6) (b : BitVec 6) : RoundTrip.Statement (Instr.sub64 e d a b) := RoundTrip.of_word rfl (fun _ => by simp [decode, dec0C, fld_op, msb_wordOf, f0_0_7, f0_7_6, f0_13_6, f0_19_6])

theorem RoundTrip.shl64 (e : Bool) (d : BitVec 6) (a : BitVec 6) (b : BitVec 6) : RoundTrip.Statement (Instr.shl64 e d a b) := RoundTrip.of_word rfl (fun _ => by simp [decode, dec0C, fld_op, msb_wordOf, f0_0_7, f0_7_6, f0_13_6, f0_19_6])

theorem RoundTrip.shr64 (e : Bool) (d : BitVec 6) (a : BitVec 6) (b : BitVec 6) : RoundTrip.Statement (Instr.shr64 e d a b) := RoundTrip.of_word rfl (fun _ => by simp [decode, dec0C, fld_op, msb_wordOf, f0_0_7, f0_7_6, f0_13_6, f0_19_6])

theorem RoundTrip.popc (e : Bool) (d : BitVec 6) (a : BitVec 6) : RoundTrip.Statement (Instr.popc e d a) := RoundTrip.of_word rfl (fun _ => by simp [decode, dec0C, fld_op, msb_wordOf, f1_0_7, f1_13_6, f1_19_6])

theorem RoundTrip.clz (e : Bool) (d : BitVec 6) (a : BitVec 6) : RoundTrip.Statement (Instr.clz e d a) := RoundTrip.of_word rfl (fun _ => by simp [decode, dec0C, fld_op, msb_wordOf, f1_0_7, f1_13_6, f1_19_6])

theorem RoundTrip.ctz (e : Bool) (d : BitVec 6) (a : BitVec 6) : RoundTrip.Statement (Instr.ctz e d a) := RoundTrip.of_word rfl (fun _ => by simp [decode, dec0C, fld_op, msb_wordOf, f1_0_7, f1_13_6, f1_19_6])

theorem RoundTrip.fns (e : Bool) (d : BitVec 6) (a : BitVec 6) (b : BitVec 6) : RoundTrip.Statement (Instr.fns e d a b) := RoundTrip.of_word rfl (fun _ => by simp [decode, dec0C, fld_op, msb_wordOf, f0_0_7, f0_7_6, f0_13_6, f0_19_6])

theorem RoundTrip.brev (e : Bool) (d : BitVec 6) (a : BitVec 6) : RoundTrip.Statement (Instr.brev e d a) := RoundTrip.of_word rfl (fun _ => by simp [decode, dec0C, fld_op, msb_wordOf, f1_0_7, f1_13_6, f1_19_6])

theorem RoundTrip.popcI64 (e : Bool) (d : BitVec 6) (a : BitVec 6) : RoundTrip.Statement (Instr.popcI64 e d a) := RoundTrip.of_word rfl (fun _ => by simp [decode, dec0C, fld_op, msb_wordOf, f1_0_7, f1_13_6, f1_19_6])

theorem RoundTrip.clzI64 (e : Bool) (d : BitVec 6) (a : BitVec 6) : RoundTrip.Statement (Instr.clzI64 e d a) := RoundTrip.of_word rfl (fun _ => by simp [decode, dec0C, fld_op, msb_wordOf, f1_0_7, f1_13_6, f1_19_6])

theorem RoundTrip.ctzI64 (e : Bool) (d : BitVec 6) (a : BitVec 6) : RoundTrip.Statement (Instr.ctzI64 e d a) := RoundTrip.of_word rfl (fun _ => by simp [decode, dec0C, fld_op, msb_wordOf, f1_0_7, f1_13_6, f1_19_6])

theorem RoundTrip.fnsI64 (e : Bool) (d : BitVec 6) (a : BitVec 6) (b : BitVec 6) : RoundTrip.Statement (Instr.fnsI64 e d a b) := RoundTrip.of_word rfl (fun _ => by simp [decode, dec0C, fld_op, msb_wordOf, f0_0_7, f0_7_6, f0_13_6, f0_19_6])

theorem RoundTrip.brevI64 (e : Bool) (d : BitVec 6) (a : BitVec 6) : RoundTrip.Statement (Instr.brevI64 e d a) := RoundTrip.of_word rfl (fun _ => by simp [decode, dec0C, fld_op, msb_wordOf, f1_0_7, f1_13_6, f1_19_6])

theorem RoundTrip.vadd (e : Bool) (d : BitVec 6) (a : BitVec 6) (b : BitVec 6) (p : BitVec 3) : RoundTrip.Statement (Instr.vadd e d a b p) := RoundTrip.of_word rfl (fun _ => by simp [decode, dec10, fld_op, msb_wordOf, f4_0_3, f4_3_4, f4_7_6, f4_13_6, f4_19_6])

theorem RoundTrip.vsub (e : Bool) (d : BitVec 6) (a : BitVec 6) (b : BitVec 6) (p : BitVec 3) : RoundTrip.Statement (Instr.vsub e d a b p) := RoundTrip.of_word rfl (fun _ => by simp [decode, dec10, fld_op, msb_wordOf, f4_0_3, f4_3_4, f4_7_6, f4_13_6, f4_19_6])

theorem RoundTrip.vmul (e : Bool) (d : BitVec 6) (a : BitVec 6) (b : BitVec 6) (p : BitVec 3) : RoundTrip.Statement (Instr.vmul e d a b p) := RoundTrip.of_word rfl (fun _ => by simp [decode, dec10, fld_op, msb_wordOf, f4_0_3, f4_3_4, f4_7_6, f4_13_6, f4_19_6])

theorem RoundTrip.vmulh (e : Bool) (d : BitVec 6) (a : BitVec 6) (b : BitVec 6) (p : BitVec 3) : RoundTrip.Statement (Instr.vmulh e d a b p) := RoundTrip.of_word rfl (fun _ => by simp [decode, dec10, fld_op, msb_wordOf, f4_0_3, f4_3_4, f4_7_6, f4_13_6, f4_19_6])

theorem RoundTrip.vmulhu (e : Bool) (d : BitVec 6) (a : BitVec 6) (b : BitVec 6) (p : BitVec 3) : RoundTrip.Statement (Instr.vmulhu e d a b p) := RoundTrip.of_word rfl (fun _ => by simp [decode, dec10, fld_op, msb_wordOf, f4_0_3, f4_3_4, f4_7_6, f4_13_6, f4_19_6])

theorem RoundTrip.vand (e : Bool) (d : BitVec 6) (a : BitVec 6) (b : BitVec 6) (p : BitVec 3) : RoundTrip.Statement (Instr.vand e d a b p) := RoundTrip.of_word rfl (fun _ => by simp [decode, dec10, fld_op, msb_wordOf, f4_0_3, f4_3_4, f4_7_6, f4_13_6, f4_19_6])

theorem RoundTrip.vor (e : Bool) (d : BitVec 6) (a : BitVec 6) (b : BitVec 6) (p : BitVec 3) : RoundTrip.Statement (Instr.vor e d a b p) := RoundTrip.of_word rfl (fun _ => by simp [decode, dec10, fld_op, msb_wordOf, f4_0_3, f4_3_4, f4_7_6, f4_13_6, f4_19_6])

theorem RoundTrip.vxor (e : Bool) (d : BitVec 6) (a : BitVec 6) (b : BitVec 6) (p : BitVec 3) : RoundTrip.Statement (Instr.vxor e d a b p) := RoundTrip.of_word rfl (fun _ => by simp [decode, dec10, fld_op, msb_wordOf, f4_0_3, f4_3_4, f4_7_6, f4_13_6, f4_19_6])

theorem RoundTrip.vshl (e : Bool) (d : BitVec 6) (a : BitVec 6) (b : BitVec 6) (p : BitVec 3) : RoundTrip.Statement (Instr.vshl e d a b p) := RoundTrip.of_word rfl (fun _ => by simp [decode, dec10, fld_op, msb_wordOf, f4_0_3, f4_3_4, f4_7_6, f4_13_6, f4_19_6])

theorem RoundTrip.vshr (e : Bool) (d : BitVec 6) (a : BitVec 6) (b : BitVec 6) (p : BitVec 3) : RoundTrip.Statement (Instr.vshr e d a b p) := RoundTrip.of_word rfl (fun _ => by simp [decode, dec10, fld_op, msb_wordOf, f4_0_3, f4_3_4, f4_7_6, f4_13_6, f4_19_6])

theorem RoundTrip.vsra (e : Bool) (d : BitVec 6) (a : BitVec 6) (b : BitVec 6) (p : BitVec 3) : RoundTrip.Statement (Instr.vsra e d a b p) := RoundTrip.of_word rfl (fun _ => by simp [decode, dec10, fld_op, msb_wordOf, f4_0_3, f4_3_4, f4_7_6, f4_13_6, f4_19_6])

theorem RoundTrip.vmin (e : Bool) (d : BitVec 6) (a : BitVec 6) (b : BitVec 6) (p : BitVec 3) : RoundTrip.Statement (Instr.vmin e d a b p) := RoundTrip.of_word rfl (fun _ => by simp [decode, dec10, fld_op, msb_wordOf, f4_0_3, f4_3_4, f4_7_6, f4_13_6, f4_19_6])

theorem RoundTrip.vmax (e : Bool) (d : BitVec 6) (a : BitVec 6) (b : BitVec 6) (p : BitVec 3) : RoundTrip.Statement (Instr.vmax e d a b p) := RoundTrip.of_word rfl (fun _ => by simp [decode, dec10, fld_op, msb_wordOf, f4_0_3, f4_3_4, f4_7_6, f4_13_6, f4_19_6])

theorem RoundTrip.vminu (e : Bool) (d : BitVec 6) (a : BitVec 6) (b : BitVec 6) (p : BitVec 3) : RoundTrip.Statement (Instr.vminu e d a b p) := RoundTrip.of_word rfl (fun _ => by simp [decode, dec10, fld_op, msb_wordOf, f4_0_3, f4_3_4, f4_7_6, f4_13_6, f4_19_6])

theorem RoundTrip.vmaxu (e : Bool) (d : BitVec 6) (a : BitVec 6) (b : BitVec 6) (p : BitVec 3) : RoundTrip.Statement (Instr.vmaxu e d a b p) := RoundTrip.of_word rfl (fun _ => by simp [decode, dec10, fld_op, msb_wordOf, f4_0_3, f4_3_4, f4_7_6, f4_13_6, f4_19_6])

theorem RoundTrip.vsel (e : Bool) (d : BitVec 6) (a : BitVec 6) (b : BitVec 6) (p : BitVec 3) : RoundTrip.Statement (Instr.vsel e d a b p) := RoundTrip.of_word rfl (fun _ => by simp [decode, dec10, fld_op, msb_wordOf, f4_0_3, f4_3_4, f4_7_6, f4_13_6, f4_19_6])

theorem RoundTrip.vaddI16x2 (e : Bool) (d : BitVec 6) (a : BitVec 6) (b : BitVec 6) (p : BitVec 3) : RoundTrip.Statement (Instr.vaddI16x2 e d a b p) := RoundTrip.of_word rfl (fun _ => by simp [decode, dec11, fld_op, msb_wordOf, f4_0_3, f4_3_4, f4_7_6, f4_13_6, f4_19_6])

theorem RoundTrip.vsubI16x2 (e : Bool) (d : BitVec 6) (a : BitVec 6) (b : BitVec 6) (p : BitVec 3) : RoundTrip.Statement (Instr.vsubI16x2 e d a b p) := RoundTrip.of_word rfl (fun _ => by simp [decode, dec11, fld_op, msb_wordOf, f4_0_3, f4_3_4, f4_7_6, f4_13_6, f4_19_6])

theorem RoundTrip.vmulI16x2 (e : Bool) (d : BitVec 6) (a : BitVec 6) (b : BitVec 6) (p : BitVec 3) : RoundTrip.Statement (Instr.vmulI16x2 e d a b p) := RoundTrip.of_word rfl (fun _ => by simp [decode, dec11, fld_op, msb_wordOf, f4_0_3, f4_3_4, f4_7_6, f4_13_6, f4_19_6])

theorem RoundTrip.vshlI16x2 (e : Bool) (d : BitVec 6) (a : BitVec 6) (b : BitVec 6) (p : BitVec 3) : RoundTrip.Statement (Instr.vshlI16x2 e d a b p) := RoundTrip.of_word rfl (fun _ => by simp [decode, dec11, fld_op, msb_wordOf, f4_0_3, f4_3_4, f4_7_6, f4_13_6, f4_19_6])

theorem RoundTrip.vshrI16x2 (e : Bool) (d : BitVec 6) (a : BitVec 6) (b : BitVec 6) (p : BitVec 3) : RoundTrip.Statement (Instr.vshrI16x2 e d a b p) := RoundTrip.of_word rfl (fun _ => by simp [decode, dec11, fld_op, msb_wordOf, f4_0_3, f4_3_4, f4_7_6, f4_13_6, f4_19_6])

theorem RoundTrip.vsraI16x2 (e : Bool) (d : BitVec 6) (a : BitVec 6) (b : BitVec 6) (p : BitVec 3) : RoundTrip.Statement (Instr.vsraI16x2 e d a b p) := RoundTrip.of_word rfl (fun _ => by simp [decode, dec11, fld_op, msb_wordOf, f4_0_3, f4_3_4, f4_7_6, f4_13_6, f4_19_6])

theorem RoundTrip.vminI16x2 (e : Bool) (d : BitVec 6) (a : BitVec 6) (b : BitVec 6) (p : BitVec 3) : RoundTrip.Statement (Instr.vminI16x2 e d a b p) := RoundTrip.of_word rfl (fun _ => by simp [decode, dec11, fld_op, msb_wordOf, f4_0_3, f4_3_4, f4_7_6, f4_13_6, f4_19_6])

theorem RoundTrip.vmaxI16x2 (e : Bool) (d : BitVec 6) (a : BitVec 6) (b : BitVec 6) (p : BitVec 3) : RoundTrip.Statement (Instr.vmaxI16x2 e d a b p) := RoundTrip.of_word rfl (fun _ => by simp [decode, dec11, fld_op, msb_wordOf, f4_0_3, f4_3_4, f4_7_6, f4_13_6, f4_19_6])

theorem RoundTrip.vminuU16x2 (e : Bool) (d : BitVec 6) (a : BitVec 6) (b : BitVec 6) (p : BitVec 3) : RoundTrip.Statement (Instr.vminuU16x2 e d a b p) := RoundTrip.of_word rfl (fun _ => by simp [decode, dec11, fld_op, msb_wordOf, f4_0_3, f4_3_4, f4_7_6, f4_13_6, f4_19_6])

theorem RoundTrip.vmaxuU16x2 (e : Bool) (d : BitVec 6) (a : BitVec 6) (b : BitVec 6) (p : BitVec 3) : RoundTrip.Statement (Instr.vmaxuU16x2 e d a b p) := RoundTrip.of_word rfl (fun _ => by simp [decode, dec11, fld_op, msb_wordOf, f4_0_3, f4_3_4, f4_7_6, f4_13_6, f4_19_6])

theorem RoundTrip.vmad (e : Bool) (d : BitVec 6) (a : BitVec 6) (b : BitVec 6) (p : BitVec 3) : RoundTrip.Statement (Instr.vmad e d a b p) := RoundTrip.of_word rfl (fun _ => by simp [decode, dec12, fld_op, msb_wordOf, f4_0_3, f4_3_4, f4_7_6, f4_13_6, f4_19_6])

theorem RoundTrip.vbcs (e : Bool) (d : BitVec 6) (a : BitVec 6) (p : BitVec 3) : RoundTrip.Statement (Instr.vbcs e d a p) := RoundTrip.of_word rfl (fun _ => by simp [decode, dec12, fld_op, msb_wordOf, f5_0_3, f5_3_4, f5_13_6, f5_19_6])

theorem RoundTrip.vlane (e : Bool) (d : BitVec 6) (p : BitVec 3) : RoundTrip.Statement (Instr.vlane e d p) := RoundTrip.of_word rfl (fun _ => by simp [decode, dec12, fld_op, msb_wordOf, f6_0_3, f6_3_4, f6_19_6])

theorem RoundTrip.vpopc (e : Bool) (d : BitVec 6) (a : BitVec 6) (p : BitVec 3) : RoundTrip.Statement (Instr.vpopc e d a p) := RoundTrip.of_word rfl (fun _ => by simp [decode, dec12, fld_op, msb_wordOf, f5_0_3, f5_3_4, f5_13_6, f5_19_6])

theorem RoundTrip.vclz (e : Bool) (d : BitVec 6) (a : BitVec 6) (p : BitVec 3) : RoundTrip.Statement (Instr.vclz e d a p) := RoundTrip.of_word rfl (fun _ => by simp [decode, dec12, fld_op, msb_wordOf, f5_0_3, f5_3_4, f5_13_6, f5_19_6])

theorem RoundTrip.vctz (e : Bool) (d : BitVec 6) (a : BitVec 6) (p : BitVec 3) : RoundTrip.Statement (Instr.vctz e d a p) := RoundTrip.of_word rfl (fun _ => by simp [decode, dec12, fld_op, msb_wordOf, f5_0_3, f5_3_4, f5_13_6, f5_19_6])

theorem RoundTrip.vfns (e : Bool) (d : BitVec 6) (a : BitVec 6) (b : BitVec 6) (p : BitVec 3) : RoundTrip.Statement (Instr.vfns e d a b p) := RoundTrip.of_word rfl (fun _ => by simp [decode, dec12, fld_op, msb_wordOf, f4_0_3, f4_3_4, f4_7_6, f4_13_6, f4_19_6])

theorem RoundTrip.vbrev (e : Bool) (d : BitVec 6) (a : BitVec 6) (p : BitVec 3) : RoundTrip.Statement (Instr.vbrev e d a p) := RoundTrip.of_word rfl (fun _ => by simp [decode, dec12, fld_op, msb_wordOf, f5_0_3, f5_3_4, f5_13_6, f5_19_6])

theorem RoundTrip.vpopcI64 (e : Bool) (d : BitVec 6) (a : BitVec 6) (p : BitVec 3) : RoundTrip.Statement (Instr.vpopcI64 e d a p) := RoundTrip.of_word rfl (fun _ => by simp [decode, dec12, fld_op, msb_wordOf, f5_0_3, f5_3_4, f5_13_6, f5_19_6])

theorem RoundTrip.vclzI64 (e : Bool) (d : BitVec 6) (a : BitVec 6) (p : BitVec 3) : RoundTrip.Statement (Instr.vclzI64 e d a p) := RoundTrip.of_word rfl (fun _ => by simp [decode, dec12, fld_op, msb_wordOf, f5_0_3, f5_3_4, f5_13_6, f5_19_6])

theorem RoundTrip.vctzI64 (e : Bool) (d : BitVec 6) (a : BitVec 6) (p : BitVec 3) : RoundTrip.Statement (Instr.vctzI64 e d a p) := RoundTrip.of_word rfl (fun _ => by simp [decode, dec12, fld_op, msb_wordOf, f5_0_3, f5_3_4, f5_13_6, f5_19_6])

theorem RoundTrip.vfnsI64 (e : Bool) (d : BitVec 6) (a : BitVec 6) (b : BitVec 6) (p : BitVec 3) : RoundTrip.Statement (Instr.vfnsI64 e d a b p) := RoundTrip.of_word rfl (fun _ => by simp [decode, dec12, fld_op, msb_wordOf, f4_0_3, f4_3_4, f4_7_6, f4_13_6, f4_19_6])

theorem RoundTrip.vbrevI64 (e : Bool) (d : BitVec 6) (a : BitVec 6) (p : BitVec 3) : RoundTrip.Statement (Instr.vbrevI64 e d a p) := RoundTrip.of_word rfl (fun _ => by simp [decode, dec12, fld_op, msb_wordOf, f5_0_3, f5_3_4, f5_13_6, f5_19_6])

theorem RoundTrip.vcmp (e : Bool) (d : BitVec 3) (a : BitVec 6) (b : BitVec 6) (c : BitVec 4) (p : BitVec 3) : RoundTrip.Statement (Instr.vcmp e d a b c p) := RoundTrip.of_word rfl (fun h => by
  simp [Instr.wellFormed] at h
  simp [decode, fld_op, msb_wordOf, f7_0_3, f7_3_4, f7_7_6, f7_13_6, f7_19_3, h])

theorem RoundTrip.vfadd (e : Bool) (d : BitVec 6) (a : BitVec 6) (b : BitVec 6) (p : BitVec 3) : RoundTrip.Statement (Instr.vfadd e d a b p) := RoundTrip.of_word rfl (fun _ => by simp [decode, dec14, fld_op, msb_wordOf, f4_0_3, f4_3_4, f4_7_6, f4_13_6, f4_19_6])

theorem RoundTrip.vfsub (e : Bool) (d : BitVec 6) (a : BitVec 6) (b : BitVec 6) (p : BitVec 3) : RoundTrip.Statement (Instr.vfsub e d a b p) := RoundTrip.of_word rfl (fun _ => by simp [decode, dec14, fld_op, msb_wordOf, f4_0_3, f4_3_4, f4_7_6, f4_13_6, f4_19_6])

theorem RoundTrip.vfmul (e : Bool) (d : BitVec 6) (a : BitVec 6) (b : BitVec 6) (p : BitVec 3) : RoundTrip.Statement (Instr.vfmul e d a b p) := RoundTrip.of_word rfl (fun _ => by simp [decode, dec14, fld_op, msb_wordOf, f4_0_3, f4_3_4, f4_7_6, f4_13_6, f4_19_6])

theorem RoundTrip.vfma (e : Bool) (d : BitVec 6) (a : BitVec 6) (b : BitVec 6) (p : BitVec 3) : RoundTrip.Statement (Instr.vfma e d a b p) := RoundTrip.of_word rfl (fun _ => by simp [decode, dec14, fld_op, msb_wordOf, f4_0_3, f4_3_4, f4_7_6, f4_13_6, f4_19_6])

theorem RoundTrip.vfnma (e : Bool) (d : BitVec 6) (a : BitVec 6) (b : BitVec 6) (p : BitVec 3) : RoundTrip.Statement (Instr.vfnma e d a b p) := RoundTrip.of_word rfl (fun _ => by simp [decode, dec14, fld_op, msb_wordOf, f4_0_3, f4_3_4, f4_7_6, f4_13_6, f4_19_6])

theorem RoundTrip.vfmin (e : Bool) (d : BitVec 6) (a : BitVec 6) (b : BitVec 6) (p : BitVec 3) : RoundTrip.Statement (Instr.vfmin e d a b p) := RoundTrip.of_word rfl (fun _ => by simp [decode, dec14, fld_op, msb_wordOf, f4_0_3, f4_3_4, f4_7_6, f4_13_6, f4_19_6])

theorem RoundTrip.vfmax (e : Bool) (d : BitVec 6) (a : BitVec 6) (b : BitVec 6) (p : BitVec 3) : RoundTrip.Statement (Instr.vfmax e d a b p) := RoundTrip.of_word rfl (fun _ => by simp [decode, dec14, fld_op, msb_wordOf, f4_0_3, f4_3_4, f4_7_6, f4_13_6, f4_19_6])

theorem RoundTrip.vfaddF16x2 (e : Bool) (d : BitVec 6) (a : BitVec 6) (b : BitVec 6) (p : BitVec 3) : RoundTrip.Statement (Instr.vfaddF16x2 e d a b p) := RoundTrip.of_word rfl (fun _ => by simp [decode, dec15, fld_op, msb_wordOf, f4_0_3, f4_3_4, f4_7_6, f4_13_6, f4_19_6])

theorem RoundTrip.vfsubF16x2 (e : Bool) (d : BitVec 6) (a : BitVec 6) (b : BitVec 6) (p : BitVec 3) : RoundTrip.Statement (Instr.vfsubF16x2 e d a b p) := RoundTrip.of_word rfl (fun _ => by simp [decode, dec15, fld_op, msb_wordOf, f4_0_3, f4_3_4, f4_7_6, f4_13_6, f4_19_6])

theorem RoundTrip.vfmulF16x2 (e : Bool) (d : BitVec 6) (a : BitVec 6) (b : BitVec 6) (p : BitVec 3) : RoundTrip.Statement (Instr.vfmulF16x2 e d a b p) := RoundTrip.of_word rfl (fun _ => by simp [decode, dec15, fld_op, msb_wordOf, f4_0_3, f4_3_4, f4_7_6, f4_13_6, f4_19_6])

theorem RoundTrip.vfmaF16x2 (e : Bool) (d : BitVec 6) (a : BitVec 6) (b : BitVec 6) (p : BitVec 3) : RoundTrip.Statement (Instr.vfmaF16x2 e d a b p) := RoundTrip.of_word rfl (fun _ => by simp [decode, dec15, fld_op, msb_wordOf, f4_0_3, f4_3_4, f4_7_6, f4_13_6, f4_19_6])

theorem RoundTrip.vfnmaF16x2 (e : Bool) (d : BitVec 6) (a : BitVec 6) (b : BitVec 6) (p : BitVec 3) : RoundTrip.Statement (Instr.vfnmaF16x2 e d a b p) := RoundTrip.of_word rfl (fun _ => by simp [decode, dec15, fld_op, msb_wordOf, f4_0_3, f4_3_4, f4_7_6, f4_13_6, f4_19_6])

theorem RoundTrip.vfminF16x2 (e : Bool) (d : BitVec 6) (a : BitVec 6) (b : BitVec 6) (p : BitVec 3) : RoundTrip.Statement (Instr.vfminF16x2 e d a b p) := RoundTrip.of_word rfl (fun _ => by simp [decode, dec15, fld_op, msb_wordOf, f4_0_3, f4_3_4, f4_7_6, f4_13_6, f4_19_6])

theorem RoundTrip.vfmaxF16x2 (e : Bool) (d : BitVec 6) (a : BitVec 6) (b : BitVec 6) (p : BitVec 3) : RoundTrip.Statement (Instr.vfmaxF16x2 e d a b p) := RoundTrip.of_word rfl (fun _ => by simp [decode, dec15, fld_op, msb_wordOf, f4_0_3, f4_3_4, f4_7_6, f4_13_6, f4_19_6])

theorem RoundTrip.vfaddF16 (e : Bool) (d : BitVec 6) (a : BitVec 6) (b : BitVec 6) (p : BitVec 3) : RoundTrip.Statement (Instr.vfaddF16 e d a b p) := RoundTrip.of_word rfl (fun _ => by simp [decode, dec15, fld_op, msb_wordOf, f4_0_3, f4_3_4, f4_7_6, f4_13_6, f4_19_6])

theorem RoundTrip.vfsubF16 (e : Bool) (d : BitVec 6) (a : BitVec 6) (b : BitVec 6) (p : BitVec 3) : RoundTrip.Statement (Instr.vfsubF16 e d a b p) := RoundTrip.of_word rfl (fun _ => by simp [decode, dec15, fld_op, msb_wordOf, f4_0_3, f4_3_4, f4_7_6, f4_13_6, f4_19_6])

theorem RoundTrip.vfmulF16 (e : Bool) (d : BitVec 6) (a : BitVec 6) (b : BitVec 6) (p : BitVec 3) : RoundTrip.Statement (Instr.vfmulF16 e d a b p) := RoundTrip.of_word rfl (fun _ => by simp [decode, dec15, fld_op, msb_wordOf, f4_0_3, f4_3_4, f4_7_6, f4_13_6, f4_19_6])

theorem RoundTrip.vfmaF16 (e : Bool) (d : BitVec 6) (a : BitVec 6) (b : BitVec 6) (p : BitVec 3) : RoundTrip.Statement (Instr.vfmaF16 e d a b p) := RoundTrip.of_word rfl (fun _ => by simp [decode, dec15, fld_op, msb_wordOf, f4_0_3, f4_3_4, f4_7_6, f4_13_6, f4_19_6])

theorem RoundTrip.vfnmaF16 (e : Bool) (d : BitVec 6) (a : BitVec 6) (b : BitVec 6) (p : BitVec 3) : RoundTrip.Statement (Instr.vfnmaF16 e d a b p) := RoundTrip.of_word rfl (fun _ => by simp [decode, dec15, fld_op, msb_wordOf, f4_0_3, f4_3_4, f4_7_6, f4_13_6, f4_19_6])

theorem RoundTrip.vfminF16 (e : Bool) (d : BitVec 6) (a : BitVec 6) (b : BitVec 6) (p : BitVec 3) : RoundTrip.Statement (Instr.vfminF16 e d a b p) := RoundTrip.of_word rfl (fun _ => by simp [decode, dec15, fld_op, msb_wordOf, f4_0_3, f4_3_4, f4_7_6, f4_13_6, f4_19_6])

theorem RoundTrip.vfmaxF16 (e : Bool) (d : BitVec 6) (a : BitVec 6) (b : BitVec 6) (p : BitVec 3) : RoundTrip.Statement (Instr.vfmaxF16 e d a b p) := RoundTrip.of_word rfl (fun _ => by simp [decode, dec15, fld_op, msb_wordOf, f4_0_3, f4_3_4, f4_7_6, f4_13_6, f4_19_6])

theorem RoundTrip.vfaddBf16x2 (e : Bool) (d : BitVec 6) (a : BitVec 6) (b : BitVec 6) (p : BitVec 3) : RoundTrip.Statement (Instr.vfaddBf16x2 e d a b p) := RoundTrip.of_word rfl (fun _ => by simp [decode, dec16, fld_op, msb_wordOf, f4_0_3, f4_3_4, f4_7_6, f4_13_6, f4_19_6])

theorem RoundTrip.vfsubBf16x2 (e : Bool) (d : BitVec 6) (a : BitVec 6) (b : BitVec 6) (p : BitVec 3) : RoundTrip.Statement (Instr.vfsubBf16x2 e d a b p) := RoundTrip.of_word rfl (fun _ => by simp [decode, dec16, fld_op, msb_wordOf, f4_0_3, f4_3_4, f4_7_6, f4_13_6, f4_19_6])

theorem RoundTrip.vfmulBf16x2 (e : Bool) (d : BitVec 6) (a : BitVec 6) (b : BitVec 6) (p : BitVec 3) : RoundTrip.Statement (Instr.vfmulBf16x2 e d a b p) := RoundTrip.of_word rfl (fun _ => by simp [decode, dec16, fld_op, msb_wordOf, f4_0_3, f4_3_4, f4_7_6, f4_13_6, f4_19_6])

theorem RoundTrip.vfmaBf16x2 (e : Bool) (d : BitVec 6) (a : BitVec 6) (b : BitVec 6) (p : BitVec 3) : RoundTrip.Statement (Instr.vfmaBf16x2 e d a b p) := RoundTrip.of_word rfl (fun _ => by simp [decode, dec16, fld_op, msb_wordOf, f4_0_3, f4_3_4, f4_7_6, f4_13_6, f4_19_6])

theorem RoundTrip.vfnmaBf16x2 (e : Bool) (d : BitVec 6) (a : BitVec 6) (b : BitVec 6) (p : BitVec 3) : RoundTrip.Statement (Instr.vfnmaBf16x2 e d a b p) := RoundTrip.of_word rfl (fun _ => by simp [decode, dec16, fld_op, msb_wordOf, f4_0_3, f4_3_4, f4_7_6, f4_13_6, f4_19_6])

theorem RoundTrip.vfminBf16x2 (e : Bool) (d : BitVec 6) (a : BitVec 6) (b : BitVec 6) (p : BitVec 3) : RoundTrip.Statement (Instr.vfminBf16x2 e d a b p) := RoundTrip.of_word rfl (fun _ => by simp [decode, dec16, fld_op, msb_wordOf, f4_0_3, f4_3_4, f4_7_6, f4_13_6, f4_19_6])

theorem RoundTrip.vfmaxBf16x2 (e : Bool) (d : BitVec 6) (a : BitVec 6) (b : BitVec 6) (p : BitVec 3) : RoundTrip.Statement (Instr.vfmaxBf16x2 e d a b p) := RoundTrip.of_word rfl (fun _ => by simp [decode, dec16, fld_op, msb_wordOf, f4_0_3, f4_3_4, f4_7_6, f4_13_6, f4_19_6])

theorem RoundTrip.vfaddBf16 (e : Bool) (d : BitVec 6) (a : BitVec 6) (b : BitVec 6) (p : BitVec 3) : RoundTrip.Statement (Instr.vfaddBf16 e d a b p) := RoundTrip.of_word rfl (fun _ => by simp [decode, dec16, fld_op, msb_wordOf, f4_0_3, f4_3_4, f4_7_6, f4_13_6, f4_19_6])

theorem RoundTrip.vfsubBf16 (e : Bool) (d : BitVec 6) (a : BitVec 6) (b : BitVec 6) (p : BitVec 3) : RoundTrip.Statement (Instr.vfsubBf16 e d a b p) := RoundTrip.of_word rfl (fun _ => by simp [decode, dec16, fld_op, msb_wordOf, f4_0_3, f4_3_4, f4_7_6, f4_13_6, f4_19_6])

theorem RoundTrip.vfmulBf16 (e : Bool) (d : BitVec 6) (a : BitVec 6) (b : BitVec 6) (p : BitVec 3) : RoundTrip.Statement (Instr.vfmulBf16 e d a b p) := RoundTrip.of_word rfl (fun _ => by simp [decode, dec16, fld_op, msb_wordOf, f4_0_3, f4_3_4, f4_7_6, f4_13_6, f4_19_6])

theorem RoundTrip.vfmaBf16 (e : Bool) (d : BitVec 6) (a : BitVec 6) (b : BitVec 6) (p : BitVec 3) : RoundTrip.Statement (Instr.vfmaBf16 e d a b p) := RoundTrip.of_word rfl (fun _ => by simp [decode, dec16, fld_op, msb_wordOf, f4_0_3, f4_3_4, f4_7_6, f4_13_6, f4_19_6])

theorem RoundTrip.vfnmaBf16 (e : Bool) (d : BitVec 6) (a : BitVec 6) (b : BitVec 6) (p : BitVec 3) : RoundTrip.Statement (Instr.vfnmaBf16 e d a b p) := RoundTrip.of_word rfl (fun _ => by simp [decode, dec16, fld_op, msb_wordOf, f4_0_3, f4_3_4, f4_7_6, f4_13_6, f4_19_6])

theorem RoundTrip.vfminBf16 (e : Bool) (d : BitVec 6) (a : BitVec 6) (b : BitVec 6) (p : BitVec 3) : RoundTrip.Statement (Instr.vfminBf16 e d a b p) := RoundTrip.of_word rfl (fun _ => by simp [decode, dec16, fld_op, msb_wordOf, f4_0_3, f4_3_4, f4_7_6, f4_13_6, f4_19_6])

theorem RoundTrip.vfmaxBf16 (e : Bool) (d : BitVec 6) (a : BitVec 6) (b : BitVec 6) (p : BitVec 3) : RoundTrip.Statement (Instr.vfmaxBf16 e d a b p) := RoundTrip.of_word rfl (fun _ => by simp [decode, dec16, fld_op, msb_wordOf, f4_0_3, f4_3_4, f4_7_6, f4_13_6, f4_19_6])

theorem RoundTrip.vfcmpF32 (e : Bool) (d : BitVec 3) (a : BitVec 6) (b : BitVec 6) (c : BitVec 3) (p : BitVec 3) : RoundTrip.Statement (Instr.vfcmpF32 e d a b c p) := RoundTrip.of_word rfl (fun h => by
  simp [Instr.wellFormed] at h
  simp [decode, dec17, fld_op, msb_wordOf, f8_0_3, f8_3_3, f8_6_1, f8_7_6, f8_13_6, f8_19_3, h])

theorem RoundTrip.vfcmpF16 (e : Bool) (d : BitVec 3) (a : BitVec 6) (b : BitVec 6) (c : BitVec 3) (p : BitVec 3) : RoundTrip.Statement (Instr.vfcmpF16 e d a b c p) := RoundTrip.of_word rfl (fun h => by
  simp [Instr.wellFormed] at h
  simp [decode, dec17, fld_op, msb_wordOf, f8_0_3, f8_3_3, f8_6_1, f8_7_6, f8_13_6, f8_19_3, h])

theorem RoundTrip.vfrcp (e : Bool) (d : BitVec 6) (a : BitVec 6) (p : BitVec 3) : RoundTrip.Statement (Instr.vfrcp e d a p) := RoundTrip.of_word rfl (fun _ => by simp [decode, dec18, fld_op, msb_wordOf, f5_0_3, f5_3_4, f5_13_6, f5_19_6])

theorem RoundTrip.vfrsq (e : Bool) (d : BitVec 6) (a : BitVec 6) (p : BitVec 3) : RoundTrip.Statement (Instr.vfrsq e d a p) := RoundTrip.of_word rfl (fun _ => by simp [decode, dec18, fld_op, msb_wordOf, f5_0_3, f5_3_4, f5_13_6, f5_19_6])

theorem RoundTrip.vfexp2 (e : Bool) (d : BitVec 6) (a : BitVec 6) (p : BitVec 3) : RoundTrip.Statement (Instr.vfexp2 e d a p) := RoundTrip.of_word rfl (fun _ => by simp [decode, dec18, fld_op, msb_wordOf, f5_0_3, f5_3_4, f5_13_6, f5_19_6])

theorem RoundTrip.vflog2 (e : Bool) (d : BitVec 6) (a : BitVec 6) (p : BitVec 3) : RoundTrip.Statement (Instr.vflog2 e d a p) := RoundTrip.of_word rfl (fun _ => by simp [decode, dec18, fld_op, msb_wordOf, f5_0_3, f5_3_4, f5_13_6, f5_19_6])

theorem RoundTrip.vfsin (e : Bool) (d : BitVec 6) (a : BitVec 6) (p : BitVec 3) : RoundTrip.Statement (Instr.vfsin e d a p) := RoundTrip.of_word rfl (fun _ => by simp [decode, dec18, fld_op, msb_wordOf, f5_0_3, f5_3_4, f5_13_6, f5_19_6])

theorem RoundTrip.vfcos (e : Bool) (d : BitVec 6) (a : BitVec 6) (p : BitVec 3) : RoundTrip.Statement (Instr.vfcos e d a p) := RoundTrip.of_word rfl (fun _ => by simp [decode, dec18, fld_op, msb_wordOf, f5_0_3, f5_3_4, f5_13_6, f5_19_6])

theorem RoundTrip.vcvt (e : Bool) (d : BitVec 6) (a : BitVec 6) (src : BitVec 4) (dst : BitVec 4) (p : BitVec 3) : RoundTrip.Statement (Instr.vcvt e d a src dst p) := RoundTrip.of_word rfl (fun h => by
  simp [Instr.wellFormed] at h
  simp [decode, dec19, fld_op, msb_wordOf, f9_0_3, f9_3_4, f9_7_4, f9_13_6, f9_19_6, h]
  split <;> first | omega | rfl)

theorem RoundTrip.vqpack (e : Bool) (d : BitVec 6) (a : BitVec 6) (b : BitVec 6) (p : BitVec 3) : RoundTrip.Statement (Instr.vqpack e d a b p) := RoundTrip.of_word rfl (fun _ => by simp [decode, dec19, fld_op, msb_wordOf, f4_0_3, f4_3_4, f4_7_6, f4_13_6, f4_19_6])

theorem RoundTrip.vqunp (e : Bool) (d : BitVec 6) (a : BitVec 6) (b : BitVec 6) (p : BitVec 3) : RoundTrip.Statement (Instr.vqunp e d a b p) := RoundTrip.of_word rfl (fun _ => by simp [decode, dec19, fld_op, msb_wordOf, f4_0_3, f4_3_4, f4_7_6, f4_13_6, f4_19_6])

theorem RoundTrip.vxch (e : Bool) (d : BitVec 6) (a : BitVec 6) (g : BitVec 3) (p : BitVec 3) : RoundTrip.Statement (Instr.vxch e d a g p) := RoundTrip.of_word rfl (fun _ => by simp [decode, dec1A, fld_op, msb_wordOf, f10_0_3, f10_3_4, f10_7_3, f10_13_6, f10_19_6])

theorem RoundTrip.vshfl (e : Bool) (d : BitVec 6) (a : BitVec 6) (b : BitVec 6) (p : BitVec 3) : RoundTrip.Statement (Instr.vshfl e d a b p) := RoundTrip.of_word rfl (fun _ => by simp [decode, dec1A, fld_op, msb_wordOf, f4_0_3, f4_3_4, f4_7_6, f4_13_6, f4_19_6])

theorem RoundTrip.vbcl (e : Bool) (d : BitVec 6) (a : BitVec 6) (b : BitVec 6) (p : BitVec 3) : RoundTrip.Statement (Instr.vbcl e d a b p) := RoundTrip.of_word rfl (fun _ => by simp [decode, dec1A, fld_op, msb_wordOf, f4_0_3, f4_3_4, f4_7_6, f4_13_6, f4_19_6])

theorem RoundTrip.vred (e : Bool) (d : BitVec 6) (a : BitVec 6) (op : BitVec 4) (p : BitVec 3) : RoundTrip.Statement (Instr.vred e d a op p) := RoundTrip.of_word rfl (fun _ => by simp [decode, dec1A, fld_op, msb_wordOf, f11_0_3, f11_3_4, f11_7_4, f11_13_6, f11_19_6])

theorem RoundTrip.vscan (e : Bool) (d : BitVec 6) (a : BitVec 6) (ex : Bool) (op : BitVec 4) (p : BitVec 3) : RoundTrip.Statement (Instr.vscan e d a ex op p) := RoundTrip.of_word rfl (fun _ => by simp [decode, dec1A, fld_op, msb_wordOf, f12_0_3, f12_3_4, f12_7_4, f12_13_6, f12_19_6, bit_fld _ 11 _ (by decide) (f12_11_1 _ _ _ _ _ _ _ _ _)])

theorem RoundTrip.vballot (e : Bool) (d : BitVec 6) (p : BitVec 3) : RoundTrip.Statement (Instr.vballot e d p) := RoundTrip.of_word rfl (fun _ => by simp [decode, dec1A, fld_op, msb_wordOf, f6_0_3, f6_3_4, f6_19_6])

theorem RoundTrip.vrand (e : Bool) (d : BitVec 6) (a : BitVec 6) (b : BitVec 6) (p : BitVec 3) : RoundTrip.Statement (Instr.vrand e d a b p) := RoundTrip.of_word rfl (fun _ => by simp [decode, dec1A, fld_op, msb_wordOf, f4_0_3, f4_3_4, f4_7_6, f4_13_6, f4_19_6])

theorem RoundTrip.pset (e : Bool) (d : BitVec 3) (a : BitVec 6) (p : BitVec 3) : RoundTrip.Statement (Instr.pset e d a p) := RoundTrip.of_word rfl (fun _ => by simp [decode, dec1B, fld_op, msb_wordOf, f13_0_3, f13_3_4, f13_13_6, f13_19_3])

theorem RoundTrip.pget (e : Bool) (d : BitVec 6) (q : BitVec 3) : RoundTrip.Statement (Instr.pget e d q) := RoundTrip.of_word rfl (fun _ => by simp [decode, dec1B, fld_op, msb_wordOf, f14_0_7, f14_3_4, f14_13_3, f14_19_6])

theorem RoundTrip.pand (e : Bool) (d : BitVec 3) (a : BitVec 3) (b : BitVec 3) (p : BitVec 3) : RoundTrip.Statement (Instr.pand e d a b p) := RoundTrip.of_word rfl (fun _ => by simp [decode, dec1B, fld_op, msb_wordOf, f15_0_3, f15_3_4, f15_7_3, f15_13_3, f15_19_3, not8 _])

theorem RoundTrip.por (e : Bool) (d : BitVec 3) (a : BitVec 3) (b : BitVec 3) (p : BitVec 3) : RoundTrip.Statement (Instr.por e d a b p) := RoundTrip.of_word rfl (fun _ => by simp [decode, dec1B, fld_op, msb_wordOf, f15_0_3, f15_3_4, f15_7_3, f15_13_3, f15_19_3, not8 _])

theorem RoundTrip.pxor (e : Bool) (d : BitVec 3) (a : BitVec 3) (b : BitVec 3) (p : BitVec 3) : RoundTrip.Statement (Instr.pxor e d a b p) := RoundTrip.of_word rfl (fun _ => by simp [decode, dec1B, fld_op, msb_wordOf, f15_0_3, f15_3_4, f15_7_3, f15_13_3, f15_19_3, not8 _])

theorem RoundTrip.pnot (e : Bool) (d : BitVec 3) (a : BitVec 3) (p : BitVec 3) : RoundTrip.Statement (Instr.pnot e d a p) := RoundTrip.of_word rfl (fun _ => by simp [decode, dec1B, fld_op, msb_wordOf, f16_0_3, f16_3_4, f16_13_3, f16_19_3, not8 _])

theorem RoundTrip.vld (e : Bool) (d : BitVec 6) (a : BitVec 6) (b : BitVec 6) (q : Bool) (t : BitVec 3) (p : BitVec 3) : RoundTrip.Statement (Instr.vld e d a b q t p) := RoundTrip.of_word rfl (fun h => by
  simp [Instr.wellFormed] at h
  simp [decode, fld_op, msb_wordOf, f17_0_3, f17_3_3, f17_7_6, f17_13_6, f17_19_6, bit_fld _ 6 _ (by decide) (f17_6_1 _ _ _ _ _ _ _ _), h])

theorem RoundTrip.vst (e : Bool) (d : BitVec 6) (a : BitVec 6) (b : BitVec 6) (q : Bool) (t : BitVec 3) (p : BitVec 3) : RoundTrip.Statement (Instr.vst e d a b q t p) := RoundTrip.of_word rfl (fun h => by
  simp [Instr.wellFormed] at h
  simp [decode, fld_op, msb_wordOf, f17_0_3, f17_3_3, f17_7_6, f17_13_6, f17_19_6, bit_fld _ 6 _ (by decide) (f17_6_1 _ _ _ _ _ _ _ _), h])

theorem RoundTrip.vlds (e : Bool) (d : BitVec 6) (a : BitVec 6) (b : BitVec 6) (t : BitVec 3) (p : BitVec 3) : RoundTrip.Statement (Instr.vlds e d a b t p) := RoundTrip.of_word rfl (fun h => by
  simp [Instr.wellFormed] at h
  simp [decode, dec22, fld_op, msb_wordOf, f18_0_3, f18_3_3, f18_6_1, f18_7_6, f18_13_6, f18_19_6, h])

theorem RoundTrip.vsts (e : Bool) (d : BitVec 6) (a : BitVec 6) (b : BitVec 6) (t : BitVec 3) (p : BitVec 3) : RoundTrip.Statement (Instr.vsts e d a b t p) := RoundTrip.of_word rfl (fun h => by
  simp [Instr.wellFormed] at h
  simp [decode, dec22, fld_op, msb_wordOf, f18_0_3, f18_3_3, f18_6_1, f18_7_6, f18_13_6, f18_19_6, h])

theorem RoundTrip.vldsG (e : Bool) (d : BitVec 6) (a : BitVec 6) (b : BitVec 6) (t : BitVec 3) (p : BitVec 3) : RoundTrip.Statement (Instr.vldsG e d a b t p) := RoundTrip.of_word rfl (fun h => by
  simp [Instr.wellFormed] at h
  simp [decode, dec23, fld_op, msb_wordOf, f18_0_3, f18_3_3, f18_6_1, f18_7_6, f18_13_6, f18_19_6, h])

theorem RoundTrip.vstsG (e : Bool) (d : BitVec 6) (a : BitVec 6) (b : BitVec 6) (t : BitVec 3) (p : BitVec 3) : RoundTrip.Statement (Instr.vstsG e d a b t p) := RoundTrip.of_word rfl (fun h => by
  simp [Instr.wellFormed] at h
  simp [decode, dec23, fld_op, msb_wordOf, f18_0_3, f18_3_3, f18_6_1, f18_7_6, f18_13_6, f18_19_6, h])

theorem RoundTrip.sld (e : Bool) (d : BitVec 6) (a : BitVec 6) (b : BitVec 6) (q : Bool) (t : BitVec 3) : RoundTrip.Statement (Instr.sld e d a b q t) := RoundTrip.of_word rfl (fun h => by
  simp [Instr.wellFormed] at h
  simp [decode, dec24, fld_op, msb_wordOf, f19_0_3, f19_3_2, f19_6_1, f19_7_6, f19_13_6, f19_19_6, bit_fld _ 5 _ (by decide) (f19_5_1 _ _ _ _ _ _ _ _ _), h])

theorem RoundTrip.sst (e : Bool) (d : BitVec 6) (a : BitVec 6) (b : BitVec 6) (q : Bool) (t : BitVec 3) : RoundTrip.Statement (Instr.sst e d a b q t) := RoundTrip.of_word rfl (fun h => by
  simp [Instr.wellFormed] at h
  simp [decode, dec24, fld_op, msb_wordOf, f19_0_3, f19_3_2, f19_6_1, f19_7_6, f19_13_6, f19_19_6, bit_fld _ 5 _ (by decide) (f19_5_1 _ _ _ _ _ _ _ _ _), h])

theorem RoundTrip.slds (e : Bool) (d : BitVec 6) (a : BitVec 6) (b : BitVec 6) (q : Bool) (t : BitVec 3) : RoundTrip.Statement (Instr.slds e d a b q t) := RoundTrip.of_word rfl (fun h => by
  simp [Instr.wellFormed] at h
  simp [decode, dec24, fld_op, msb_wordOf, f19_0_3, f19_3_2, f19_6_1, f19_7_6, f19_13_6, f19_19_6, bit_fld _ 5 _ (by decide) (f19_5_1 _ _ _ _ _ _ _ _ _), h])

theorem RoundTrip.ssts (e : Bool) (d : BitVec 6) (a : BitVec 6) (b : BitVec 6) (q : Bool) (t : BitVec 3) : RoundTrip.Statement (Instr.ssts e d a b q t) := RoundTrip.of_word rfl (fun h => by
  simp [Instr.wellFormed] at h
  simp [decode, dec24, fld_op, msb_wordOf, f19_0_3, f19_3_2, f19_6_1, f19_7_6, f19_13_6, f19_19_6, bit_fld _ 5 _ (by decide) (f19_5_1 _ _ _ _ _ _ _ _ _), h])

theorem RoundTrip.sldsG (e : Bool) (d : BitVec 6) (a : BitVec 6) (b : BitVec 6) (q : Bool) (t : BitVec 3) : RoundTrip.Statement (Instr.sldsG e d a b q t) := RoundTrip.of_word rfl (fun h => by
  simp [Instr.wellFormed] at h
  simp [decode, dec24, fld_op, msb_wordOf, f19_0_3, f19_3_2, f19_6_1, f19_7_6, f19_13_6, f19_19_6, bit_fld _ 5 _ (by decide) (f19_5_1 _ _ _ _ _ _ _ _ _), h])

theorem RoundTrip.sstsG (e : Bool) (d : BitVec 6) (a : BitVec 6) (b : BitVec 6) (q : Bool) (t : BitVec 3) : RoundTrip.Statement (Instr.sstsG e d a b q t) := RoundTrip.of_word rfl (fun h => by
  simp [Instr.wellFormed] at h
  simp [decode, dec24, fld_op, msb_wordOf, f19_0_3, f19_3_2, f19_6_1, f19_7_6, f19_13_6, f19_19_6, bit_fld _ 5 _ (by decide) (f19_5_1 _ _ _ _ _ _ _ _ _), h])

theorem RoundTrip.vatom (e : Bool) (d : BitVec 6) (a : BitVec 6) (b : BitVec 6) (q : BitVec 2) (c : BitVec 4) : RoundTrip.Statement (Instr.vatom e d a b q c) := RoundTrip.of_word rfl (fun h => by
  simp [Instr.wellFormed] at h
  simp [decode, dec25, fld_op, msb_wordOf, f20_0_4, f20_4_2, f20_6_1, f20_7_6, f20_13_6, f20_19_6, h])

theorem RoundTrip.satom (e : Bool) (d : BitVec 6) (a : BitVec 6) (b : BitVec 6) (q : BitVec 2) (c : BitVec 4) : RoundTrip.Statement (Instr.satom e d a b q c) := RoundTrip.of_word rfl (fun h => by
  simp [Instr.wellFormed] at h
  simp [decode, dec25, fld_op, msb_wordOf, f20_0_4, f20_4_2, f20_6_1, f20_7_6, f20_13_6, f20_19_6, h])

theorem RoundTrip.old (e : Bool) (d : BitVec 6) (a : BitVec 6) (b : BitVec 6) (t : BitVec 4) : RoundTrip.Statement (Instr.old e d a b t) := RoundTrip.of_word rfl (fun h => by
  simp [Instr.wellFormed] at h
  simp [decode, dec26, fld_op, msb_wordOf, f21_0_4, f21_4_3, f21_7_6, f21_13_6, f21_19_6, h])

theorem RoundTrip.ost (e : Bool) (d : BitVec 6) (a : BitVec 6) (b : BitVec 6) (t : BitVec 4) : RoundTrip.Statement (Instr.ost e d a b t) := RoundTrip.of_word rfl (fun h => by
  simp [Instr.wellFormed] at h
  simp [decode, dec26, fld_op, msb_wordOf, f21_0_4, f21_4_3, f21_7_6, f21_13_6, f21_19_6, h])

theorem RoundTrip.oatom (e : Bool) (d : BitVec 6) (a : BitVec 6) (b : BitVec 6) (c : BitVec 4) : RoundTrip.Statement (Instr.oatom e d a b c) := RoundTrip.of_word rfl (fun h => by
  simp [Instr.wellFormed] at h
  simp [decode, dec26, fld_op, msb_wordOf, f21_0_4, f21_4_3, f21_7_6, f21_13_6, f21_19_6, h])

theorem RoundTrip.oupd (e : Bool) (d : BitVec 6) (a : BitVec 6) (b : BitVec 6) (c : BitVec 4) : RoundTrip.Statement (Instr.oupd e d a b c) := RoundTrip.of_word rfl (fun h => by
  have hc : updateOp c.toNat = true := by simpa [Instr.wellFormed, updateOp, or_assoc] using h
  simp [decode, dec26, fld_op, msb_wordOf, f21_0_4, f21_4_3, f21_7_6, f21_13_6, f21_19_6, hc])

theorem RoundTrip.ored (e : Bool) (d : BitVec 6) (a : BitVec 6) (c : BitVec 4) : RoundTrip.Statement (Instr.ored e d a c) := RoundTrip.of_word rfl (fun h => by
  have hc : updateOp c.toNat = true := by simpa [Instr.wellFormed, updateOp, or_assoc] using h
  simp [decode, dec26, fld_op, msb_wordOf, f22_0_4, f22_4_3, f22_13_6, f22_19_6, hc])

theorem RoundTrip.ordx (e : Bool) (d : BitVec 6) (a : BitVec 6) (b : BitVec 6) (c : BitVec 4) : RoundTrip.Statement (Instr.ordx e d a b c) := RoundTrip.of_word rfl (fun h => by
  have hc : orderedOp c.toNat = true := by simpa [Instr.wellFormed, orderedOp, or_assoc] using h
  simp [decode, dec26, fld_op, msb_wordOf, f21_0_4, f21_4_3, f21_7_6, f21_13_6, f21_19_6, hc])

theorem RoundTrip.fence (e : Bool) (kind : BitVec 2) (scope : BitVec 3) : RoundTrip.Statement (Instr.fence e kind scope) := RoundTrip.of_word rfl (fun h => by
  simp [Instr.wellFormed] at h
  simp [decode, dec27, fld_op, msb_wordOf, f23_0_3, f23_3_2, f23_5_2, h])

theorem RoundTrip.gfence (e : Bool) : RoundTrip.Statement (Instr.gfence e) := RoundTrip.of_word rfl (fun _ => by simp [decode, dec27, fld_op, msb_wordOf, f24_0_7, f24_5_2])

theorem RoundTrip.pref (e : Bool) (a : BitVec 6) (b : BitVec 6) : RoundTrip.Statement (Instr.pref e a b) := RoundTrip.of_word rfl (fun _ => by simp [decode, dec27, fld_op, msb_wordOf, f25_0_7, f25_5_2, f25_7_6, f25_13_6])

theorem RoundTrip.cpy (e : Bool) (t : BitVec 6) (a : BitVec 6) (b : BitVec 6) : RoundTrip.Statement (Instr.cpy e t a b) := RoundTrip.of_word rfl (fun _ => by simp [decode, dec28, fld_op, msb_wordOf, f0_0_7, f0_7_6, f0_13_6, f0_19_6])

theorem RoundTrip.cpyg (e : Bool) (t : BitVec 6) (a : BitVec 6) (b : BitVec 6) : RoundTrip.Statement (Instr.cpyg e t a b) := RoundTrip.of_word rfl (fun _ => by simp [decode, dec28, fld_op, msb_wordOf, f0_0_7, f0_7_6, f0_13_6, f0_19_6])

theorem RoundTrip.twait (e : Bool) (a : BitVec 6) : RoundTrip.Statement (Instr.twait e a) := RoundTrip.of_word rfl (fun _ => by simp [decode, dec29, fld_op, msb_wordOf, f26_0_7, f26_13_6])

theorem RoundTrip.tany (e : Bool) (a : BitVec 6) : RoundTrip.Statement (Instr.tany e a) := RoundTrip.of_word rfl (fun _ => by simp [decode, dec29, fld_op, msb_wordOf, f26_0_7, f26_13_6])

theorem RoundTrip.tfirst (e : Bool) (d : BitVec 6) (a : BitVec 6) : RoundTrip.Statement (Instr.tfirst e d a) := RoundTrip.of_word rfl (fun _ => by simp [decode, dec29, fld_op, msb_wordOf, f1_0_7, f1_13_6, f1_19_6])

theorem RoundTrip.mzero (e : Bool) (r : BitVec 2) (c : BitVec 2) (z : BitVec 2) (a : BitVec 6) : RoundTrip.Statement (Instr.mzero e r c z a) := RoundTrip.of_word rfl (fun _ => by simp [decode, dec2C, fld_op, msb_wordOf, f27_0_7, f27_13_6, f27_19_2, f27_21_2, f27_23_2])

theorem RoundTrip.mma (e : Bool) (z : BitVec 2) (a : BitVec 6) (b : BitVec 6) : RoundTrip.Statement (Instr.mma e z a b) := RoundTrip.of_word rfl (fun _ => by simp [decode, dec2C, fld_op, msb_wordOf, f28_0_7, f28_7_6, f28_13_6, f28_19_2])

theorem RoundTrip.mloop (e : Bool) (r : BitVec 2) (c : BitVec 2) (z : BitVec 2) (a : BitVec 6) (b : BitVec 6) : RoundTrip.Statement (Instr.mloop e r c z a b) := RoundTrip.of_word rfl (fun _ => by simp [decode, dec2C, fld_op, msb_wordOf, f29_0_7, f29_7_6, f29_13_6, f29_19_2, f29_21_2, f29_23_2])

theorem RoundTrip.mref (e : Bool) (r : BitVec 2) (c : BitVec 2) (z : BitVec 2) (a : BitVec 6) (b : BitVec 6) : RoundTrip.Statement (Instr.mref e r c z a b) := RoundTrip.of_word rfl (fun _ => by simp [decode, dec2C, fld_op, msb_wordOf, f29_0_7, f29_7_6, f29_13_6, f29_19_2, f29_21_2, f29_23_2])

theorem RoundTrip.mldz (e : Bool) (z : BitVec 2) (a : BitVec 6) (b : BitVec 6) : RoundTrip.Statement (Instr.mldz e z a b) := RoundTrip.of_word rfl (fun _ => by simp [decode, dec2C, fld_op, msb_wordOf, f28_0_7, f28_7_6, f28_13_6, f28_19_2])

theorem RoundTrip.mstore (e : Bool) (z : BitVec 2) (a : BitVec 6) (b : BitVec 6) : RoundTrip.Statement (Instr.mstore e z a b) := RoundTrip.of_word rfl (fun _ => by simp [decode, dec2C, fld_op, msb_wordOf, f28_0_7, f28_7_6, f28_13_6, f28_19_2])

theorem RoundTrip.mread (e : Bool) (d : BitVec 6) (a : BitVec 6) (z : BitVec 2) : RoundTrip.Statement (Instr.mread e d a z) := RoundTrip.of_word rfl (fun _ => by simp [decode, dec2C, fld_op, msb_wordOf, f30_0_7, f30_7_2, f30_13_6, f30_19_6])

theorem RoundTrip.mbound (e : Bool) (r : BitVec 2) (c : BitVec 2) (z : BitVec 2) (a : BitVec 6) (b : BitVec 6) : RoundTrip.Statement (Instr.mbound e r c z a b) := RoundTrip.of_word rfl (fun _ => by simp [decode, dec2C, fld_op, msb_wordOf, f29_0_7, f29_7_6, f29_13_6, f29_19_2, f29_21_2, f29_23_2])

theorem RoundTrip.masn (e : Bool) (d : BitVec 6) (z : BitVec 2) : RoundTrip.Statement (Instr.masn e d z) := RoundTrip.of_word rfl (fun _ => by simp [decode, dec2C, fld_op, msb_wordOf, f31_0_7, f31_13_2, f31_19_6])

theorem RoundTrip.mwait (z : BitVec 2) (a : BitVec 6) : RoundTrip.Statement (Instr.mwait z a) := RoundTrip.of_word rfl (fun _ => by simp [decode, dec2C, fld_op, msb_wordOf, f32_0_7, f32_13_6, f32_19_2])

theorem RoundTrip.pass (e : Bool) (d : BitVec 6) (a : BitVec 6) : RoundTrip.Statement (Instr.pass e d a) := RoundTrip.of_word rfl (fun _ => by simp [decode, dec30, fld_op, msb_wordOf, f1_0_7, f1_13_6, f1_19_6])

theorem RoundTrip.seal (e : Bool) (a : BitVec 6) (b : BitVec 6) : RoundTrip.Statement (Instr.seal e a b) := RoundTrip.of_word rfl (fun _ => by simp [decode, dec30, fld_op, msb_wordOf, f25_0_7, f25_7_6, f25_13_6])

theorem RoundTrip.vget (e : Bool) (d : BitVec 6) (a : BitVec 6) : RoundTrip.Statement (Instr.vget e d a) := RoundTrip.of_word rfl (fun _ => by simp [decode, dec30, fld_op, msb_wordOf, f1_0_7, f1_13_6, f1_19_6])

theorem RoundTrip.vpin (e : Bool) (d : BitVec 6) (a : BitVec 6) : RoundTrip.Statement (Instr.vpin e d a) := RoundTrip.of_word rfl (fun _ => by simp [decode, dec30, fld_op, msb_wordOf, f1_0_7, f1_13_6, f1_19_6])

theorem RoundTrip.vrel (e : Bool) (a : BitVec 6) (b : BitVec 6) : RoundTrip.Statement (Instr.vrel e a b) := RoundTrip.of_word rfl (fun _ => by simp [decode, dec30, fld_op, msb_wordOf, f25_0_7, f25_7_6, f25_13_6])

theorem RoundTrip.qwaitQual (e : Bool) (d : BitVec 6) (a : BitVec 6) (b : BitVec 6) : RoundTrip.Statement (Instr.qwaitQual e d a b) := RoundTrip.of_word rfl (fun _ => by simp [decode, dec30, fld_op, msb_wordOf, f0_0_7, f0_7_6, f0_13_6, f0_19_6])

theorem RoundTrip.qwaitVer (e : Bool) (d : BitVec 6) (a : BitVec 6) (b : BitVec 6) : RoundTrip.Statement (Instr.qwaitVer e d a b) := RoundTrip.of_word rfl (fun _ => by simp [decode, dec30, fld_op, msb_wordOf, f0_0_7, f0_7_6, f0_13_6, f0_19_6])

theorem RoundTrip.qwaitDone (e : Bool) (d : BitVec 6) (a : BitVec 6) : RoundTrip.Statement (Instr.qwaitDone e d a) := RoundTrip.of_word rfl (fun _ => by simp [decode, dec30, fld_op, msb_wordOf, f1_0_7, f1_13_6, f1_19_6])

theorem RoundTrip.qcvt (e : Bool) (d : BitVec 6) (a : BitVec 6) : RoundTrip.Statement (Instr.qcvt e d a) := RoundTrip.of_word rfl (fun _ => by simp [decode, dec30, fld_op, msb_wordOf, f1_0_7, f1_13_6, f1_19_6])

theorem RoundTrip.budget (e : Bool) (d : BitVec 6) : RoundTrip.Statement (Instr.budget e d) := RoundTrip.of_word rfl (fun _ => by simp [decode, dec30, fld_op, msb_wordOf, f33_0_7, f33_19_6])

theorem RoundTrip.jinit (e : Bool) (a : BitVec 6) (b : BitVec 6) : RoundTrip.Statement (Instr.jinit e a b) := RoundTrip.of_word rfl (fun _ => by simp [decode, dec31, fld_op, msb_wordOf, f25_0_7, f25_7_6, f25_13_6])

theorem RoundTrip.join (e : Bool) (a : BitVec 6) : RoundTrip.Statement (Instr.join e a) := RoundTrip.of_word rfl (fun _ => by simp [decode, dec31, fld_op, msb_wordOf, f26_0_7, f26_13_6])

theorem RoundTrip.fld (e : Bool) (d : BitVec 6) (a : BitVec 6) (b : BitVec 6) : RoundTrip.Statement (Instr.fld e d a b) := RoundTrip.of_word rfl (fun _ => by simp [decode, dec31, fld_op, msb_wordOf, f0_0_7, f0_7_6, f0_13_6, f0_19_6])

theorem RoundTrip.fst (e : Bool) (d : BitVec 6) (a : BitVec 6) (b : BitVec 6) : RoundTrip.Statement (Instr.fst e d a b) := RoundTrip.of_word rfl (fun _ => by simp [decode, dec31, fld_op, msb_wordOf, f0_0_7, f0_7_6, f0_13_6, f0_19_6])

theorem RoundTrip.yld (e : Bool) (a : BitVec 6) (b : BitVec 6) : RoundTrip.Statement (Instr.yld e a b) := RoundTrip.of_word rfl (fun _ => by simp [decode, dec31, fld_op, msb_wordOf, f25_0_7, f25_7_6, f25_13_6])

theorem RoundTrip.gchk (e : Bool) : RoundTrip.Statement (Instr.gchk e) := RoundTrip.of_word rfl (fun _ => by simp [decode, dec31, fld_op, msb_wordOf, f24_0_7])

theorem RoundTrip.gret : RoundTrip.Statement (Instr.gret) := RoundTrip.of_word rfl (fun _ => by simp [decode, dec31, fld_op, msb_wordOf, f24_0_7])

theorem RoundTrip.gend : RoundTrip.Statement (Instr.gend) := RoundTrip.of_word rfl (fun _ => by simp [decode, dec31, fld_op, msb_wordOf, f24_0_7])

theorem RoundTrip.rinv (e : Bool) (d : BitVec 6) (a : BitVec 6) (b : BitVec 6) : RoundTrip.Statement (Instr.rinv e d a b) := RoundTrip.of_word rfl (fun _ => by simp [decode, dec31, fld_op, msb_wordOf, f0_0_7, f0_7_6, f0_13_6, f0_19_6])

theorem RoundTrip.wsend (e : Bool) (a : BitVec 6) (b : BitVec 6) : RoundTrip.Statement (Instr.wsend e a b) := RoundTrip.of_word rfl (fun _ => by simp [decode, dec31, fld_op, msb_wordOf, f25_0_7, f25_7_6, f25_13_6])

theorem RoundTrip.cwait (e : Bool) (a : BitVec 6) (b : BitVec 6) : RoundTrip.Statement (Instr.cwait e a b) := RoundTrip.of_word rfl (fun _ => by simp [decode, dec31, fld_op, msb_wordOf, f25_0_7, f25_7_6, f25_13_6, f25_19_6])

theorem RoundTrip.cwaitOut (e : Bool) : RoundTrip.Statement (Instr.cwaitOut e) := RoundTrip.of_word rfl (fun _ => by simp [decode, dec31, fld_op, msb_wordOf, f24_0_7, f24_19_6])

theorem RoundTrip.spawn (e : Bool) (k : BitVec 3) (a : BitVec 6) (o : BitVec 16) : RoundTrip.Statement (Instr.spawn e k a o) := RoundTrip.of_word rfl (fun _ => by simp [decode, fld_op, msb_wordOf, f34_0_16, f34_16_6, f34_22_3])

theorem RoundTrip.genb (e : Bool) (a : BitVec 6) (o : BitVec 16) : RoundTrip.Statement (Instr.genb e a o) := RoundTrip.of_word rfl (fun _ => by simp [decode, fld_op, msb_wordOf, f35_0_16, f35_16_6, f35_22_3])

theorem RoundTrip.br (o : BitVec 16) : RoundTrip.Statement (Instr.br o) := RoundTrip.of_word rfl (fun _ => by simp [decode, dec34, fld_op, msb_wordOf, f36_0_16, f36_22_3])

theorem RoundTrip.beqz (a : BitVec 6) (o : BitVec 16) : RoundTrip.Statement (Instr.beqz a o) := RoundTrip.of_word rfl (fun _ => by simp [decode, dec34, fld_op, msb_wordOf, f35_0_16, f35_16_6, f35_22_3])

theorem RoundTrip.bnez (a : BitVec 6) (o : BitVec 16) : RoundTrip.Statement (Instr.bnez a o) := RoundTrip.of_word rfl (fun _ => by simp [decode, dec34, fld_op, msb_wordOf, f35_0_16, f35_16_6, f35_22_3])

theorem RoundTrip.bltz (a : BitVec 6) (o : BitVec 16) : RoundTrip.Statement (Instr.bltz a o) := RoundTrip.of_word rfl (fun _ => by simp [decode, dec34, fld_op, msb_wordOf, f35_0_16, f35_16_6, f35_22_3])

theorem RoundTrip.bgez (a : BitVec 6) (o : BitVec 16) : RoundTrip.Statement (Instr.bgez a o) := RoundTrip.of_word rfl (fun _ => by simp [decode, dec34, fld_op, msb_wordOf, f35_0_16, f35_16_6, f35_22_3])

theorem RoundTrip.bgtz (a : BitVec 6) (o : BitVec 16) : RoundTrip.Statement (Instr.bgtz a o) := RoundTrip.of_word rfl (fun _ => by simp [decode, dec34, fld_op, msb_wordOf, f35_0_16, f35_16_6, f35_22_3])

theorem RoundTrip.blez (a : BitVec 6) (o : BitVec 16) : RoundTrip.Statement (Instr.blez a o) := RoundTrip.of_word rfl (fun _ => by simp [decode, dec34, fld_op, msb_wordOf, f35_0_16, f35_16_6, f35_22_3])

theorem RoundTrip.call (o : BitVec 16) : RoundTrip.Statement (Instr.call o) := RoundTrip.of_word rfl (fun _ => by simp [decode, dec34, fld_op, msb_wordOf, f36_0_16, f36_22_3])

theorem RoundTrip.vbany (k : BitVec 3) (o : BitVec 16) : RoundTrip.Statement (Instr.vbany k o) := RoundTrip.of_word rfl (fun _ => by simp [decode, dec35, fld_op, msb_wordOf, f37_0_16, f37_16_6, f37_22_3])

theorem RoundTrip.vball (k : BitVec 3) (o : BitVec 16) : RoundTrip.Statement (Instr.vball k o) := RoundTrip.of_word rfl (fun _ => by simp [decode, dec35, fld_op, msb_wordOf, f37_0_16, f37_16_6, f37_22_3])

theorem RoundTrip.vbr (k : BitVec 3) (toff : BitVec 11) (koff : BitVec 11) : RoundTrip.Statement (Instr.vbr k toff koff) := RoundTrip.of_word rfl (fun _ => by simp [decode, fld_op, msb_wordOf, f38_0_11, f38_11_11, f38_22_3])

theorem RoundTrip.nop (e : Bool) : RoundTrip.Statement (Instr.nop e) := RoundTrip.of_word rfl (fun _ => by simp [decode, dec37, fld_op, msb_wordOf, f24_0_7])

theorem RoundTrip.exit : RoundTrip.Statement (Instr.exit) := RoundTrip.of_word rfl (fun _ => by simp [decode, dec37, fld_op, msb_wordOf, f24_0_7])

theorem RoundTrip.ret : RoundTrip.Statement (Instr.ret) := RoundTrip.of_word rfl (fun _ => by simp [decode, dec37, fld_op, msb_wordOf, f24_0_7])

theorem RoundTrip.jmpr (a : BitVec 6) : RoundTrip.Statement (Instr.jmpr a) := RoundTrip.of_word rfl (fun _ => by simp [decode, dec37, fld_op, msb_wordOf, f26_0_7, f26_13_6])

theorem RoundTrip.rcv (e : Bool) : RoundTrip.Statement (Instr.rcv e) := RoundTrip.of_word rfl (fun _ => by simp [decode, dec37, fld_op, msb_wordOf, f24_0_7])

theorem RoundTrip.bar (e : Bool) : RoundTrip.Statement (Instr.bar e) := RoundTrip.of_word rfl (fun _ => by simp [decode, dec37, fld_op, msb_wordOf, f24_0_7])

theorem RoundTrip.gbar (e : Bool) : RoundTrip.Statement (Instr.gbar e) := RoundTrip.of_word rfl (fun _ => by simp [decode, dec37, fld_op, msb_wordOf, f24_0_7])

theorem RoundTrip.pause (e : Bool) (a : BitVec 6) : RoundTrip.Statement (Instr.pause e a) := RoundTrip.of_word rfl (fun _ => by simp [decode, dec37, fld_op, msb_wordOf, f26_0_7, f26_13_6])

theorem RoundTrip.srd (e : Bool) (d : BitVec 6) (b : BitVec 6) : RoundTrip.Statement (Instr.srd e d b) := RoundTrip.of_word rfl (fun _ => by simp [decode, dec37, fld_op, msb_wordOf, f39_0_7, f39_7_6, f39_19_6])

theorem RoundTrip.swr (e : Bool) (a : BitVec 6) (b : BitVec 6) : RoundTrip.Statement (Instr.swr e a b) := RoundTrip.of_word rfl (fun _ => by simp [decode, dec37, fld_op, msb_wordOf, f25_0_7, f25_7_6, f25_13_6])

theorem RoundTrip.trap (n : BitVec 7) : RoundTrip.Statement (Instr.trap n) := RoundTrip.of_word rfl (fun _ => by simp [decode, dec37, fld_op, msb_wordOf, f40_0_7, f40_7_7])

theorem RoundTrip.tret : RoundTrip.Statement (Instr.tret) := RoundTrip.of_word rfl (fun _ => by simp [decode, dec37, fld_op, msb_wordOf, f24_0_7])

theorem RoundTrip.icinv (e : Bool) (a : BitVec 6) (b : BitVec 6) : RoundTrip.Statement (Instr.icinv e a b) := RoundTrip.of_word rfl (fun _ => by simp [decode, dec37, fld_op, msb_wordOf, f25_0_7, f25_7_6, f25_13_6])

theorem RoundTrip.ifence : RoundTrip.Statement (Instr.ifence) := RoundTrip.of_word rfl (fun _ => by simp [decode, dec37, fld_op, msb_wordOf, f24_0_7])

theorem RoundTrip.hintRegionNop (e : Bool) (m : BitVec 2) : RoundTrip.Statement (Instr.hintRegionNop e m) := by
  exact RoundTrip.of_word rfl (fun _ => by revert e m; decide)

theorem RoundTrip.ximm (imm : BitVec 25) : RoundTrip.Statement (Instr.ximm imm) := RoundTrip.of_word rfl (fun _ => by simp [decode, fld_op, msb_wordOf, f41_0_25])

theorem RoundTrip.xmod (pneg : Bool) (rmv : Bool) (rm : BitVec 2) (sat : Bool) (scv : Bool) (scope : BitVec 3) (ch : BitVec 2) (ord : BitVec 2) : RoundTrip.Statement (Instr.xmod pneg rmv rm sat scv scope ch ord) := RoundTrip.of_word rfl (fun _ => by simp [decode, fld_op, msb_wordOf, f42_8_2, f42_10_2, f42_12_3, f42_17_2, bit_fld _ 15 _ (by decide) (f42_15_1 _ _ _ _ _ _ _ _ _ _ _ _), bit_fld _ 16 _ (by decide) (f42_16_1 _ _ _ _ _ _ _ _ _ _ _ _), bit_fld _ 19 _ (by decide) (f42_19_1 _ _ _ _ _ _ _ _ _ _ _ _), bit_fld _ 20 _ (by decide) (f42_20_1 _ _ _ _ _ _ _ _ _ _ _ _)])

theorem RoundTrip.hint (k : BitVec 5) : RoundTrip.Statement (Instr.hint k) := RoundTrip.of_word rfl (fun _ => by simp [decode, fld_op, msb_wordOf, f43_20_5])

theorem RoundTrip.illegalWord (w : BitVec 32) : RoundTrip.Statement (Instr.illegalWord w) := RoundTrip.of_none rfl rfl

theorem RoundTrip.asyncTrapDelivery (ent : Nat) : RoundTrip.Statement (Instr.asyncTrapDelivery ent) := RoundTrip.of_none rfl rfl

theorem RoundTrip.runArbitration (core : Nat) (slot : Nat) : RoundTrip.Statement (Instr.runArbitration core slot) := RoundTrip.of_none rfl rfl

theorem RoundTrip.runFetch (ent : Nat) : RoundTrip.Statement (Instr.runFetch ent) := RoundTrip.of_none rfl rfl

theorem RoundTrip.pauseExpiry (ent : Nat) : RoundTrip.Statement (Instr.pauseExpiry ent) := RoundTrip.of_none rfl rfl

theorem RoundTrip.globalAccessResponse (k : Nat) : RoundTrip.Statement (Instr.globalAccessResponse k) := RoundTrip.of_none rfl rfl

theorem RoundTrip.faultRecordWrite (die : Nat) : RoundTrip.Statement (Instr.faultRecordWrite die) := RoundTrip.of_none rfl rfl

theorem RoundTrip.drainComplete (ent : Nat) : RoundTrip.Statement (Instr.drainComplete ent) := RoundTrip.of_none rfl rfl

theorem RoundTrip.binLaunch (pav : Nat) (bin : Nat) : RoundTrip.Statement (Instr.binLaunch pav bin) := RoundTrip.of_none rfl rfl

theorem RoundTrip.binIdleExpiry (pav : Nat) (bin : Nat) : RoundTrip.Statement (Instr.binIdleExpiry pav bin) := RoundTrip.of_none rfl rfl

theorem RoundTrip.spillRingDrain (tree : Nat) : RoundTrip.Statement (Instr.spillRingDrain tree) := RoundTrip.of_none rfl rfl

theorem RoundTrip.parentSpill (ent : Nat) : RoundTrip.Statement (Instr.parentSpill ent) := RoundTrip.of_none rfl rfl

theorem RoundTrip.parentRestore (k : Nat) : RoundTrip.Statement (Instr.parentRestore k) := RoundTrip.of_none rfl rfl

theorem RoundTrip.waitPoll (ent : Nat) : RoundTrip.Statement (Instr.waitPoll ent) := RoundTrip.of_none rfl rfl

theorem RoundTrip.bankOperation (k : Nat) : RoundTrip.Statement (Instr.bankOperation k) := RoundTrip.of_none rfl rfl

theorem RoundTrip.bankPass (k : Nat) : RoundTrip.Statement (Instr.bankPass k) := RoundTrip.of_none rfl rfl

theorem RoundTrip.bankSeal (k : Nat) : RoundTrip.Statement (Instr.bankSeal k) := RoundTrip.of_none rfl rfl

theorem RoundTrip.bankVget (k : Nat) : RoundTrip.Statement (Instr.bankVget k) := RoundTrip.of_none rfl rfl

theorem RoundTrip.bankVpin (k : Nat) : RoundTrip.Statement (Instr.bankVpin k) := RoundTrip.of_none rfl rfl

theorem RoundTrip.bankVrel (k : Nat) : RoundTrip.Statement (Instr.bankVrel k) := RoundTrip.of_none rfl rfl

theorem RoundTrip.bankAnswer (k : Nat) : RoundTrip.Statement (Instr.bankAnswer k) := RoundTrip.of_none rfl rfl

theorem RoundTrip.objectClose (launch : Nat) (k : Nat) : RoundTrip.Statement (Instr.objectClose launch k) := RoundTrip.of_none rfl rfl

theorem RoundTrip.objectDrop (launch : Nat) (k : Nat) : RoundTrip.Statement (Instr.objectDrop launch k) := RoundTrip.of_none rfl rfl

theorem RoundTrip.copyComplete (core : Nat) (k : Nat) : RoundTrip.Statement (Instr.copyComplete core k) := RoundTrip.of_none rfl rfl

theorem RoundTrip.copyPageFaultPark (core : Nat) (k : Nat) : RoundTrip.Statement (Instr.copyPageFaultPark core k) := RoundTrip.of_none rfl rfl

theorem RoundTrip.matrixQueueArrival (core : Nat) : RoundTrip.Statement (Instr.matrixQueueArrival core) := RoundTrip.of_none rfl rfl

theorem RoundTrip.matrixStart (core : Nat) : RoundTrip.Statement (Instr.matrixStart core) := RoundTrip.of_none rfl rfl

theorem RoundTrip.matrixStepEnd (core : Nat) : RoundTrip.Statement (Instr.matrixStepEnd core) := RoundTrip.of_none rfl rfl

theorem RoundTrip.matrixRelease (core : Nat) : RoundTrip.Statement (Instr.matrixRelease core) := RoundTrip.of_none rfl rfl

theorem RoundTrip.matrixComplete (core : Nat) : RoundTrip.Statement (Instr.matrixComplete core) := RoundTrip.of_none rfl rfl

theorem RoundTrip.icinvComplete (k : Nat) : RoundTrip.Statement (Instr.icinvComplete k) := RoundTrip.of_none rfl rfl

theorem RoundTrip.epochTimeout (die : Nat) : RoundTrip.Statement (Instr.epochTimeout die) := RoundTrip.of_none rfl rfl

theorem RoundTrip.epochApply (die : Nat) (src : Nat) : RoundTrip.Statement (Instr.epochApply die src) := RoundTrip.of_none rfl rfl

theorem RoundTrip.hostEpochAck (die : Nat) : RoundTrip.Statement (Instr.hostEpochAck die) := RoundTrip.of_none rfl rfl

theorem RoundTrip.gfenceRelease (ent : Nat) : RoundTrip.Statement (Instr.gfenceRelease ent) := RoundTrip.of_none rfl rfl

theorem RoundTrip.rinvPacketArrival (src : Arrival) : RoundTrip.Statement (Instr.rinvPacketArrival src) := RoundTrip.of_none rfl rfl

theorem RoundTrip.rinvStatusReturn (k : Nat) (status : Nat) : RoundTrip.Statement (Instr.rinvStatusReturn k status) := RoundTrip.of_none rfl rfl

theorem RoundTrip.receiveQueueFeed : RoundTrip.Statement (Instr.receiveQueueFeed) := RoundTrip.of_none rfl rfl

theorem RoundTrip.retirementAck (k : Nat) (failed : Bool) : RoundTrip.Statement (Instr.retirementAck k failed) := RoundTrip.of_none rfl rfl

theorem RoundTrip.wsendArrival (win : Nat) (off : Nat) (data : List (BitVec 8)) : RoundTrip.Statement (Instr.wsendArrival win off data) := RoundTrip.of_none rfl rfl

theorem RoundTrip.wsendAck (k : Nat) : RoundTrip.Statement (Instr.wsendAck k) := RoundTrip.of_none rfl rfl

theorem RoundTrip.wsendFailure (k : Nat) : RoundTrip.Statement (Instr.wsendFailure k) := RoundTrip.of_none rfl rfl

theorem RoundTrip.hangRunLimit (ent : Nat) : RoundTrip.Statement (Instr.hangRunLimit ent) := RoundTrip.of_none rfl rfl

theorem RoundTrip.issueStallWatchdog (ent : Nat) : RoundTrip.Statement (Instr.issueStallWatchdog ent) := RoundTrip.of_none rfl rfl

theorem RoundTrip.engineQueueWatchdog (core : Nat) (k : Nat) : RoundTrip.Statement (Instr.engineQueueWatchdog core k) := RoundTrip.of_none rfl rfl

theorem RoundTrip.strikeReport (core : Nat) : RoundTrip.Statement (Instr.strikeReport core) := RoundTrip.of_none rfl rfl

theorem RoundTrip.strikeBufferSend (core : Nat) : RoundTrip.Statement (Instr.strikeBufferSend core) := RoundTrip.of_none rfl rfl

theorem RoundTrip.containment (ent : Nat) (cause : Nat) (unit : Nat) (addr : Nat) : RoundTrip.Statement (Instr.containment ent cause unit addr) := RoundTrip.of_none rfl rfl

theorem RoundTrip.scrub (die : Nat) : RoundTrip.Statement (Instr.scrub die) := RoundTrip.of_none rfl rfl

theorem RoundTrip.selfTestStart (core : Nat) : RoundTrip.Statement (Instr.selfTestStart core) := RoundTrip.of_none rfl rfl

theorem RoundTrip.selfTestVerdict (core : Nat) (pass : Bool) : RoundTrip.Statement (Instr.selfTestVerdict core pass) := RoundTrip.of_none rfl rfl

theorem RoundTrip.pathDelayMeasure (pav : Nat) : RoundTrip.Statement (Instr.pathDelayMeasure pav) := RoundTrip.of_none rfl rfl

theorem RoundTrip.energyMeterInterval (mj : List Nat) : RoundTrip.Statement (Instr.energyMeterInterval mj) := RoundTrip.of_none rfl rfl

theorem RoundTrip.timeBudgetExhausted (launch : Nat) : RoundTrip.Statement (Instr.timeBudgetExhausted launch) := RoundTrip.of_none rfl rfl

theorem RoundTrip.recordTake (queue : Nat) : RoundTrip.Statement (Instr.recordTake queue) := RoundTrip.of_none rfl rfl

theorem RoundTrip.gangPlace : RoundTrip.Statement (Instr.gangPlace) := RoundTrip.of_none rfl rfl

theorem RoundTrip.gangRetire (gang : Nat) : RoundTrip.Statement (Instr.gangRetire gang) := RoundTrip.of_none rfl rfl

theorem RoundTrip.preemption (pav : Nat) : RoundTrip.Statement (Instr.preemption pav) := RoundTrip.of_none rfl rfl

theorem RoundTrip.contextEvict (k : Nat) : RoundTrip.Statement (Instr.contextEvict k) := RoundTrip.of_none rfl rfl

theorem RoundTrip.contextStageIn (k : Nat) : RoundTrip.Statement (Instr.contextStageIn k) := RoundTrip.of_none rfl rfl

theorem RoundTrip.contextRestore (k : Nat) (pav : Nat) : RoundTrip.Statement (Instr.contextRestore k pav) := RoundTrip.of_none rfl rfl

theorem RoundTrip.launchComplete (launch : Nat) : RoundTrip.Statement (Instr.launchComplete launch) := RoundTrip.of_none rfl rfl

theorem RoundTrip.completionPost : RoundTrip.Statement (Instr.completionPost) := RoundTrip.of_none rfl rfl

theorem RoundTrip.signal (ring : Nat) : RoundTrip.Statement (Instr.signal ring) := RoundTrip.of_none rfl rfl

theorem RoundTrip.dispatchCoreFailure (dc : Nat) : RoundTrip.Statement (Instr.dispatchCoreFailure dc) := RoundTrip.of_none rfl rfl

theorem RoundTrip.heartbeat (dc : Nat) : RoundTrip.Statement (Instr.heartbeat dc) := RoundTrip.of_none rfl rfl

theorem RoundTrip.heartbeatMiss (dc : Nat) : RoundTrip.Statement (Instr.heartbeatMiss dc) := RoundTrip.of_none rfl rfl

theorem RoundTrip.dispatchTakeover (dc : Nat) : RoundTrip.Statement (Instr.dispatchTakeover dc) := RoundTrip.of_none rfl rfl

theorem RoundTrip.queueSet (queue : Nat) (asid : Nat) (prio : Nat) (n : Nat) (cq : Nat) (base : Nat) (headAddr : Nat) : RoundTrip.Statement (Instr.queueSet queue asid prio n cq base headAddr) := RoundTrip.of_none rfl rfl

theorem RoundTrip.asidBind (asid : Nat) (fn : Nat) (sys : Bool) (root : Nat) : RoundTrip.Statement (Instr.asidBind asid fn sys root) := RoundTrip.of_none rfl rfl

theorem RoundTrip.vfBounds (fn : Nat) (hbmBase : Nat) (hbmBound : Nat) (tierBase : Nat) (tierBound : Nat) : RoundTrip.Statement (Instr.vfBounds fn hbmBase hbmBound tierBase tierBound) := RoundTrip.of_none rfl rfl

theorem RoundTrip.ounitGrant (asid : Nat) (unit : Nat) (code : Nat) : RoundTrip.Statement (Instr.ounitGrant asid unit code) := RoundTrip.of_none rfl rfl

theorem RoundTrip.tlbInval (asid : Nat) (base : Nat) (length : Nat) : RoundTrip.Statement (Instr.tlbInval asid base length) := RoundTrip.of_none rfl rfl

theorem RoundTrip.tlbInvalComplete : RoundTrip.Statement (Instr.tlbInvalComplete) := RoundTrip.of_none rfl rfl

theorem RoundTrip.faultAnswer (die : Nat) (verdict : Nat) (park : Nat) : RoundTrip.Statement (Instr.faultAnswer die verdict park) := RoundTrip.of_none rfl rfl

theorem RoundTrip.objCreate (asid : Nat) (index : Nat) (slots : Nat) (rule : Nat) (hostVis : Bool) (slotSize : Nat) (slotBase : Nat) (quality : Nat) : RoundTrip.Statement (Instr.objCreate asid index slots rule hostVis slotSize slotBase quality) := RoundTrip.of_none rfl rfl

theorem RoundTrip.objDestroy (asid : Nat) (index : Nat) : RoundTrip.Statement (Instr.objDestroy asid index) := RoundTrip.of_none rfl rfl

theorem RoundTrip.handlerSet (asid : Nat) (index : Nat) (vregs : Nat) (entry : Nat) (handler : Nat) : RoundTrip.Statement (Instr.handlerSet asid index vregs entry handler) := RoundTrip.of_none rfl rfl

theorem RoundTrip.rxqSet (prio : Nat) (cres : Nat) (vregs : Nat) (pav : Nat) (entries : Nat) (ring : Nat) (spillSize : Nat) (base : Nat) (spill : Nat) : RoundTrip.Statement (Instr.rxqSet prio cres vregs pav entries ring spillSize base spill) := RoundTrip.of_none rfl rfl

theorem RoundTrip.windowReg (number : Nat) (reduce : Bool) (format : Nat) (contributors : Nat) (base : Nat) (length : Nat) (arrival : Nat) (origin : Nat) (elements : Nat) (expo : Int) : RoundTrip.Statement (Instr.windowReg number reduce format contributors base length arrival origin elements expo) := RoundTrip.of_none rfl rfl

theorem RoundTrip.windowDereg (number : Nat) : RoundTrip.Statement (Instr.windowDereg number) := RoundTrip.of_none rfl rfl

theorem RoundTrip.fenceClear (die : Nat) (core : Nat) : RoundTrip.Statement (Instr.fenceClear die core) := RoundTrip.of_none rfl rfl

theorem RoundTrip.dispatchRestore (dc : Nat) : RoundTrip.Statement (Instr.dispatchRestore dc) := RoundTrip.of_none rfl rfl

theorem RoundTrip.cqSet (cq : Nat) (n : Nat) (base : Nat) : RoundTrip.Statement (Instr.cqSet cq n base) := RoundTrip.of_none rfl rfl

theorem RoundTrip.doorbell (queue : Nat) (tail : Nat) : RoundTrip.Statement (Instr.doorbell queue tail) := RoundTrip.of_none rfl rfl

theorem RoundTrip.cqhead (cq : Nat) (head : Nat) : RoundTrip.Statement (Instr.cqhead cq head) := RoundTrip.of_none rfl rfl

theorem RoundTrip.warmReset (word : Nat) : RoundTrip.Statement (Instr.warmReset word) := RoundTrip.of_none rfl rfl

theorem RoundTrip.chipid (value : Nat) : RoundTrip.Statement (Instr.chipid value) := RoundTrip.of_none rfl rfl

theorem RoundTrip.devstatOvfClear (bits : Nat) : RoundTrip.Statement (Instr.devstatOvfClear bits) := RoundTrip.of_none rfl rfl

theorem RoundTrip.ringSetupWrite (ring : Nat) (size : Bool) (value : Nat) : RoundTrip.Statement (Instr.ringSetupWrite ring size value) := RoundTrip.of_none rfl rfl

theorem RoundTrip.ringHeadWrite (ring : Nat) (head : Nat) : RoundTrip.Statement (Instr.ringHeadWrite ring head) := RoundTrip.of_none rfl rfl

theorem RoundTrip.registerWrite (offset : Nat) (value : Nat) : RoundTrip.Statement (Instr.registerWrite offset value) := RoundTrip.of_none rfl rfl

theorem RoundTrip.orngVget (line : Nat) (gen : Nat) (host : Nat) : RoundTrip.Statement (Instr.orngVget line gen host) := RoundTrip.of_none rfl rfl

theorem RoundTrip.orngVpin (line : Nat) (gen : Nat) (host : Nat) : RoundTrip.Statement (Instr.orngVpin line gen host) := RoundTrip.of_none rfl rfl

theorem RoundTrip.orngVrel (line : Nat) (slot : Nat) (gen : Nat) (host : Nat) : RoundTrip.Statement (Instr.orngVrel line slot gen host) := RoundTrip.of_none rfl rfl

theorem RoundTrip.dmemAccess (acc : HostAccess) : RoundTrip.Statement (Instr.dmemAccess acc) := RoundTrip.of_none rfl rfl

theorem RoundTrip.orngAccess (acc : HostAccess) : RoundTrip.Statement (Instr.orngAccess acc) := RoundTrip.of_none rfl rfl

theorem RoundTrip.getVersion : RoundTrip.Statement (Instr.getVersion) := RoundTrip.of_none rfl rfl

theorem RoundTrip.getCapabilities : RoundTrip.Statement (Instr.getCapabilities) := RoundTrip.of_none rfl rfl

theorem RoundTrip.negotiateAlgorithms : RoundTrip.Statement (Instr.negotiateAlgorithms) := RoundTrip.of_none rfl rfl

theorem RoundTrip.getDigests : RoundTrip.Statement (Instr.getDigests) := RoundTrip.of_none rfl rfl

theorem RoundTrip.getCertificate (slot : Nat) : RoundTrip.Statement (Instr.getCertificate slot) := RoundTrip.of_none rfl rfl

theorem RoundTrip.challenge (slot : Nat) (nonce : Nat) : RoundTrip.Statement (Instr.challenge slot nonce) := RoundTrip.of_none rfl rfl

theorem RoundTrip.getMeasurements (index : Nat) : RoundTrip.Statement (Instr.getMeasurements index) := RoundTrip.of_none rfl rfl

theorem RoundTrip.pldmFirmwareUpdate (image : Firmware) : RoundTrip.Statement (Instr.pldmFirmwareUpdate image) := RoundTrip.of_none rfl rfl

theorem RoundTrip.pldmMonitor (item : Nat) : RoundTrip.Statement (Instr.pldmMonitor item) := RoundTrip.of_none rfl rfl

theorem RoundTrip.counterRead (die : Nat) (counter : Nat) : RoundTrip.Statement (Instr.counterRead die counter) := RoundTrip.of_none rfl rfl

theorem RoundTrip.powerOnReset (trainErr : Nat) (failed : List Nat) : RoundTrip.Statement (Instr.powerOnReset trainErr failed) := RoundTrip.of_none rfl rfl

theorem RoundTrip.thermalThrottle (pavs : List Nat) : RoundTrip.Statement (Instr.thermalThrottle pavs) := RoundTrip.of_none rfl rfl

theorem RoundTrip.thermalTrip : RoundTrip.Statement (Instr.thermalTrip) := RoundTrip.of_none rfl rfl

theorem RoundTrip.homeOperation (k : Nat) : RoundTrip.Statement (Instr.homeOperation k) := RoundTrip.of_none rfl rfl

theorem RoundTrip.pathDown (chip : Nat) : RoundTrip.Statement (Instr.pathDown chip) := RoundTrip.of_none rfl rfl

theorem RoundTrip.pathDelayMeasurementEnd (pav : Nat) (margins : List Int) : RoundTrip.Statement (Instr.pathDelayMeasurementEnd pav margins) := RoundTrip.of_none rfl rfl

end Sys2Proof.Laws
end

