-- ==== Sys2Proof/Safety.lean ====
section
/-! DEFINITION. What counts as a safe run, and the terms that claims use: when a word issues, and what stays as it was. -/

namespace Sys2Proof

open Sys2Proof.Machine

/-- Every memory of the package is in canonical form (assumption 2). -/
abbrev Safety.canonical (s : State) : Prop := memWf s.mem = true ∧ memWf s.orangery = true

/-- A step is safe when it answers a next state: the package neither faults nor refuses. -/
def Safety.steps (s : State) : Prop := ∃ t, step s = .next t

/-- A run of n steps that neither faults nor refuses. -/
def Safety.runs : Nat → State → Prop
  | 0, _ => True
  | n + 1, s => ∃ t, step s = .next t ∧ Safety.runs n t

/-! ### Words -/

/-- The entity in focus, by key, and its wave. -/
abbrev Claim.At (s : State) (k : Nat) (e : Entity) (v : Wave) : Prop :=
  s.focus = some k ∧ look s.ents k = some e ∧ look s.waves e.wave = some v

/-- A word with these register fields issues: none of them waits for a result (R22), the prefixes of the chain are ones that it accepts
(R122 to R124), the fields are legal in the wave (R16, R120), none belongs to the other side of a generator (R224), and no register of the package is
poisoned (R275). -/
abbrev Claim.Issues (s : State) (k : Nat) (e : Entity) (v : Wave) (ops : List Operand) (acc : Accept) : Prop :=
  Claim.At s k e v ∧ pendingHit s k e.wave ops = false ∧ acc.chainOk e.chain = true ∧ ops.all (fun o => o.ok v.vlimit) = true ∧
  genTraps v k ops = [] ∧ s.poison.all (fun p => !p.inRegisters) = true

/-- What a meaning sees of the state. -/
abbrev Claim.ctx (s : State) (k : Nat) (e : Entity) (v : Wave) : Ctx := { s := s, k := k, e := e, v := v }

/-- `t` is `s` with one entity and one wave as given: every other entity and wave, every memory, and all else stands. -/
def Claim.After (s t : State) (k : Nat) (e : Entity) (w : Nat) (v : Wave) : Prop :=
  look t.ents k = some e ∧ look t.waves w = some v ∧ (∀ j, j ≠ k → look t.ents j = look s.ents j) ∧
  (∀ j, j ≠ w → look t.waves j = look s.waves j) ∧ { t with ents := s.ents, waves := s.waves } = s

/-- What a word that sends something leaves of a block: all but its free tags and its seal records. -/
def Claim.blockRest (b : Block) : Block := { b with tags := 0, seals := [] }

/-- Of a gang: all but the bits of R283. -/
def Claim.gangRest (g : Gang) : Gang := { g with ie := false, iex := false }

/-- Of a core other than the entity's own: all but the engine instructions on their way to it. -/
def Claim.coreRest (c : Core) : Core := { c with data := { c.data with enroute := [] } }

/-- Of a die: all but its TLB and its epochs under way. -/
def Claim.dieRest (d : Die) : Die := { d with tlb := [], epoch := 0, clock := [], opened := [], openAt := none, inbox := [], hostOut := [] }

/-- From `s` to `t`, by a word of an entity of a core, only this differs: entities and waves; the core; the free tags and seals of blocks, the bits
of R283 of gangs, engine instructions on their way to other cores, TLBs and epochs of dies; operations under way, poison of what is written,
provisional reads, and the counter of operations. Everything else stands: memories, launches, contexts, queues, rings and the rest. -/
def Claim.SendsOnly (core : Nat) (s t : State) : Prop :=
  (∀ b, (look t.blocks b).map Claim.blockRest = (look s.blocks b).map Claim.blockRest) ∧
  (∀ g, (look t.gangs g).map Claim.gangRest = (look s.gangs g).map Claim.gangRest) ∧
  (∀ j, j ≠ core → Claim.coreRest (t.core j) = Claim.coreRest (s.core j)) ∧ (∀ d, Claim.dieRest (t.die d) = Claim.dieRest (s.die d)) ∧
  { t with
    ents := s.ents, waves := s.waves, blocks := s.blocks, gangs := s.gangs, cores := s.cores, dies := s.dies, fresh := s.fresh, poison := s.poison,
    links := s.links, homeQ := s.homeQ, replies := s.replies, bankQ := s.bankQ, passQ := s.passQ, sends := s.sends, icinvs := s.icinvs } = s

/-- `t` is what `s` becomes when a word of entity `k` puts memory operations, copies or engine instructions on their way or writes scratchpad:
the entity and its wave as given, every other entity and wave as before, and beside them only what `Claim.SendsOnly` lists. -/
def Claim.AfterSend (s t : State) (k : Nat) (e : Entity) (w : Nat) (v : Wave) : Prop :=
  look t.ents k = some e ∧ look t.waves w = some v ∧ (∀ j, j ≠ k → look t.ents j = look s.ents j) ∧
  (∀ j, j ≠ w → look t.waves j = look s.waves j) ∧ t.mem = s.mem ∧ t.orangery = s.orangery ∧ Claim.SendsOnly (coreOfKey k) s t

/-- `t` is `s` with one entity as given and all else standing. -/
def Claim.EntityOnly (s t : State) (k : Nat) (e : Entity) : Prop :=
  look t.ents k = some e ∧ (∀ j, j ≠ k → look t.ents j = look s.ents j) ∧ { t with ents := s.ents } = s

/-- The command at the head of the CMD ring is done with a status (R302): its status word, the head and CMDDONE; no byte of memory outside its
entry changes. -/
def Claim.CommandDone (s t : State) (status : Nat) : Prop :=
  let q := ringOf s 0
  let at' := hostAt + (q.base + 32 * q.head)
  (ringOf t 0).head = (q.head + 1) % q.size ∧ (ringOf t 0).tail = q.tail ∧ t.ctl.cmdDone = (s.ctl.cmdDone + 1) % 2 ^ 64 ∧
  rdN t.mem (at' + 2) 2 = status ∧ ∀ a, a < at' ∨ at' + 32 ≤ a → rd t.mem a = rd s.mem a

/-- The global accesses of a word can be performed: each is aligned, allowed and of a mapped page, at the address `pm` gives (R66, R69, R175),
none waits for an operation of its line (R84, R310), and no acquire of the entity is under way (R86). -/
abbrev Claim.Accesses (c : Ctx) (n : Need) (w : Nat) (write : Bool) (as : List LaneAcc) (pm : Nat → Nat) : Prop :=
  c.acquiring = false ∧ c.e.parking = false ∧ ∀ a ∈ as, a.va % w = 0 ∧ (xlate c.s c.core c.v.asid n a.va).causes = [] ∧
    (xlate c.s c.core c.v.asid n a.va).pa = some (pm a.va) ∧ lineBusy c.s c.k c.e.wave write (pm a.va) = false

/-- `s'` is the state behind the release that a word carries, or the same state where it carries none (R86). -/
abbrev Claim.Released (c : Ctx) (release : Bool) (scope : Nat) (s' : State) : Prop :=
  (release = false → s' = c.s) ∧ (release = true → releaseGate c scope = .go s')

/-- The scratchpad accesses of a word can be performed: aligned, inside an allocation, outside generator frames (R71, R72, R175, R224),
in frames that no engine or copy holds (R74); `pm` gives their places. -/
abbrev Claim.SpadAccesses (c : Ctx) (gang : Bool) (w : Nat) (as : List (Nat × Nat)) (pm : Nat → SpadAt) : Prop :=
  c.acquiring = false ∧ ∀ a ∈ as, a.2 % w = 0 ∧ threadAt c gang w a.2 = some (pm a.2) ∧ genTouched c.s (pm a.2) = false ∧
    frameBusy c.s (pm a.2).core (pm a.2).byte = false

/-! ### Numbers -/

/-- R103, R104, R117: the integer `z` is V / U, for U > 0, rounded under a mode: 0 to nearest, ties to even; 1 towards zero; 2 up; 3 down. -/
def Claim.Rounds (rm : Nat) (V U z : Int) : Prop :=
  match rm with
  | 0 => -U ≤ 2 * (V - z * U) ∧ 2 * (V - z * U) ≤ U ∧ (2 * (V - z * U) = U ∨ 2 * (V - z * U) = -U → z % 2 = 0)
  | 1 => (0 ≤ V → z * U ≤ V ∧ V < (z + 1) * U) ∧ (V < 0 → (z - 1) * U < V ∧ V ≤ z * U)
  | 2 => (z - 1) * U < V ∧ V ≤ z * U
  | _ => z * U ≤ V ∧ V < (z + 1) * U

/-- A finite value (−1)^neg × m × 2^e as an integer over 2^149: exact for the values of every format of R100 and R130. -/
def Claim.over149 (neg : Bool) (m : Nat) (e : Int) : Int := (if neg then -1 else 1) * (m * 2 ^ (e + 149).toNat : Nat)

/-- The value of the non-negative finite encoding `c` of a format in units of its smallest subnormal (R100). -/
def Claim.units (f : Fmt) (c : Nat) : Nat := if c < 2 ^ f.fb then c else (2 ^ f.fb + c % 2 ^ f.fb) * 2 ^ (c / 2 ^ f.fb - 1)

/-! ### Where words trap -/

/-- The entity in focus is at a word with these register fields, none of which waits for a result (R22). -/
abbrev Claim.Ready (s : State) (k : Nat) (e : Entity) (v : Wave) (ops : List Operand) : Prop :=
  Claim.At s k e v ∧ pendingHit s k e.wave ops = false

/-- R252: one cause comes before another in the order of checks. -/
def Claim.Earlier (a b : Nat) : Prop :=
  let order := [0x01, 0x04, 0x02, 0x20, 0x03, 0x10, 0x12, 0x11, 0x50, 0x32, 0x31, 0x30]
  order.idxOf a < order.idxOf b

/-- R252: `t` is, of the causes that a word raises, the first in the order of checks, and of that cause the one of the lowest lane (255 where a cause
has no lane). -/
def Claim.FirstCause (raised : Trap → Prop) (t : Trap) : Prop :=
  raised t ∧ ∀ u, raised u → u = t ∨ Claim.Earlier t.cause u.cause ∨ (t.cause = u.cause ∧ t.lane < u.lane)

/-- R252, for causes without lanes: `t` is the first in the order of checks and, of that cause, the first in the list. -/
def Claim.FirstOf (l : List Trap) (t : Trap) : Prop :=
  ∃ l1 l2, l = l1 ++ t :: l2 ∧ (∀ u ∈ l1, Claim.Earlier t.cause u.cause) ∧ ∀ u ∈ l2, ¬ Claim.Earlier u.cause t.cause

/-- The word takes the trap that comes first of those it raises, at the start of its chain, and does nothing else (R250, R252, R253). -/
def Claim.Traps (s : State) (k : Nat) (e : Entity) (i : Instr) (raised : Trap → Prop) : Prop :=
  ∀ t, Claim.FirstCause raised t → exec i s = .next (raise s k t false e.chainPc)

/-- R175, R66, R252: the causes that accesses of `w` bytes to global memory raise: MISALIGNED, and what translation refuses, with the lane and its
address. -/
def Claim.globalCauses (c : Ctx) (n : Need) (w : Nat) (as : List LaneAcc) (t : Trap) : Prop :=
  ∃ x ∈ as, t.lane = x.lane ∧ t.addr = x.va ∧ ((t.cause = 0x03 ∧ x.va % w ≠ 0) ∨ t.cause ∈ (xlate c.s c.core c.v.asid n x.va).causes)

/-- R71, R72, R175, R224: the causes that accesses of `w` bytes to scratchpad raise: MISALIGNED, and BOUND_VIOLATION beyond the allocation, with the
lane and its address; GENERATOR_MISUSE in a frame of an active pleat buffer. -/
def Claim.spadCauses (c : Ctx) (gang : Bool) (w : Nat) (as : List (Nat × Nat)) (t : Trap) : Prop :=
  ∃ x ∈ as, (t.lane = x.1 ∧ t.addr = x.2 ∧ ((t.cause = 0x03 ∧ x.2 % w ≠ 0) ∨ (t.cause = 0x12 ∧ threadAt c gang w (x.2 / w * w) = none))) ∨
    (t = { cause := 0x32, lane := 255, addr := 0 } ∧ ∃ p, threadAt c gang w (x.2 / w * w) = some p ∧ genTouched c.s p = true)

end Sys2Proof
end

