-- ==== Sys2Proof/Certificates/Slice0/Obligations.lean ====
section
/-! DEFINITION. The statements for the provers. -/

open Sys2Proof Sys2Proof.Machine

/-- R18, R17, R98: what the 64 scalar registers read and what a write to each leaves, for every register number. -/
def Obligations.ScalarRegisterFile : Prop :=
  ∀ (e : Entity) (n m : Reg) (x : Word),
    e.rS 0 = 0 ∧ e.wS 0 x = e ∧
    (1 ≤ n.toNat → n.toNat ≤ 60 → (e.wS n.toNat x).rS n.toNat = x ∧ (e.wS n.toNat x).mask = e.mask) ∧
    (61 ≤ n.toNat → e.rS n.toNat = e.mask.extractLsb' (32 * (n.toNat - 61)) 32) ∧
    (61 ≤ n.toNat → (e.wS n.toNat x).rS n.toNat = x &&& e.own.extractLsb' (32 * (n.toNat - 61)) 32) ∧
    (m ≠ n → (e.wS n.toNat x).rS m.toNat = e.rS m.toNat)

/-- R133 to R135: each word of major 0x01 with two sources answers a next state with S[D] the value of its function; the entity goes on and all
else stands. A write to s0 is discarded and one to s61 to s63 sets the mask: `Entity.wS` (see ScalarRegisterFile). -/
def Obligations.ScalarRegisterWords : Prop :=
  ∀ (s : State) (k : Nat) (e : Entity) (v : Wave) (E : Bool) (d a b : Reg),
    Claim.Issues s k e v [oS d, oS a, oS b] {} →
    ∀ m ∈ ([(Instr.add, fun x y => x + y), (Instr.sub, fun x y => x - y), (Instr.mul, fun x y => x * y),
        (Instr.mulh, fun x y => BitVec.ofInt 32 (x.toInt * y.toInt / 2 ^ 32)),
        (Instr.mulhu, fun x y => BitVec.ofNat 32 (x.toNat * y.toNat / 2 ^ 32)),
        (Instr.div, fun x y => if y = 0 then 0xFFFFFFFF else if x = 0x80000000 ∧ y = 0xFFFFFFFF then 0x80000000 else x.sdiv y),
        (Instr.divu, fun x y => if y = 0 then 0xFFFFFFFF else x.udiv y),
        (Instr.rem, fun x y => if y = 0 then x else if x = 0x80000000 ∧ y = 0xFFFFFFFF then 0 else x.srem y),
        (Instr.remu, fun x y => if y = 0 then x else x.umod y),
        (Instr.andS, fun x y => x &&& y), (Instr.orS, fun x y => x ||| y), (Instr.xorS, fun x y => x ^^^ y),
        (Instr.shl, fun x y => if 32 ≤ y.toNat then 0 else x <<< y.toNat),
        (Instr.shr, fun x y => if 32 ≤ y.toNat then 0 else x >>> y.toNat),
        (Instr.sra, fun x y => if 32 ≤ y.toNat then (if x.msb then 0xFFFFFFFF else 0) else x.sshiftRight y.toNat),
        (Instr.slt, fun x y => if x.toInt < y.toInt then 1 else 0), (Instr.sltu, fun x y => if x.toNat < y.toNat then 1 else 0),
        (Instr.minS, fun x y => if y.toInt < x.toInt then y else x), (Instr.maxS, fun x y => if x.toInt < y.toInt then y else x),
        (Instr.minu, fun x y => if y.toNat < x.toNat then y else x), (Instr.maxu, fun x y => if x.toNat < y.toNat then y else x)] :
        List ((Bool → Reg → Reg → Reg → Instr) × (Word → Word → Word))),
      ∃ t, exec (m.1 E d a b) s = .next t ∧
        Claim.After s t k ((e.wS d.toNat (m.2 (e.rS a.toNat) (e.rS b.toNat))).retire E) e.wave v

/-- R134 to R138: the scalar words with an immediate, with a pair, and those that count bits. -/
def Obligations.ScalarOtherWords : Prop :=
  (
    ∀ (s : State) (k : Nat) (e : Entity) (v : Wave) (E : Bool) (d a : Reg) (i : BitVec 13) (h : BitVec 19),
      (Claim.Issues s k e v [oS d, oS a] { ximm := true } →
        ∀ c : Word, (e.chain.ximm = none → c = i.signExtend 32) →
          (∀ x, e.chain.ximm = some x → c = (x.extractLsb' 0 19 ++ i)) →
        ∀ m ∈ ([(Instr.addi, fun x => x + c), (Instr.andi, fun x => x &&& c), (Instr.ori, fun x => x ||| c), (Instr.xori, fun x => x ^^^ c),
            (Instr.shli, fun x => if 32 ≤ c.toNat % 64 then 0 else x <<< (c.toNat % 64)),
            (Instr.shri, fun x => if 32 ≤ c.toNat % 64 then 0 else x >>> (c.toNat % 64)),
            (Instr.srai, fun x => if 32 ≤ c.toNat % 64 then (if x.msb then 0xFFFFFFFF else 0) else x.sshiftRight (c.toNat % 64)),
            (Instr.slti, fun x => if x.toInt < c.toInt then 1 else 0), (Instr.sltiu, fun x => if x.toNat < c.toNat then 1 else 0)] :
            List ((Bool → Reg → Reg → BitVec 13 → Instr) × (Word → Word))),
          ∃ t, exec (m.1 E d a i) s = .next t ∧ Claim.After s t k ((e.wS d.toNat (m.2 (e.rS a.toNat))).retire E) e.wave v) ∧
      (Claim.Issues s k e v [oS d] {} →
        ∃ t, exec (.lih E d h) s = .next t ∧ Claim.After s t k ((e.wS d.toNat (h ++ (0 : BitVec 13))).retire E) e.wave v)) ∧
  (
    (
      ∀ (s : State) (k : Nat) (e : Entity) (v : Wave) (E : Bool) (d a b : Reg),
        (Claim.Issues s k e v [oS d, oS a] {} →
          ∀ m ∈ ([(Instr.sextI8, fun x => BitVec.ofInt 32 (x.setWidth 8).toInt), (Instr.sextI16, fun x => BitVec.ofInt 32 (x.setWidth 16).toInt),
              (Instr.zextU8, fun x => BitVec.ofNat 32 (x.toNat % 2 ^ 8)), (Instr.zextU16, fun x => BitVec.ofNat 32 (x.toNat % 2 ^ 16)),
              (Instr.popc, fun x => BitVec.ofNat 32 (popcN 32 x.toNat)), (Instr.clz, fun x => BitVec.ofNat 32 (clzN 32 x.toNat)),
              (Instr.ctz, fun x => BitVec.ofNat 32 (ctzN 32 x.toNat)), (Instr.brev, fun x => BitVec.ofNat 32 (brevN 32 x.toNat))] :
              List ((Bool → Reg → Reg → Instr) × (Word → Word))),
            ∃ t, exec (m.1 E d a) s = .next t ∧ Claim.After s t k ((e.wS d.toNat (m.2 (e.rS a.toNat))).retire E) e.wave v) ∧
        (Claim.Issues s k e v [oS d, oS a, oS b] {} →
          ∃ t, exec (.fns E d a b) s = .next t ∧
            Claim.After s t k ((e.wS d.toNat (fnsN 32 (e.rS a.toNat).toNat (e.rS b.toNat).toNat)).retire E) e.wave v) ∧
        (Claim.Issues s k e v [oS2 d, oS2 a, oS2 b] {} →
          ∀ m ∈ ([(Instr.add64, fun x y => x + y), (Instr.sub64, fun x y => x - y)] : List ((Bool → Reg → Reg → Reg → Instr) × (Dword → Dword → Dword))),
            ∃ t, exec (m.1 E d a b) s = .next t ∧
              Claim.After s t k ((e.wPair d.toNat (m.2 (e.rPair a.toNat) (e.rPair b.toNat))).retire E) e.wave v) ∧
        (Claim.Issues s k e v [oS2 d, oS2 a, oS b] {} →
          ∀ m ∈ ([(Instr.shl64, fun x n => if 64 ≤ n then 0 else x <<< n), (Instr.shr64, fun x n => if 64 ≤ n then 0 else x >>> n)] :
              List ((Bool → Reg → Reg → Reg → Instr) × (Dword → Nat → Dword))),
            ∃ t, exec (m.1 E d a b) s = .next t ∧
              Claim.After s t k ((e.wPair d.toNat (m.2 (e.rPair a.toNat) (e.rS b.toNat).toNat)).retire E) e.wave v) ∧
        (Claim.Issues s k e v [oS d, oS2 a] {} →
          ∀ m ∈ ([(Instr.popcI64, popcN 64), (Instr.clzI64, clzN 64), (Instr.ctzI64, ctzN 64)] : List ((Bool → Reg → Reg → Instr) × (Nat → Nat))),
            ∃ t, exec (m.1 E d a) s = .next t ∧
              Claim.After s t k ((e.wS d.toNat (BitVec.ofNat 32 (m.2 (e.rPair a.toNat).toNat))).retire E) e.wave v) ∧
        (Claim.Issues s k e v [oS d, oS2 a, oS b] {} →
          ∃ t, exec (.fnsI64 E d a b) s = .next t ∧
            Claim.After s t k ((e.wS d.toNat (fnsN 64 (e.rPair a.toNat).toNat (e.rS b.toNat).toNat)).retire E) e.wave v) ∧
        (Claim.Issues s k e v [oS2 d, oS2 a] {} →
          ∃ t, exec (.brevI64 E d a) s = .next t ∧
            Claim.After s t k ((e.wPair d.toNat (BitVec.ofNat 64 (brevN 64 (e.rPair a.toNat).toNat))).retire E) e.wave v)) ∧
    (
      ∀ (w x n : Nat), (w = 32 ∨ w = 64) → x < 2 ^ w →
        popcN w x = (List.range w).countP (fun i => x.testBit i) ∧
        clzN w 0 = w ∧ ctzN w 0 = w ∧
        (∀ i, x.testBit i = true → (∀ j, i < j → x.testBit j = false) → clzN w x = w - 1 - i) ∧
        (∀ i, x.testBit i = true → (∀ j, j < i → x.testBit j = false) → ctzN w x = i) ∧
        (∀ i, x.testBit i = true → (List.range i).countP (fun j => x.testBit j) = n → fnsN w x n = BitVec.ofNat 32 i) ∧
        (popcN w x ≤ n → fnsN w x n = 0xFFFFFFFF) ∧
        (∀ i, i < w → (brevN w x).testBit i = x.testBit (w - 1 - i)) ∧ brevN w x < 2 ^ w))

/-- R153, R121, R98, R131: what writes of vector registers, pairs and predicates leave in every lane of every register, and which lanes are
active, with and without PNEG and in a replay (R262). -/
def Obligations.VectorRegisterFile : Prop :=
  (∀ (v : Wave) (n m : Nat) (act : Lanes) (f : Nat → Word) (g : Nat → Dword) (q : Nat → Bool) (i : Nat), i < 96 →
      (v.wV n act f).rV n i = (if act.getLsbD i then f i else v.rV n i) ∧
      (m ≠ n → (v.wV n act f).rV m i = v.rV m i) ∧
      (v.wV n act f).preds = v.preds ∧ (v.wV n act f).fpstat = v.fpstat ∧
      (v.wVPair n act g).rVPair n i = (if act.getLsbD i then g i else v.rVPair n i) ∧
      (v.wVPair n act g).preds = v.preds ∧
      v.rP 0 = BitVec.allOnes 96 ∧ v.wP 0 act q = v ∧
      (n ≠ 0 → ((v.wP n act q).rP n).getLsbD i = (if act.getLsbD i then q i else (v.rP n).getLsbD i)) ∧
      (m ≠ n → (v.wP n act q).rP m = v.rP m) ∧ (v.wP n act q).vregs = v.vregs) ∧
  (∀ (s : State) (k : Nat) (e : Entity) (v : Wave) (p : BitVec 3) (i : Nat), i < 96 →
      let c := Claim.ctx s k e v
      let neg := match e.chain.xmod with | some x => x.pneg | none => false
      (e.replay = false → (c.active p).getLsbD i = (e.mask.getLsbD i && ((v.rP p.toNat).getLsbD i != neg))) ∧
      (e.replay = true → (c.active p).getLsbD i = (e.mask.getLsbD i && e.fmask.getLsbD i && ((v.rP p.toNat).getLsbD i != neg))) ∧
      (e.replay = false → neg = false → (c.active 0) = e.mask))

/-- R155 to R160: the lane-wise integer, count and compare words. -/
def Obligations.VectorIntegerWords : Prop :=
  (
    ∀ (s : State) (k : Nat) (e : Entity) (v : Wave) (E : Bool) (d a b : Reg) (p : BitVec 3),
      Claim.Issues s k e v [oV d, oV a, oV b, oP p] { pneg := true } →
      let act := (Claim.ctx s k e v).active p
      let next := fun (i : Instr) (v' : Wave) => ∃ t, exec i s = .next t ∧ Claim.After s t k (e.retire E) e.wave v'
      let halves := fun (f : BitVec 16 → BitVec 16 → BitVec 16) (x y : Word) =>
        f (x.extractLsb' 16 16) (y.extractLsb' 16 16) ++ f (x.extractLsb' 0 16) (y.extractLsb' 0 16)
      (∀ m ∈ ([(Instr.vadd, fun x y => x + y), (Instr.vsub, fun x y => x - y), (Instr.vmul, fun x y => x * y),
          (Instr.vmulh, fun x y => BitVec.ofInt 32 (x.toInt * y.toInt / 2 ^ 32)),
          (Instr.vmulhu, fun x y => BitVec.ofNat 32 (x.toNat * y.toNat / 2 ^ 32)),
          (Instr.vand, fun x y => x &&& y), (Instr.vor, fun x y => x ||| y), (Instr.vxor, fun x y => x ^^^ y),
          (Instr.vshl, fun x y => if 32 ≤ y.toNat then 0 else x <<< y.toNat),
          (Instr.vshr, fun x y => if 32 ≤ y.toNat then 0 else x >>> y.toNat),
          (Instr.vsra, fun x y => if 32 ≤ y.toNat then (if x.msb then 0xFFFFFFFF else 0) else x.sshiftRight y.toNat),
          (Instr.vmin, fun x y => if y.toInt < x.toInt then y else x), (Instr.vmax, fun x y => if x.toInt < y.toInt then y else x),
          (Instr.vminu, fun x y => if y.toNat < x.toNat then y else x), (Instr.vmaxu, fun x y => if x.toNat < y.toNat then y else x),
          (Instr.vfns, fun x y => fnsN 32 x.toNat y.toNat),
          (Instr.vaddI16x2, halves (fun x y => x + y)), (Instr.vsubI16x2, halves (fun x y => x - y)), (Instr.vmulI16x2, halves (fun x y => x * y)),
          (Instr.vshlI16x2, halves (fun x y => if 16 ≤ y.toNat then 0 else x <<< y.toNat)),
          (Instr.vshrI16x2, halves (fun x y => if 16 ≤ y.toNat then 0 else x >>> y.toNat)),
          (Instr.vsraI16x2, halves (fun x y => if 16 ≤ y.toNat then (if x.msb then 0xFFFF else 0) else x.sshiftRight y.toNat)),
          (Instr.vminI16x2, halves (fun x y => if y.toInt < x.toInt then y else x)),
          (Instr.vmaxI16x2, halves (fun x y => if x.toInt < y.toInt then y else x)),
          (Instr.vminuU16x2, halves (fun x y => if y.toNat < x.toNat then y else x)),
          (Instr.vmaxuU16x2, halves (fun x y => if x.toNat < y.toNat then y else x))] :
          List ((Bool → Reg → Reg → Reg → BitVec 3 → Instr) × (Word → Word → Word))),
        next (m.1 E d a b p) (v.wV d.toNat act (fun i => m.2 (v.rV a.toNat i) (v.rV b.toNat i)))) ∧
      next (.vmad E d a b p) (v.wV d.toNat act (fun i => v.rV a.toNat i * v.rV b.toNat i + v.rV d.toNat i)) ∧
      next (.vsel E d a b p) (v.wV d.toNat (Claim.ctx s k e v).lanes
        (fun i => if ((Claim.ctx s k e v).pred p).getLsbD i then v.rV a.toNat i else v.rV b.toNat i))) ∧
  (
    ∀ (s : State) (k : Nat) (e : Entity) (v : Wave) (E : Bool) (d a b : Reg) (q : BitVec 3) (cc : BitVec 4) (p : BitVec 3),
      let act := (Claim.ctx s k e v).active p
      let next := fun (i : Instr) (v' : Wave) => ∃ t, exec i s = .next t ∧ Claim.After s t k (e.retire E) e.wave v'
      let ok := fun (ops : List Operand) => Claim.Issues s k e v (ops ++ [oP p]) { pneg := true }
      (ok [oV d, oS a] → next (.vbcs E d a p) (v.wV d.toNat act (fun _ => e.rS a.toNat))) ∧
      (ok [oV d] → next (.vlane E d p) (v.wV d.toNat act (fun i => BitVec.ofNat 32 i))) ∧
      (ok [oV d, oV a] → ∀ m ∈ ([(Instr.vpopc, popcN 32), (Instr.vclz, clzN 32), (Instr.vctz, ctzN 32), (Instr.vbrev, brevN 32)] :
          List ((Bool → Reg → Reg → BitVec 3 → Instr) × (Nat → Nat))),
        next (m.1 E d a p) (v.wV d.toNat act (fun i => BitVec.ofNat 32 (m.2 (v.rV a.toNat i).toNat)))) ∧
      (ok [oV d, oV2 a] → ∀ m ∈ ([(Instr.vpopcI64, popcN 64), (Instr.vclzI64, clzN 64), (Instr.vctzI64, ctzN 64)] :
          List ((Bool → Reg → Reg → BitVec 3 → Instr) × (Nat → Nat))),
        next (m.1 E d a p) (v.wV d.toNat act (fun i => BitVec.ofNat 32 (m.2 (v.rVPair a.toNat i).toNat)))) ∧
      (ok [oV d, oV2 a, oV b] →
        next (.vfnsI64 E d a b p) (v.wV d.toNat act (fun i => fnsN 64 (v.rVPair a.toNat i).toNat (v.rV b.toNat i).toNat))) ∧
      (ok [oV2 d, oV2 a] →
        next (.vbrevI64 E d a p) (v.wVPair d.toNat act (fun i => BitVec.ofNat 64 (brevN 64 (v.rVPair a.toNat i).toNat)))) ∧
      (ok [oP q, oV a, oV b] → cc.toNat < 10 →
        ∃ r : Word → Word → Bool, next (.vcmp E q a b cc p) (v.wP q.toNat act (fun i => r (v.rV a.toNat i) (v.rV b.toNat i))) ∧
          ∀ x y, r x y = [decide (x = y), decide (x ≠ y), decide (x.toInt < y.toInt), decide (y.toInt ≤ x.toInt), decide (y.toInt < x.toInt),
            decide (x.toInt ≤ y.toInt), decide (x.toNat < y.toNat), decide (y.toNat ≤ x.toNat), decide (y.toNat < x.toNat),
            decide (x.toNat ≤ y.toNat)].getD cc.toNat false))

/-- R161, R110: the 35 floating forms. `Wave.wVF` writes the lanes and ORs the flags into FPSTAT; what the operations give is said by
FloatArithmetic. -/
def Obligations.FloatVectorWords : Prop :=
  ∀ (s : State) (k : Nat) (e : Entity) (v : Wave) (E : Bool) (d a b : Reg) (p : BitVec 3),
    Claim.Issues s k e v [oV d, oV a, oV b, oP p] { pneg := true, rm := true } →
    let c := Claim.ctx s k e v
    let next := fun (i : Instr) (op : Nat → Nat → Nat → Nat → Nat × Nat) => ∃ t, exec i s = .next t ∧
      Claim.After s t k (e.retire E) e.wave (v.wVF d.toNat (c.active p)
        (fun i => op c.rm (v.rV a.toNat i).toNat (v.rV b.toNat i).toNat (v.rV d.toNat i).toNat))
    (∀ m ∈ ([(Instr.vfadd, fAdd .f32), (Instr.vfsub, fSub .f32), (Instr.vfmul, fMul .f32), (Instr.vfma, fFma .f32), (Instr.vfnma, fFnma .f32),
        (Instr.vfmin, fMin .f32), (Instr.vfmax, fMax .f32)] : List ((Bool → Reg → Reg → Reg → BitVec 3 → Instr) × FOp)),
      next (m.1 E d a b p) m.2) ∧
    (∀ m ∈ ([(Instr.vfaddF16x2, fAdd .f16), (Instr.vfsubF16x2, fSub .f16), (Instr.vfmulF16x2, fMul .f16), (Instr.vfmaF16x2, fFma .f16),
        (Instr.vfnmaF16x2, fFnma .f16), (Instr.vfminF16x2, fMin .f16), (Instr.vfmaxF16x2, fMax .f16),
        (Instr.vfaddBf16x2, fAdd .bf16), (Instr.vfsubBf16x2, fSub .bf16), (Instr.vfmulBf16x2, fMul .bf16), (Instr.vfmaBf16x2, fFma .bf16),
        (Instr.vfnmaBf16x2, fFnma .bf16), (Instr.vfminBf16x2, fMin .bf16), (Instr.vfmaxBf16x2, fMax .bf16)] :
        List ((Bool → Reg → Reg → Reg → BitVec 3 → Instr) × FOp)),
      next (m.1 E d a b p) (fun rm x y z =>
        let lo := m.2 rm (x % 2 ^ 16) (y % 2 ^ 16) (z % 2 ^ 16)
        let hi := m.2 rm (x / 2 ^ 16) (y / 2 ^ 16) (z / 2 ^ 16)
        (hi.1 * 2 ^ 16 + lo.1, hi.2 ||| lo.2))) ∧
    (∀ m ∈ ([(Instr.vfaddF16, fAdd .f16), (Instr.vfsubF16, fSub .f16), (Instr.vfmulF16, fMul .f16), (Instr.vfmaF16, fFma .f16),
        (Instr.vfnmaF16, fFnma .f16), (Instr.vfminF16, fMin .f16), (Instr.vfmaxF16, fMax .f16),
        (Instr.vfaddBf16, fAdd .bf16), (Instr.vfsubBf16, fSub .bf16), (Instr.vfmulBf16, fMul .bf16), (Instr.vfmaBf16, fFma .bf16),
        (Instr.vfnmaBf16, fFnma .bf16), (Instr.vfminBf16, fMin .bf16), (Instr.vfmaxBf16, fMax .bf16)] :
        List ((Bool → Reg → Reg → Reg → BitVec 3 → Instr) × FOp)),
      next (m.1 E d a b p) (fun rm x y z =>
        let lo := m.2 rm (x % 2 ^ 16) (y % 2 ^ 16) (z % 2 ^ 16)
        (z / 2 ^ 16 * 2 ^ 16 + lo.1, lo.2)))

/-- R105, R161, R103, R110: NaN results and the invalid operations over every encoding of the three formats; exact results are returned as they
are; overflow goes where the mode's column says; every other finite value rounds as R103 says, with the flags of R110. -/
def Obligations.FloatArithmetic : Prop :=
  (∀ f ∈ [Fmt.f32, Fmt.f16, Fmt.bf16], ∀ (rm x y z : Nat),
      let nan := fun c => (f.value c).isNan
      let snan := fun c => (f.value c).isSnan
      (nan x ∨ nan y → f.add rm x y = (f.canon, if snan x ∨ snan y then 16 else 0) ∧ f.sub rm x y = (f.canon, if snan x ∨ snan y then 16 else 0) ∧
        f.mul rm x y = (f.canon, if snan x ∨ snan y then 16 else 0)) ∧
      (nan x ∨ nan y ∨ nan z → (f.fma rm x y z).1 = f.canon ∧ (f.fnma rm x y z).1 = f.canon ∧
        (snan x ∨ snan y ∨ snan z → (f.fma rm x y z).2 = 16 ∧ (f.fnma rm x y z).2 = 16)) ∧
      (nan x ∨ nan y ∨ nan z → ¬ (snan x ∨ snan y ∨ snan z) → (∀ n, (f.value x).isZero = true → f.value y ≠ .inf n) →
        (∀ n, (f.value y).isZero = true → f.value x ≠ .inf n) → (f.fma rm x y z).2 = 0 ∧ (f.fnma rm x y z).2 = 0) ∧
      (∀ n, f.value x = .inf n → f.value y = .inf (!n) → f.add rm x y = (f.canon, 16)) ∧
      (∀ n, f.value x = .inf n → f.value y = .inf n → f.sub rm x y = (f.canon, 16) ∧ f.add rm x y = (f.infCode + (if n then f.signBit else 0), 0)) ∧
      (∀ n, (f.value x).isZero = true → f.value y = .inf n → f.mul rm x y = (f.canon, 16) ∧ f.mul rm y x = (f.canon, 16) ∧
        f.fma rm x y z = (f.canon, 16) ∧ f.fma rm y x z = (f.canon, 16) ∧ f.fnma rm x y z = (f.canon, 16) ∧ f.fnma rm y x z = (f.canon, 16)) ∧
      (∀ n m, f.value x = .inf n → f.value y = .inf m → (f.value z = .inf (!(n != m)) → f.fma rm x y z = (f.canon, 16)) ∧
        (f.value z = .inf (n != m) → f.fnma rm x y z = (f.canon, 16))) ∧
      (∀ mx, nan x = true → nan y = false → (f.minMax mx x y).1 = y ∧ (f.minMax mx y x).1 = y) ∧
      (∀ mx, nan x = true → nan y = true → (f.minMax mx x y).1 = f.canon)) ∧
  (∀ f ∈ [Fmt.f32, Fmt.f16, Fmt.bf16],
      (∀ (rm m ex : Nat), m < 2 ^ f.fb → 1 ≤ ex → ex ≤ f.etop →
        f.round rm false (.fin false (2 ^ f.fb + m) ((ex : Int) - f.bias - f.fb)) = (ex * 2 ^ f.fb + m, 0)) ∧
      (∀ (n : Bool) (rm m : Nat) (e : Int), rm < 4 →
        let sign := if n then f.signBit else 0
        let away := decide (rm = 0 ∨ (rm = 2 ∧ n = false) ∨ (rm = 3 ∧ n = true))
        let top : Int := (f.etop : Int) - f.bias
        (0 < m → top < (Nat.log2 m : Int) + e →
          f.round rm false (.fin n m e) = (sign + (if away then f.infCode else f.maxCode), 5)) ∧
        (∀ k : Nat, e = top - f.fb - k → (2 ^ (f.fb + 1) - 1) * 2 ^ k < m → m < 2 ^ (f.fb + 1) * 2 ^ k →
          f.round rm false (.fin n m e) = (if away ∧ (rm = 0 → (2 ^ (f.fb + 2) - 1) * 2 ^ k ≤ 2 * m) then (sign + f.infCode, 5)
            else (sign + f.maxCode, 1))))) ∧
  (∀ f ∈ [Fmt.f32, Fmt.f16, Fmt.bf16, Fmt.e4m3, Fmt.e5m2],
      let unit : Int := 1 - f.bias - f.fb
      let mag := fun (m : Nat) (e : Int) => m * 2 ^ (e - unit).toNat
      (∀ c ≤ f.maxCode, ∃ m e, f.value c = .fin false m e ∧ f.value (c + f.signBit) = .fin true m e ∧ unit ≤ e ∧ mag m e = Claim.units f c) ∧
      (∀ c, f.maxCode < c → c < f.signBit → f.value c = .inf false ∨ (f.value c).isNan = true) ∧
      (∀ (n sat : Bool) (rm m k : Nat), rm < 4 → 0 < m → m ≤ Claim.units f f.maxCode * 2 ^ k →
        let r := f.round rm sat (.fin n m (unit - k))
        let down := rm = 1 ∨ (rm = 2 ∧ n = true) ∨ (rm = 3 ∧ n = false)
        let dist := fun (c : Nat) => ((m : Int) - (Claim.units f c * 2 ^ k : Nat)).natAbs
        ∃ c ≤ f.maxCode, r.1 = (if n then f.signBit else 0) + c ∧
          (down → Claim.units f c * 2 ^ k ≤ m ∧ ∀ d ≤ f.maxCode, Claim.units f d * 2 ^ k ≤ m → d ≤ c) ∧
          (¬ down → rm ≠ 0 → m ≤ Claim.units f c * 2 ^ k ∧ ∀ d ≤ f.maxCode, m ≤ Claim.units f d * 2 ^ k → c ≤ d) ∧
          (rm = 0 → ∀ d ≤ f.maxCode, dist c ≤ dist d ∧ (dist c = dist d → d ≠ c → c % 2 = 0)) ∧
          r.2 = (if Claim.units f c * 2 ^ k = m then 0
            else if 2 * m ≤ (2 ^ (f.fb + 1) - 1) * 2 ^ k ∨
              (m < 2 ^ f.fb * 2 ^ k ∧ (down ∨ (rm = 0 ∧ 4 * m < (2 ^ (f.fb + 2) - 1) * 2 ^ k))) then 3 else 1)) ∧
      (∀ (n sat : Bool) (rm m k : Nat), rm < 4 → Claim.units f f.maxCode * 2 ^ k < m →
        let sign := if n then f.signBit else 0
        let down := rm = 1 ∨ (rm = 2 ∧ n = true) ∨ (rm = 3 ∧ n = false)
        let next := Claim.units f (f.maxCode + 1)
        let mid := (Claim.units f f.maxCode + next) * 2 ^ k
        f.round rm sat (.fin n m (unit - k)) =
          if next * 2 ^ k ≤ m ∨ (¬ down ∧ rm ≠ 0) ∨ (rm = 0 ∧ (mid < 2 * m ∨ (mid = 2 * m ∧ f.maxCode % 2 = 1))) then
            (if f = .e4m3 then (if sat then sign + 0x7E else 0x7F) else if f = .e5m2 ∧ sat = true then sign + 0x7B
              else sign + (if down then f.maxCode else f.infCode), 5)
          else (sign + f.maxCode, 1)) ∧
      (∀ (n sat : Bool) (rm m j : Nat) (e : Int), f.round rm sat (.fin n (m * 2 ^ j) (e - j)) = f.round rm sat (.fin n m e))) ∧
  (∀ (n : Bool) (rm : Nat),
      Fmt.e4m3.round rm true (.inf n) = ((if n then 0x80 else 0) + 0x7E, 0) ∧ Fmt.e4m3.round rm false (.inf n) = (0x7F, 0) ∧
      Fmt.e5m2.round rm true (.inf n) = ((if n then 0x80 else 0) + 0x7B, 0) ∧ Fmt.e5m2.round rm false (.inf n) = ((if n then 0x80 else 0) + 0x7C, 0)) ∧
  (∀ f ∈ [Fmt.f32, Fmt.f16, Fmt.bf16], ∀ (rm x y z : Nat) (na nb nc : Bool) (ma mb mc : Nat) (ea eb ec : Int),
      f.value x = .fin na ma ea → f.value y = .fin nb mb eb → f.value z = .fin nc mc ec → rm < 4 →
      let scaled := fun (n : Bool) (m : Nat) (e : Int) => (if n then -1 else 1 : Int) * (m * 2 ^ (e + 298).toNat : Nat)
      let sum := fun (r : Nat × Nat) (t : Int) (zero : Bool) =>
        r = if t = 0 then (if zero then f.signBit else 0, 0) else f.round rm false (.fin (decide (t < 0)) t.natAbs (-298))
      let neg := fun (n m : Bool) (a b : Nat) => if a = 0 ∧ b = 0 ∧ n = m then n else decide (rm = 3)
      sum (f.add rm x y) (scaled na ma ea + scaled nb mb eb) (neg na nb ma mb) ∧
      sum (f.sub rm x y) (scaled na ma ea - scaled nb mb eb) (neg na (!nb) ma mb) ∧
      f.mul rm x y = f.round rm false (.fin (na != nb) (ma * mb) (ea + eb)) ∧
      sum (f.fma rm x y z) (scaled (na != nb) (ma * mb) (ea + eb) + scaled nc mc ec) (neg (na != nb) nc (ma * mb) mc) ∧
      sum (f.fnma rm x y z) (scaled (na == nb) (ma * mb) (ea + eb) + scaled nc mc ec) (neg (na == nb) nc (ma * mb) mc))

/-- R162: the compares, and what the comparison gives with a NaN operand and on zeros. -/
def Obligations.FloatCompareWords : Prop :=
  (∀ (s : State) (k : Nat) (e : Entity) (v : Wave) (E : Bool) (d : BitVec 3) (a b : Reg) (cc p : BitVec 3),
    Claim.Issues s k e v [oP d, oV a, oV b, oP p] { pneg := true } →
    ∀ m ∈ ([(Instr.vfcmpF32, Fmt.f32), (Instr.vfcmpF16, Fmt.f16)] : List ((Bool → BitVec 3 → Reg → Reg → BitVec 3 → BitVec 3 → Instr) × Fmt)),
      let act := (Claim.ctx s k e v).active p
      let r := fun i => m.2.compare cc.toNat ((v.rV a.toNat i).toNat % 2 ^ m.2.width) ((v.rV b.toNat i).toNat % 2 ^ m.2.width)
      ∃ t, exec (m.1 E d a b cc p) s = .next t ∧
        Claim.After s t k (e.retire E) e.wave ((v.wP d.toNat act (fun i => (r i).1)).raiseFlags (flagsOf act (fun i => (r i).2)))) ∧
  (∀ f ∈ [Fmt.f32, Fmt.f16], ∀ (cc x y : Nat), cc < 7 →
    (((f.value x).isNan ∨ (f.value y).isNan) → (f.compare cc x y).1 = decide (cc = 1 ∨ cc = 6) ∧
      (f.compare cc x y).2 = (if cc ∈ [0, 1, 6] ∧ ¬ ((f.value x).isSnan ∨ (f.value y).isSnan) then 0 else 16)) ∧
    (¬ ((f.value x).isNan ∨ (f.value y).isNan) → (f.compare cc x y).2 = 0) ∧
    ((f.value x).isZero → (f.value y).isZero → (f.compare cc x y).1 = decide (cc = 0 ∨ cc = 3 ∨ cc = 5)))

/-- R163, R112, R113: the six forms, the special operands, the nearest S8 value, exact results, and the accepted set. Results that the manual
gives only a bound for are free within it (assumption 10); that the bounds enclose the true result is not stated here. -/
def Obligations.SpecialFunctionWords : Prop :=
  (∀ (s : State) (k : Nat) (e : Entity) (v : Wave) (E : Bool) (d a : Reg) (p : BitVec 3),
    Claim.Issues s k e v [oV d, oV a, oP p] { pneg := true } →
    ∀ m ∈ ([(Instr.vfrcp, 0), (Instr.vfrsq, 1), (Instr.vfexp2, 2), (Instr.vflog2, 3), (Instr.vfsin, 4), (Instr.vfcos, 5)] :
        List ((Bool → Reg → Reg → BitVec 3 → Instr) × Nat)),
      ∃ t, exec (m.1 E d a p) s = .next t ∧
        Claim.After s t k (e.retire E) e.wave (v.wVF d.toNat ((Claim.ctx s k e v).active p) (fun i => sfu m.2 (v.rV a.toNat i).toNat))) ∧
  (∀ op < 6, sfu op 0x7FC00000 = (0x7FC00000, 0) ∧ sfu op 0x7F800001 = (0x7FC00000, 16)) ∧
  [sfu 0 0, sfu 0 0x80000000, sfu 0 0x7F800000, sfu 0 0xFF800000] = [(0x7F800000, 8), (0xFF800000, 8), (0, 0), (0x80000000, 0)] ∧
  [sfu 1 0, sfu 1 0x80000000, sfu 1 0x7F800000, sfu 1 0xFF800000, sfu 1 0xBF800000] =
    [(0x7F800000, 8), (0xFF800000, 8), (0, 0), (0x7FC00000, 16), (0x7FC00000, 16)] ∧
  [sfu 2 0, sfu 2 0x7F800000, sfu 2 0xFF800000] = [(0x3F800000, 0), (0x7F800000, 0), (0, 0)] ∧
  [sfu 3 0, sfu 3 0x7F800000, sfu 3 0xBF800000] = [(0xFF800000, 8), (0x7F800000, 0), (0x7FC00000, 16)] ∧
  [sfu 4 0x80000000, sfu 4 0x7F800000, sfu 5 0, sfu 5 0xFF800000] = [(0x80000000, 0), (0x7FC00000, 16), (0x3F800000, 0), (0x7FC00000, 16)] ∧
  (∀ (x m : Nat) (neg : Bool) (e : Int), Fmt.f32.value x = .fin neg m e → m ≠ 0 →
    let sign := if neg then 0x80000000 else 0
    let s8 := fun (code n : Nat) (q : Int) => 128 ≤ n ∧ n < 256 ∧ -149 ≤ q ∧ q ≤ 120 ∧
      ∃ M E, Fmt.f32.value (code % 2 ^ 31) = .fin false M E ∧ Claim.over149 false M E = Claim.over149 false n q
    let err := fun (n : Nat) (q : Int) => (((n * m * 2 ^ (q + e + 600).toNat : Nat) : Int) - (2 ^ 600 : Nat)).natAbs
    (511 * m * 2 ^ (e + 719).toNat ≤ 2 ^ 600 → sfu 0 x = (sign + 0x7F800000, 4)) ∧
    (2 ^ 600 < 511 * m * 2 ^ (e + 719).toNat → ∃ n q, s8 (sfu 0 x).1 n q ∧ (sfu 0 x).1 / 2 ^ 31 = sign / 2 ^ 31 ∧ (sfu 0 x).2 = 0 ∧
      ∀ n' q', 128 ≤ n' → n' < 256 → -149 ≤ q' → q' ≤ 120 → err n q ≤ err n' q' ∧ (err n q = err n' q' → (n', q') ≠ (n, q) → n % 2 = 0)) ∧
    (neg = true → sfu 1 x = (0x7FC00000, 16) ∧ sfu 3 x = (0x7FC00000, 16)) ∧
    (neg = false → (sfu 1 x).2 = 0 ∧ ∃ n q, s8 (sfu 1 x).1 n q ∧ (sfu 1 x).1 < 2 ^ 31 ∧
      let at' := fun (a : Nat) => a * a * m * 2 ^ (2 * q + e + 600).toNat
      let low := if n = 128 then at' (4 * n - 1) else 4 * at' (2 * n - 1)
      low ≤ 16 * 2 ^ 600 ∧ 4 * 2 ^ 600 ≤ at' (2 * n + 1) ∧ (n % 2 = 1 → low < 16 * 2 ^ 600 ∧ 4 * 2 ^ 600 < at' (2 * n + 1))) ∧
    (∀ n : Int, -149 ≤ n → n ≤ 127 → Claim.over149 neg m e = n * (2 ^ 149 : Nat) →
      sfu 2 x = ((if n < -126 then 2 ^ (n + 149).toNat else (n + 127).toNat * 2 ^ 23), 0)) ∧
    (∀ n : Int, -149 ≤ n → n ≤ 127 → neg = false → Claim.over149 false m e = (2 ^ (n + 149).toNat : Nat) →
      (sfu 3 x).2 = 0 ∧ ∃ N M E, Fmt.f32.value (sfu 3 x).1 = .fin N M E ∧ Claim.over149 N M E = n * (2 ^ 149 : Nat) ∧ (n = 0 → N = false)) ∧
    (∀ op ∈ [4, 5], (sfu op x).2 = 0 ∧
      ∃ N M E, Fmt.f32.value (sfu op x).1 = .fin N M E ∧ (Claim.over149 N M E).natAbs ≤ 2 ^ 149) ∧
    (∀ op ∈ [2, 3, 4, 5], let b := sfuBounds op neg m e
      let free := (Config.sfuFree op (BitVec.ofNat 32 x)).toNat
      (accepted op b free = true → (sfuOpen op x neg m e).1 = free) ∧
      (accepted op b free = false → (sfuOpen op x neg m e).1 = nearest32 op b.1))) ∧
  (∀ (op code : Nat) (lo hi : Int), accepted op (lo, hi) code = (accepted op (lo, lo) code && accepted op (hi, hi) code)) ∧
  (∀ (op code m : Nat) (t e : Int) (neg : Bool) (j : Int), -126 ≤ j →
    let y : Int := (if neg then -1 else 1) * (m * 2 ^ (e + 400).toNat : Nat)
    let ulp : Nat := if t.natAbs < 2 ^ 274 then 2 ^ 251 else 2 ^ (j + 377).toNat
    (t.natAbs < 2 ^ 274 ∨ (2 ^ (j + 400).toNat ≤ t.natAbs ∧ t.natAbs < 2 ^ (j + 401).toNat)) → Fmt.f32.value code = .fin neg m e →
    (accepted op (t, t) code = true ↔ (y - t).natAbs ≤ 2 * ulp ∧ (4 ≤ op → y.natAbs ≤ 2 ^ 400)))

/-- R164 to R166: conversions and block packing, and the trap on an m that R165 does not allow; R107 to R109: what they give. Under a block exponent of
0x00 or 0xFF the mantissa is free (assumption 16). -/
def Obligations.ConversionWords : Prop :=
  (∀ (s : State) (k : Nat) (e : Entity) (v : Wave) (E : Bool) (d a b : Reg) (src dst : BitVec 4) (p : BitVec 3),
    let c := Claim.ctx s k e v
    let act := c.active p
    let next := fun (i : Instr) (v' : Wave) => ∃ t, exec i s = .next t ∧ Claim.After s t k (e.retire E) e.wave v'
    let r := fun (i : Nat) => convert (cvtFmt src.toNat) (cvtFmt dst.toNat) c.rm c.sat
      (if 11 ≤ src.toNat then (v.rVPair a.toNat i).toNat else (v.rV a.toNat i).toNat)
    (src.toNat < 13 → dst.toNat < 11 →
      Claim.Issues s k e v [oV d, if 11 ≤ src.toNat then oV2 a else oV a, oP p] { pneg := true, rm := true, sat := true } →
      next (.vcvt E d a src dst p) ((v.wV d.toNat act (fun i =>
        if dst.toNat = 7 then (BitVec.ofNat 16 (r i).1).signExtend 32 else if dst.toNat = 9 then (BitVec.ofNat 8 (r i).1).signExtend 32
        else BitVec.ofNat 32 (r i).1)).raiseFlags (flagsOf act (fun i => (r i).2)))) ∧
    (src.toNat < 13 → 11 ≤ dst.toNat → dst.toNat < 13 →
      Claim.Issues s k e v [oV2 d, if 11 ≤ src.toNat then oV2 a else oV a, oP p] { pneg := true, rm := true, sat := true } →
      next (.vcvt E d a src dst p) ((v.wVPair d.toNat act (fun i => BitVec.ofNat 64 (r i).1)).raiseFlags (flagsOf act (fun i => (r i).2)))) ∧
    (Claim.Issues s k e v [oV d, oV a, oS b, oP p] { pneg := true, rm := true } →
      let w := (e.rS b.toNat).toNat
      let m := w % 16
      (2 ≤ m → m ≤ 8 →
        next (.vqpack E d a b p) (v.wVF d.toNat act (fun i =>
          pbfLane (pbfExp (pbfBlock v a.toNat (if w.testBit 8 then 32 else 16) act i)) m c.rm (v.rV a.toNat i).toNat)) ∧
        next (.vqunp E d a b p) (v.wV d.toNat act (fun i =>
          BitVec.ofNat 32 (Fmt.f32.round 0 false (pbfValue ((v.rV a.toNat i).toNat / 2 ^ 8 % 2 ^ 8) m (sext m (v.rV a.toNat i).toNat))).1))) ∧
      (m < 2 ∨ 8 < m → ∀ i ∈ ([Instr.vqpack E d a b p, Instr.vqunp E d a b p] : List Instr),
        exec i s = .next (raise s k { cause := 0x02, lane := 255, addr := 0 } false e.chainPc)))) ∧
  ((List.range 13).map cvtFmt = [.int 32 true, .int 32 false, .float .f32, .float .f16, .float .bf16, .float .e4m3, .float .e5m2, .int 16 true,
    .int 16 false, .int 8 true, .int 8 false, .int 64 true, .int 64 false]) ∧
  (∀ (rm x n m : Nat) (sat sg tg : Bool) (f g : Fmt), rm < 4 → n ∈ [8, 16, 32, 64] → m ∈ [8, 16, 32, 64] →
    f ∈ [Fmt.f32, Fmt.f16, Fmt.bf16, Fmt.e4m3, Fmt.e5m2] → g ∈ [Fmt.f32, Fmt.f16, Fmt.bf16, Fmt.e4m3, Fmt.e5m2] →
    let v : Int := if sg ∧ 2 ^ (n - 1) ≤ x % 2 ^ n then (x % 2 ^ n : Nat) - (2 ^ n : Nat) else (x % 2 ^ n : Nat)
    let lo : Int := if tg then -(2 ^ (m - 1) : Nat) else 0
    let hi : Int := (if tg then 2 ^ (m - 1) else 2 ^ m : Nat) - 1
    let y := g.value (x % 2 ^ g.width)
    let r := convert (.float g) (.int m tg) rm sat x
    (sat = false ∨ n ≤ m → convert (.int n sg) (.int m tg) rm sat x = ((v % (2 ^ m : Nat)).toNat, 0)) ∧
    (sat = true → m < n → convert (.int n sg) (.int m tg) rm sat x = ((max lo (min hi v) % (2 ^ m : Nat)).toNat, 0)) ∧
    convert (.int n sg) (.float f) rm sat x = f.round rm sat (.fin (decide (v < 0)) v.natAbs 0) ∧
    convert (.float g) (.float f) rm sat x = ((f.round rm sat y).1, if y.isSnan then 16 else (f.round rm sat y).2) ∧
    (y.isNan = true → r = (0, 16)) ∧ (∀ neg, y = .inf neg → r = (((if neg then lo else hi) % (2 ^ m : Nat)).toNat, 16)) ∧
    (∀ neg k e, y = .fin neg k e → ∃ z : Int, Claim.Rounds rm (Claim.over149 neg k e) (2 ^ 149 : Nat) z ∧
      r = if z < lo then ((lo % (2 ^ m : Nat)).toNat, 16) else if hi < z then ((hi % (2 ^ m : Nat)).toNat, 16)
        else ((z % (2 ^ m : Nat)).toNat, if Claim.over149 neg k e = z * (2 ^ 149 : Nat) then 0 else 1))) ∧
  (∀ xs : List Nat,
    let vs := xs.map (fun x => Fmt.f32.value x)
    let finite := ∀ v ∈ vs, ∃ n m e, v = .fin n m e
    (¬ finite → pbfExp vs = 255) ∧ ((∀ v ∈ vs, v.isZero = true) → pbfExp vs = 0) ∧
    (finite → (∃ v ∈ vs, v.isZero = false) → ∃ g : Int, (pbfExp vs : Int) = max 1 (min 254 (g + 128)) ∧ -149 ≤ g ∧
      (∃ n m e, Val.fin n m e ∈ vs ∧ 2 ^ (g + 149).toNat ≤ (Claim.over149 n m e).natAbs) ∧
      ∀ n m e, Val.fin n m e ∈ vs → (Claim.over149 n m e).natAbs < 2 ^ (g + 150).toNat)) ∧
  (∀ (E m rm x : Nat), rm < 4 → 2 ≤ m → m ≤ 8 → E < 256 →
    (∀ neg k e, Fmt.f32.value x = .fin neg k e → 1 ≤ E → E ≤ 254 →
      let unit : Int := (2 ^ (E + 23 - m) : Nat)
      let top : Int := (2 ^ (m - 1) : Nat)
      let z := fun (i : Int) => max (-top) (min (top - 1) i)
      ∃ i : Int, Claim.Rounds rm (Claim.over149 neg k e) unit i ∧ pbfLane E m rm x =
        (E * 256 + (z i % 256).toNat, (if Claim.over149 neg k e = z i * unit then 0 else 1) + (if z i = i then 0 else 4))) ∧
    (E = 0 ∨ E = 255 → (pbfLane E m rm x).1 / 256 = E ∧ (pbfLane E m rm x).2 = if (Fmt.f32.value x).isSnan then 16 else 0)) ∧
  (∀ (E m : Nat) (mant : Int), 2 ≤ m → m ≤ 8 → -(2 ^ (m - 1) : Nat) ≤ mant → mant < (2 ^ (m - 1) : Nat) → E < 256 →
    let r := Fmt.f32.round 0 false (pbfValue E m mant)
    (E = 0 → r = (0, 0)) ∧ (E = 255 → r = (0x7FC00000, 0)) ∧
    (1 ≤ E → E ≤ 254 → r.2 = 0 ∧ ∃ n k e, Fmt.f32.value r.1 = .fin n k e ∧ Claim.over149 n k e = mant * (2 ^ (E + 23 - m) : Nat)))

/-- R167, R168, R171 to R173: exchanges, shuffles, broadcasts, ballots, random mixing, predicate logic and moves. -/
def Obligations.CrossLaneAndPredicateWords : Prop :=
  (∀ (s : State) (k : Nat) (e : Entity) (v : Wave) (E : Bool) (d a b : Reg) (g : BitVec 3) (p : BitVec 3),
      let act := (Claim.ctx s k e v).active p
      let next := fun (i : Instr) (e' : Entity) (v' : Wave) => ∃ t, exec i s = .next t ∧ Claim.After s t k (e'.retire E) e.wave v'
      let ok := fun (ops : List Operand) => Claim.Issues s k e v ops { pneg := true }
      let three := fun (r : Reg) => ({ cls := .s, n := r.toNat, len := 3, align := 1 } : Operand)
      (ok [oV d, oV a, oP p] → g ≠ 7 → next (.vxch E d a g p) e (v.wV d.toNat act (fun i =>
        if i ^^^ 2 ^ g.toNat < 96 then v.rV a.toNat (i ^^^ 2 ^ g.toNat) else v.rV a.toNat i))) ∧
      (ok [oV d, oV a, oP p] → g = 7 → exec (.vxch E d a g p) s = .next (raise s k { cause := 0x02, lane := 255, addr := 0 } false e.chainPc)) ∧
      (ok [oV d, oV a, oV b, oP p] → next (.vshfl E d a b p) e (v.wV d.toNat act (fun i =>
        if (v.rV b.toNat i).toNat % 128 < 96 then v.rV a.toNat ((v.rV b.toNat i).toNat % 128) else 0))) ∧
      (ok [oV d, oV a, oS b, oP p] → next (.vbcl E d a b p) e (v.wV d.toNat act (fun _ =>
        if (e.rS b.toNat).toNat % 128 < 96 then v.rV a.toNat ((e.rS b.toNat).toNat % 128) else 0))) ∧
      (ok [oV d, oV a, oS b, oP p] → next (.vrand E d a b p) e (v.wV d.toNat act (fun i => mix (v.rV a.toNat i) (e.rS b.toNat)))) ∧
      (ok [three d, oP p] →
        (1 ≤ d.toNat → d.toNat ≤ 61 →
          next (.vballot E d p) (((e.wS d.toNat (act.extractLsb' 0 32)).wS (d.toNat + 1) (act.extractLsb' 32 32)).wS (d.toNat + 2)
            (act.extractLsb' 64 32)) v) ∧
        (d.toNat = 0 → exec (.vballot E d p) s = .next (raise s k { cause := 0x02, lane := 255, addr := 0 } false e.chainPc))) ∧
      (Claim.Ready s k e v [three d, oP p] → ({ pneg := true } : Accept).chainOk e.chain = true → 62 ≤ d.toNat →
        exec (.vballot E d p) s = .next (raise s k { cause := 0x02, lane := 255, addr := 0 } false e.chainPc))) ∧
  (∀ c k : Word,
      let x1 := (c ^^^ ((k <<< 7) ||| (k >>> 25))) * 0xA2C53E6B
      let x2 := (x1 ^^^ (x1 >>> 15)) * 0x5F1D8C47
      let x3 := (x2 ^^^ (x2 >>> 13)) + k
      mix c k = x3 ^^^ (x3 >>> 16)) ∧
  (∀ (s : State) (k : Nat) (e : Entity) (v : Wave) (E : Bool) (d a b p : BitVec 3) (r : Reg),
      let act := (Claim.ctx s k e v).active p
      let next := fun (i : Instr) (e' : Entity) (v' : Wave) => ∃ t, exec i s = .next t ∧ Claim.After s t k (e'.retire E) e.wave v'
      let ok := fun (ops : List Operand) => Claim.Issues s k e v ops { pneg := true }
      let three : Operand := { cls := .s, n := r.toNat, len := 3, align := 1 }
      (ok [oP d, oP a, oP b, oP p] →
        ∀ m ∈ ([(Instr.pand, fun x y => x && y), (Instr.por, fun x y => x || y), (Instr.pxor, fun x y => x != y)] :
            List ((Bool → BitVec 3 → BitVec 3 → BitVec 3 → BitVec 3 → Instr) × (Bool → Bool → Bool))),
          next (m.1 E d a b p) e (v.wP d.toNat act (fun i => m.2 ((v.rP a.toNat).getLsbD i) ((v.rP b.toNat).getLsbD i)))) ∧
      (ok [oP d, oP a, oP a, oP p] → next (.pnot E d a p) e (v.wP d.toNat act (fun i => decide (i < 96) && !(v.rP a.toNat).getLsbD i))) ∧
      (ok [oP d, oP p, three] →
        (1 ≤ r.toNat → r.toNat ≤ 61 →
          next (.pset E d r p) e (v.wP d.toNat act (fun i => (e.rS (r.toNat + i / 32)).getLsbD (i % 32)))) ∧
        (r.toNat = 0 → exec (.pset E d r p) s = .next (raise s k { cause := 0x02, lane := 255, addr := 0 } false e.chainPc))) ∧
      (62 ≤ r.toNat → ({ pneg := true } : Accept).chainOk e.chain = true →
        (Claim.Ready s k e v [oP d, oP p, three] → exec (.pset E d r p) s = .next (raise s k { cause := 0x02, lane := 255, addr := 0 } false e.chainPc)) ∧
        (Claim.Ready s k e v [three, oP a] → exec (.pget E r a) s = .next (raise s k { cause := 0x02, lane := 255, addr := 0 } false e.chainPc))) ∧
      (ok [three, oP a] →
        (1 ≤ r.toNat → r.toNat ≤ 61 →
          next (.pget E r a) (((e.wS r.toNat ((v.rP a.toNat).extractLsb' 0 32)).wS (r.toNat + 1) ((v.rP a.toNat).extractLsb' 32 32)).wS
            (r.toNat + 2) ((v.rP a.toNat).extractLsb' 64 32)) v) ∧
        (r.toNat = 0 → exec (.pget E r a) s = .next (raise s k { cause := 0x02, lane := 255, addr := 0 } false e.chainPc))))

/-- R169, R170, R116: reductions and scans; the integer operations are associative and commutative, so the tree equals the plain fold. -/
def Obligations.ReductionWords : Prop :=
  (∀ (s : State) (k : Nat) (e : Entity) (v : Wave) (E : Bool) (d a : Reg) (ex : Bool) (op : BitVec 4) (p : BitVec 3),
    let c := Claim.ctx s k e v
    let act := c.active p
    let leaves := (List.range 96).map (fun i => if act.getLsbD i then v.rV a.toNat i else redIdentity op.toNat)
    let acc : Accept := { pneg := true, rm := decide (op.toNat ∈ [10, 11, 12]) }
    let listed := op.toNat ∈ [0, 1, 2, 3, 4, 5, 6, 7, 10, 11, 12]
    (Claim.Issues s k e v [oS d, oV a, oP p] acc →
      (listed → ∃ t, exec (.vred E d a op p) s = .next t ∧
        Claim.After s t k ((e.wS d.toNat (redTree op.toNat c.rm leaves).1).retire E) e.wave (v.raiseFlags (redTree op.toNat c.rm leaves).2)) ∧
      (¬ listed → exec (.vred E d a op p) s = .next (raise s k { cause := 0x02, lane := 255, addr := 0 } false e.chainPc))) ∧
    (Claim.Issues s k e v [oV d, oV a, oP p] acc →
      (listed → ∃ t : State, exec (.vscan E d a ex op p) s = .next t ∧
        let before := fun (n : Nat) => (leaves.take n).foldl (fun x y => (redOp op.toNat c.rm x y).1) (redIdentity op.toNat)
        Claim.After s t k (e.retire E) e.wave ((v.wV d.toNat act (fun i => before (if ex then i else i + 1))).raiseFlags
          ((List.range 96).foldl (fun f i => f ||| (redOp op.toNat c.rm (before i) (leaves.getD i 0)).2) 0))) ∧
      (¬ listed → exec (.vscan E d a ex op p) s = .next (raise s k { cause := 0x02, lane := 255, addr := 0 } false e.chainPc)))) ∧
  (∀ (rm : Nat) (leaves : List Word), leaves.length = 96 →
    ∀ op ∈ [0, 1, 2, 3, 4, 5, 6, 7], redTree op rm leaves = (leaves.foldl (fun x y => (redOp op rm x y).1) (redIdentity op), 0)) ∧
  (∀ (rm : Nat) (x y : Word), (redOp 0 rm x y).1 = x + y ∧ (redOp 1 rm x y).1 = (if y.toInt < x.toInt then y else x) ∧
    (redOp 2 rm x y).1 = (if x.toInt < y.toInt then y else x) ∧ (redOp 3 rm x y).1 = (if y.toNat < x.toNat then y else x) ∧
    (redOp 4 rm x y).1 = (if x.toNat < y.toNat then y else x) ∧ (redOp 5 rm x y).1 = x &&& y ∧ (redOp 6 rm x y).1 = x ||| y ∧
    (redOp 7 rm x y).1 = x ^^^ y ∧ redOp 10 rm x y = (BitVec.ofNat 32 (Fmt.f32.add rm x.toNat y.toNat).1, (Fmt.f32.add rm x.toNat y.toNat).2) ∧
    redOp 11 rm x y = (BitVec.ofNat 32 (Fmt.f32.minMax false x.toNat y.toNat).1, (Fmt.f32.minMax false x.toNat y.toNat).2) ∧
    redOp 12 rm x y = (BitVec.ofNat 32 (Fmt.f32.minMax true x.toNat y.toNat).1, (Fmt.f32.minMax true x.toNat y.toNat).2) ∧
    ∀ op < 8, (redOp op rm x y).2 = 0) ∧
  ([0, 1, 2, 3, 4, 5, 6, 7, 10, 11, 12].map redIdentity =
    [0, 0x7FFFFFFF, 0x80000000, 0xFFFFFFFF, 0, 0xFFFFFFFF, 0, 0, 0x80000000, 0x7F800000, 0xFF800000]) ∧
  (∀ (op rm : Nat) (leaves : List Word) (n : Nat → Nat → Word), leaves.length = 96 → (∀ i, n 0 i = leaves.getD i 0) →
    (∀ j i, n (j + 1) i = (redOp op rm (n j i) (n j (i + 2 ^ j))).1) →
    let last := (redOp op rm (n 5 0) (n 5 32)).1
    (redTree op rm leaves).1 = (redOp op rm last (n 5 64)).1 ∧
    ∀ b, (redTree op rm leaves).2.testBit b = true ↔
      (∃ j < 5, ∃ i < 96, i % 2 ^ (j + 1) = 0 ∧ (redOp op rm (n j i) (n j (i + 2 ^ j))).2.testBit b = true) ∨
      (redOp op rm (n 5 0) (n 5 32)).2.testBit b = true ∨ (redOp op rm last (n 5 64)).2.testBit b = true)

/-- R174 to R178, R66, R260: what a load puts on its way, its park on unmapped pages, its traps (R252), and what an address translates to by a cached
page (R62, R64, R68, R69). The registers receive their values when the replies return (see MemorySteps). -/
def Obligations.GlobalLoads : Prop :=
  (∀ (s : State) (k : Nat) (e : Entity) (v : Wave) (E q : Bool) (d a b : Reg) (ty p : BitVec 3) (as : List LaneAcc) (pm : Nat → Nat),
    let c := Claim.ctx s k e v
    let size := [1, 1, 2, 2, 4, 8].getD ty.toNat 8
    let lanes := (lanesIn (c.active p)).map (fun i => ({ lane := i, va := ((e.rPair a.toNat).toNat + (v.rV b.toNat i).toNat) % 2 ^ 64 } : LaneAcc))
    let one := [({ lane := 255, va := ((e.rPair a.toNat).toNat + size * (match e.chain.ximm with | some x => (x ++ b).toNat | none => b.toNat)) % 2 ^ 64 } : LaneAcc)]
    let requests := fun (l : List LaneAcc) => ((l.map (fun x => pm x.va / 64)).eraseDups).zipIdx.map (fun y =>
      let mine := l.filter (fun x => decide (pm x.va / 64 = y.1))
      ({ core := c.core, ent := k, wave := e.wave, serial := s.fresh + y.2,
         reg := some (d.toNat, (mine.head?).bind (fun x => if x.lane = 255 then none else some x.lane)), wide := decide (ty = 5),
         kind := .load (mine.map (fun x => (x.lane, pm x.va))) size (decide (ty = 0) || decide (ty = 2)) (mine.all (fun x => cacheable c x (pm x.va))),
         needs := (match homeDie (64 * y.1) with | some h => if h = c.die then [] else (s.die h).clock | none => []), acq := q } : Reply))
    ty.toNat < 6 →
    (Claim.Issues s k e v [if ty = 5 then oS2 d else oS d, oS2 a] { scope := true, ximm := true, ch := true } →
      Claim.Traps s k e (.sld E d a b q ty) (Claim.globalCauses c .read size one) ∧
      (Claim.Accesses c .read size false one pm →
        ∃ t, exec (.sld E d a b q ty) s = .next t ∧ Claim.AfterSend s t k (e.retire E) e.wave v ∧
          t.replies = s.replies ++ requests one ∧ t.homeQ = s.homeQ ∧ t.bankQ = s.bankQ)) ∧
    (Claim.Issues s k e v [if ty = 5 then oV2 d else oV d, oS2 a, oV b, oP p] { pneg := true, scope := true, ch := true } → as = lanes →
      Claim.Traps s k e (.vld E d a b q ty p) (Claim.globalCauses c .read size as) ∧
      (Claim.Accesses c .read size false as pm →
        ∃ t, exec (.vld E d a b q ty p) s = .next t ∧ Claim.AfterSend s t k (e.retire E) e.wave v ∧
          t.replies = s.replies ++ requests as ∧ t.homeQ = s.homeQ ∧ t.bankQ = s.bankQ) ∧
      (∀ u : List LaneAcc, c.acquiring = false →
        (∀ x ∈ as, x.va % size = 0 ∧ (xlate s c.core v.asid .read x.va).causes = [] ∧
          ∀ y, (xlate s c.core v.asid .read x.va).pa = some y → y = pm x.va ∧ lineBusy s k e.wave false y = false) →
        u = as.filter (fun x => (xlate s c.core v.asid .read x.va).pa.isNone) → u ≠ [] →
        let mapped := as.filter (fun x => (xlate s c.core v.asid .read x.va).pa.isSome)
        (e.parking = false → mapped ≠ [] →
          ∃ t e', exec (.vld E d a b q ty p) s = .next t ∧ Claim.AfterSend s t k e' e.wave v ∧ t.replies = s.replies ++ requests mapped ∧
            e'.parking = true ∧ e'.replay = true ∧ (∀ i < 96, e'.fmask.getLsbD i = true ↔ ∃ x ∈ u, x.lane = i) ∧
            e' = { e with parking := true, replay := true, fmask := e'.fmask, stalled := some (e.stalled.getD s.now) }) ∧
        (e.parking = true ∨ mapped = [] →
          let left := if e.parking then as else u
          ∃ t e' r, exec (.vld E d a b q ty p) s = .next t ∧ look t.ents k = some e' ∧ (∀ j, j ≠ k → look t.ents j = look s.ents j) ∧
            t.waves = s.waves ∧ t.mem = s.mem ∧ t.orangery = s.orangery ∧ t.replies = s.replies ∧
            (t.die c.die).parks = (s.die c.die).parks ++ [r] ∧ r.ent = k ∧ r.copy = none ∧ r.addrs = left.map (fun x => x.va) ∧
            (∀ y, y ∈ r.waiting ↔ ∃ x ∈ left, y = (x.va / 4096 * 4096, 0)) ∧ r.total = r.waiting.length ∧
            e'.park = .fault r.id ∧ e'.replay = true ∧ (∀ i < 96, e'.fmask.getLsbD i = true ↔ ∃ x ∈ left, x.lane = i) ∧
            e'.pc = e.chainPc ∧ e'.sregs = e.sregs ∧ e'.mask = e.mask)))) ∧
  (∀ (s : State) (core asid va : Nat) (n : Need),
    (2 ^ 56 ≤ va → (xlate s core asid n va).pa = none ∧ (xlate s core asid n va).causes = [0x10]) ∧
    (∀ x, tlbFind (s.core core).tlb asid va = some x ∨
        (tlbFind (s.core core).tlb asid va = none ∧ tlbFind (s.die (dieOfCore core)).tlb asid va = some x) → va < 2 ^ 56 →
      let y := xlate s core asid n va
      let allowed := match n with
        | .read | .copyRead | .sendSource | .future => x.r | .write | .copyWrite | .sendTarget | .futureWrite => x.w
        | .atomic => x.r && x.w | .fetch => x.x
      let reached := match target (x.pa + (va - x.va)) with
        | .peer _ _ => decide (n = .sendTarget) | .host => decide (n ∉ [Need.atomic, .future, .futureWrite, .sendSource, .sendTarget])
        | _ => decide (n ≠ .sendTarget)
      y.pa = some (x.pa + (va - x.va)) ∧ (∀ z ∈ y.causes, z ∈ [0x04, 0x12, 0x11]) ∧
      (0x04 ∈ y.causes ↔ x.sys = true ∧ (s.asid asid).sys = false) ∧
      (0x12 ∈ y.causes ↔ target (x.pa + (va - x.va)) = .none ∨ inBounds s (s.asid asid).fn (x.pa + (va - x.va)) = false) ∧
      (0x11 ∈ y.causes ↔ ¬ (allowed = true ∧ reached = true))))

/-- R174 to R177, R277: what a store puts on its way, and its traps (R252). -/
def Obligations.GlobalStores : Prop :=
  ∀ (s s' : State) (k : Nat) (e : Entity) (v : Wave) (E q : Bool) (d a b : Reg) (ty p : BitVec 3) (as : List LaneAcc) (pm : Nat → Nat),
    let c := Claim.ctx s k e v
    let c' := c.behind s'
    let size := [1, 1, 2, 2, 4, 8].getD ty.toNat 8
    let lanes := (lanesIn (c.active p)).map (fun i => ({ lane := i, va := ((e.rPair a.toNat).toNat + (v.rV b.toNat i).toNat) % 2 ^ 64 } : LaneAcc))
    let one := [({ lane := 255, va := ((e.rPair a.toNat).toNat + size * (match e.chain.ximm with | some x => (x ++ b).toNat | none => b.toNat)) % 2 ^ 64 } : LaneAcc)]
    let held := fun (value : Nat → Nat) => ((as.map (fun x => pm x.va / 64)).eraseDups).zipIdx.flatMap (fun y =>
      (as.filter (fun x => decide (pm x.va / 64 = y.1))).map (fun x =>
        ({ ent := k, wave := e.wave, lanes := laneBit x.lane, serial := s'.fresh + y.2, time := s'.now, dst := .memory (pm x.va),
           data := leBytes size (value x.lane), dep := depOf s' c.core k } : HeldWrite)))
    ty.toNat < 6 →
    (Claim.Issues s k e v [if ty = 5 then oV2 d else oV d, oS2 a, oV b, oP p] { pneg := true, scope := true, ch := true } → as = lanes →
      (Claim.Traps s k e (.vst E d a b q ty p) (Claim.globalCauses c .write size as)) ∧
      (Claim.Released c q (c.scope 4) s' → Claim.Accesses c .write size true as pm → Claim.Accesses c' .write size true as pm →
        ∃ t, exec (.vst E d a b q ty p) s = .next t ∧ Claim.AfterSend s t k (({ c'.e with progress := true } : Entity).retire E) e.wave v ∧
          (t.core c.core).data.held = (s'.core c.core).data.held ++
            held (fun i => if ty = 5 then (v.rVPair d.toNat i).toNat else (v.rV d.toNat i).toNat))) ∧
    (Claim.Issues s k e v [if ty = 5 then oS2 d else oS d, oS2 a] { scope := true, ximm := true, ch := true } → as = one →
      (Claim.Traps s k e (.sst E d a b q ty) (Claim.globalCauses c .write size as)) ∧
      (Claim.Released c q (c.scope 4) s' → Claim.Accesses c .write size true as pm → Claim.Accesses c' .write size true as pm →
        ∃ t, exec (.sst E d a b q ty) s = .next t ∧ Claim.AfterSend s t k (({ c'.e with progress := true } : Entity).retire E) e.wave v ∧
          (t.core c.core).data.held = (s'.core c.core).data.held ++
            held (fun _ => if ty = 5 then (e.rPair d.toNat).toNat else (e.rS d.toNat).toNat)))

/-- R174, R175, R177: scratchpad loads; R86: an acquire; R275: poison. -/
def Obligations.ScratchpadLoads : Prop :=
  ∀ (s : State) (k : Nat) (e : Entity) (v : Wave) (E q : Bool) (d a b : Reg) (ty p : BitVec 3) (as : List (Nat × Nat)) (pm : Nat → SpadAt),
    let c := Claim.ctx s k e v
    let size := [1, 1, 2, 2, 4, 8].getD ty.toNat 8
    let value := fun (x : SpadAt) => (if ty = 0 ∨ ty = 2 then BitVec.ofInt 64 (sext (8 * size) (spadRead s c.core x size))
      else BitVec.ofNat 64 (spadRead s c.core x size) : Dword)
    let bad := as.findSome? (fun x => spadMeets s c.core (pm x.2).core (pm x.2).byte size)
    let contained := fun (i : Instr) => ∀ g, bad = some g → exec i s = .next (consume s e.wave c.core 1 g)
    ty.toNat < 6 →
    (∀ x : SpadAt, x.core = c.core →
      spadRead s c.core x size = leNat ((List.range size).map (fun i => rd (s.core x.core).data.scratch (x.byte + i)))) ∧
    (∀ m ∈ ([(Instr.vlds, false), (Instr.vldsG, true)] : List ((Bool → Reg → Reg → Reg → BitVec 3 → BitVec 3 → Instr) × Bool)),
      Claim.Issues s k e v [if ty = 5 then oV2 d else oV d, oS a, oV b, oP p] { pneg := true, scope := true } →
      as = (lanesIn (c.active p)).map (fun i => (i, (e.rS a.toNat + v.rV b.toNat i).toNat)) →
      Claim.SpadAccesses c m.2 size as pm →
      contained (m.1 E d a b ty p) ∧
      (bad = none → ∃ t f sn, exec (m.1 E d a b ty p) s = .next t ∧
        Claim.AfterSend s t k (({ e with fold := f, seen := sn } : Entity).retire E) e.wave
          (if ty = 5 then v.wVPair d.toNat (c.active p) (fun i => value (pm (e.rS a.toNat + v.rV b.toNat i).toNat))
          else v.wV d.toNat (c.active p) (fun i => (value (pm (e.rS a.toNat + v.rV b.toNat i).toNat)).setWidth 32)) ∧
        t.cores = s.cores)) ∧
    (∀ m ∈ ([(Instr.slds, false, 1), (Instr.sldsG, true, 2)] : List ((Bool → Reg → Reg → Reg → Bool → BitVec 3 → Instr) × Bool × Nat)),
      Claim.Issues s k e v [if ty = 5 then oS2 d else oS d, oS a] { scope := true, ximm := true } →
      as = [(255, ((e.rS a.toNat).toNat + size * (match e.chain.ximm with | some x => (x ++ b).toNat | none => b.toNat)) % 2 ^ 32)] →
      Claim.SpadAccesses c m.2.1 size as pm →
      contained (m.1 E d a b q ty) ∧
      (bad = none → ∃ t f sn, exec (m.1 E d a b q ty) s = .next t ∧
        Claim.AfterSend s t k (({ (if ty = 5 then e.wPair d.toNat (value (pm (as.headD (0, 0)).2))
          else e.wS d.toNat ((value (pm (as.headD (0, 0)).2)).setWidth 32)) with fold := f, seen := sn } : Entity).retire E) e.wave v ∧
        (∀ j, t.core j = (if q = true ∧ 2 ≤ c.scope m.2.2 ∧ j = c.core then { s.core j with l1 := [] } else s.core j))))

/-- R71, R72, R175 to R177: what a store writes, and where scratchpad accesses trap. -/
def Obligations.ScratchpadStores : Prop :=
  (
    ∀ (s s' : State) (k : Nat) (e : Entity) (v : Wave) (E q : Bool) (d a b : Reg) (ty p : BitVec 3) (as : List (Nat × Nat)) (pm : Nat → SpadAt),
      let c := Claim.ctx s k e v
      let c' := c.behind s'
      let size := [1, 1, 2, 2, 4, 8].getD ty.toNat 8
      let last := fun (value : Nat → Nat) (at' : Nat) => as.foldl (fun r x => if (pm x.2).byte ≤ at' ∧ at' < (pm x.2).byte + size
        then BitVec.ofNat 8 (value x.1 / 2 ^ (8 * (at' - (pm x.2).byte))) else r) (rd (s.core c.core).data.scratch at')
      let stored := fun (i : Instr) (value : Nat → Nat) => ∃ t, exec i s = .next t ∧
        Claim.AfterSend s t k (({ c'.e with progress := true } : Entity).retire E) e.wave v ∧ (∀ j, j ≠ c.core → t.core j = s.core j) ∧
        ((∀ x ∈ as, (pm x.2).core = c.core) → ∀ at', rd (t.core c.core).data.scratch at' = last value at') ∧
        ((∀ x ∈ as, (pm x.2).core ≠ c.core) → (t.core c.core).data.scratch = (s.core c.core).data.scratch ∧
          (t.core c.core).data.held = (s'.core c.core).data.held ++ as.map (fun x =>
            ({ ent := k, wave := e.wave, lanes := laneBit x.1, serial := s'.fresh, time := s'.now, dst := .scratch (pm x.2).core (pm x.2).byte,
               data := leBytes size (value x.1), dep := depOf s' c.core k } : HeldWrite)))
      ty.toNat < 6 →
      (∀ m ∈ ([(Instr.vsts, false), (Instr.vstsG, true)] : List ((Bool → Reg → Reg → Reg → BitVec 3 → BitVec 3 → Instr) × Bool)),
        Claim.Issues s k e v [if ty = 5 then oV2 d else oV d, oS a, oV b, oP p] { pneg := true, scope := true } →
        as = (lanesIn (c.active p)).map (fun i => (i, (e.rS a.toNat + v.rV b.toNat i).toNat)) →
        Claim.SpadAccesses c m.2 size as pm → s' = s →
        stored (m.1 E d a b ty p) (fun i => if ty = 5 then (v.rVPair d.toNat i).toNat else (v.rV d.toNat i).toNat)) ∧
      (∀ m ∈ ([(Instr.ssts, false, 1), (Instr.sstsG, true, 2)] : List ((Bool → Reg → Reg → Reg → Bool → BitVec 3 → Instr) × Bool × Nat)),
        Claim.Issues s k e v [if ty = 5 then oS2 d else oS d, oS a] { scope := true, ximm := true } →
        as = [(255, ((e.rS a.toNat).toNat + size * (match e.chain.ximm with | some x => (x ++ b).toNat | none => b.toNat)) % 2 ^ 32)] →
        Claim.Released c q (c.scope m.2.2) s' →
        Claim.SpadAccesses c m.2.1 size as pm → Claim.SpadAccesses c' m.2.1 size as pm →
        stored (m.1 E d a b q ty) (fun _ => if ty = 5 then (e.rPair d.toNat).toNat else (e.rS d.toNat).toNat))) ∧
  (
    ∀ (s : State) (k : Nat) (e : Entity) (v : Wave) (E q : Bool) (d a b : Reg) (ty p : BitVec 3),
      let c := Claim.ctx s k e v
      let size := [1, 1, 2, 2, 4, 8].getD ty.toNat 8
      let lanes := (lanesIn (c.active p)).map (fun i => (i, (e.rS a.toNat + v.rV b.toNat i).toNat))
      let one := [(255, ((e.rS a.toNat).toNat + size * (match e.chain.ximm with | some x => (x ++ b).toNat | none => b.toNat)) % 2 ^ 32)]
      ty.toNat < 6 →
      (Claim.Issues s k e v [if ty = 5 then oV2 d else oV d, oS a, oV b, oP p] { pneg := true, scope := true } →
        ∀ w ∈ ([(Instr.vlds E d a b ty p, false), (Instr.vsts E d a b ty p, false), (Instr.vldsG E d a b ty p, true),
            (Instr.vstsG E d a b ty p, true)] : List (Instr × Bool)),
          Claim.Traps s k e w.1 (Claim.spadCauses c w.2 size lanes)) ∧
      (Claim.Issues s k e v [if ty = 5 then oS2 d else oS d, oS a] { scope := true, ximm := true } →
        ∀ w ∈ ([(Instr.slds E d a b q ty, false), (Instr.ssts E d a b q ty, false), (Instr.sldsG E d a b q ty, true),
            (Instr.sstsG E d a b q ty, true)] : List (Instr × Bool)),
          Claim.Traps s k e w.1 (Claim.spadCauses c w.2 size one)))

/-- R179, R88: what an atomic word sends, and what its home stores for each operation; the operation is performed by HOME_OPERATION. Sums of
binary32 are pinned by FloatArithmetic. -/
def Obligations.AtomicWords : Prop :=
  (∀ (s s' : State) (k : Nat) (e : Entity) (v : Wave) (E : Bool) (d a b : Reg) (q : BitVec 2) (op : BitVec 4) (as : List LaneAcc) (pm : Nat → Nat),
      let c := Claim.ctx s k e v
      let c' := c.behind s'
      let size := if 11 ≤ op.toNat then 8 else 4
      let sent := fun (r : Nat → Nat → Word) => ((as.map (fun x => pm x.va / 64)).eraseDups).zipIdx.flatMap (fun y =>
        (as.filter (fun x => decide (pm x.va / 64 = y.1))).map (fun x =>
          ({ core := c.core, ent := k, wave := e.wave, serial := s'.fresh + y.2,
             kind := .atom op.toNat (atomArgs op.toNat (r x.lane)).1 (atomArgs op.toNat (r x.lane)).2, addr := pm x.va, data := [],
             dep := (s'.die c.die).clock, acq := decide (q = 1 ∨ q = 3), lanes := laneBit x.lane,
             reg := some (d.toNat, if x.lane = 255 then none else some x.lane), wide := decide (11 ≤ op.toNat) } : HomeOp)))
      op.toNat < 14 →
      (Claim.Issues s k e v [atomField true op.toNat d, oS2 a, oV b] { scope := true } →
        as = (lanesIn c.lanes).map (fun i => ({ lane := i, va := ((e.rPair a.toNat).toNat + (v.rV b.toNat i).toNat) % 2 ^ 64 } : LaneAcc)) →
        Claim.Traps s k e (.vatom E d a b q op) (Claim.globalCauses c .atomic size as) ∧
        (Claim.Released c (decide (2 ≤ q.toNat)) (c.scope 4) s' → Claim.Accesses c .atomic size true as pm → Claim.Accesses c' .atomic size true as pm →
          ∃ t, exec (.vatom E d a b q op) s = .next t ∧ Claim.AfterSend s t k (({ c'.e with progress := true } : Entity).retire E) e.wave v ∧
            t.homeQ = s'.homeQ ++ sent (fun i j => v.rV (d.toNat + j) i))) ∧
      (Claim.Issues s k e v [atomField false op.toNat d, oS2 a, oS b] { scope := true } →
        as = [{ lane := 255, va := ((e.rPair a.toNat).toNat + (e.rS b.toNat).toNat) % 2 ^ 64 }] →
        Claim.Traps s k e (.satom E d a b q op) (Claim.globalCauses c .atomic size as) ∧
        (Claim.Released c (decide (2 ≤ q.toNat)) (c.scope 4) s' → Claim.Accesses c .atomic size true as pm → Claim.Accesses c' .atomic size true as pm →
          ∃ t, exec (.satom E d a b q op) s = .next t ∧ Claim.AfterSend s t k (({ c'.e with progress := true } : Entity).retire E) e.wave v ∧
            t.homeQ = s'.homeQ ++ sent (fun _ j => e.rS (d.toNat + j))))) ∧
  (∀ (m w c : Dword), m.toNat < 2 ^ 32 → w.toNat < 2 ^ 32 → c.toNat < 2 ^ 32 →
      let m32 := m.setWidth 32
      let w32 := w.setWidth 32
      atomNew 0 m w c = (m32 + w32).setWidth 64 ∧
      atomNew 1 m w c = (if w32.toInt < m32.toInt then w else m) ∧ atomNew 2 m w c = (if m32.toInt < w32.toInt then w else m) ∧
      atomNew 3 m w c = (if w.toNat < m.toNat then w else m) ∧ atomNew 4 m w c = (if m.toNat < w.toNat then w else m) ∧
      atomNew 5 m w c = m &&& w ∧ atomNew 6 m w c = m ||| w ∧ atomNew 7 m w c = m ^^^ w ∧ atomNew 8 m w c = w ∧
      atomNew 9 m w c = (if m = c then w else m) ∧ atomNew 10 m w c = BitVec.ofNat 64 (Fmt.f32.add 0 m.toNat w.toNat).1 ∧
      (∀ M W C : Dword, atomNew 11 M W C = M + W ∧ atomNew 12 M W C = W ∧ atomNew 13 M W C = (if M = C then W else M)))

/-- R181 to R183: what the Orangery words send, and their traps. -/
def Obligations.OrangeryWords : Prop :=
  ∀ (s s' : State) (k : Nat) (e : Entity) (v : Wave) (E : Bool) (d a b : Reg) (ty op : BitVec 4),
    let c := Claim.ctx s k e v
    let lanes := lanesIn c.lanes
    let off := fun i => (e.rS a.toNat + v.rV b.toNat i).toNat
    let size := [1, 1, 2, 2, 4, 8].getD ty.toNat 8
    let asize := if 11 ≤ op.toNat then 8 else 4
    let open' := fun (o : Nat) => o < 0x28000000 ∧ ¬ (0x27000000 ≤ o ∧ o < 0x27200000)
    let opened := fun (o w : Nat) (codes : List Nat) => o % w = 0 ∧ open' o ∧ orngCode s v.asid o ∈ codes
    let causes := fun (l : List (Nat × Nat)) (w : Nat) (codes : List Nat) (t : Trap) => ∃ x ∈ l, t.lane = x.1 ∧ t.addr = x.2 ∧
      ((t.cause = 0x03 ∧ x.2 % w ≠ 0) ∨ (t.cause = 0x12 ∧ ¬ open' x.2) ∨ (t.cause = 0x11 ∧ open' x.2 ∧ orngCode s v.asid x.2 ∉ codes))
    let each := lanes.map (fun i => (i, off i))
    let cell := (e.rS a.toNat).toNat
    let once := (lanes.take 1).map (fun i => (i, cell))
    let args := fun i => atomArgs op.toNat (fun j => v.rV (d.toNat + j) i)
    let msg := fun (n : Nat) (ls : Lanes) (o : Nat) (kind : BankKind) (reg : Option (Nat × Option Nat)) (wide acq : Bool) =>
      ({ ent := k, wave := e.wave, core := c.core, serial := s'.fresh + n, lanes := ls, off := o, kind := kind, reg := reg, wide := wide, acq := acq,
         dep := depOf s' c.core k } : BankOp)
    let goes := fun (i : Instr) (t : State) => exec i s = .next t ∧
      Claim.AfterSend s t k (({ (c.behind s').e with progress := true } : Entity).retire E) e.wave v
    let acqs := decide (c.ord = 1 ∨ c.ord = 3)
    let ready := c.acquiring = false ∧ Claim.Released c (decide (2 ≤ c.ord)) (c.scope 4) s'
    ty.toNat < 6 → op.toNat < 14 →
    (Claim.Issues s k e v [if ty = 5 then oV2 d else oV d, oS a, oV b] { scope := true, ord := [1] } →
      Claim.Traps s k e (.old E d a b ty) (causes each size [1, 2]) ∧
      (ready → (∀ i ∈ lanes, opened (off i) size [1, 2]) →
        ∃ t, goes (.old E d a b ty) t ∧ t.bankQ = s'.bankQ ++ lanes.zipIdx.map (fun x =>
          msg x.2 (laneBit x.1) (off x.1) (.load size (decide (ty = 0) || decide (ty = 2))) (some (d.toNat, some x.1)) (decide (ty = 5)) acqs))) ∧
    (Claim.Issues s k e v [if ty = 5 then oV2 d else oV d, oS a, oV b] { scope := true, ord := [2] } →
      Claim.Traps s k e (.ost E d a b ty) (causes each size [2]) ∧
      (ready → (∀ i ∈ lanes, opened (off i) size [2]) →
        ∃ t, goes (.ost E d a b ty) t ∧ t.bankQ = s'.bankQ ∧
          (t.core c.core).data.held = (s'.core c.core).data.held ++ lanes.zipIdx.map (fun x =>
            ({ ent := k, wave := e.wave, lanes := laneBit x.1, serial := s'.fresh + x.2, time := s'.now, dst := .orangery (off x.1),
               data := leBytes size (if ty = 5 then (v.rVPair d.toNat x.1).toNat else (v.rV d.toNat x.1).toNat), dep := depOf s' c.core k } : HeldWrite)))) ∧
    (Claim.Issues s k e v [atomField true op.toNat d, oS a, oV b] { scope := true, ord := [1, 2, 3] } →
      Claim.Traps s k e (.oatom E d a b op) (causes each asize [2]) ∧
      (ready → (∀ i ∈ lanes, opened (off i) asize [2]) →
        ∃ t, goes (.oatom E d a b op) t ∧ t.bankQ = s'.bankQ ++ lanes.zipIdx.map (fun x =>
          msg x.2 (laneBit x.1) (off x.1) (.atom op.toNat (args x.1).1 (args x.1).2) (some (d.toNat, some x.1)) (decide (11 ≤ op.toNat)) acqs)) ∧
      Claim.Traps s k e (.ordx E d a b op) (causes once 64 [2]) ∧
      (ready → (lanes ≠ [] → opened cell 64 [2]) →
        ∃ t, goes (.ordx E d a b op) t ∧ t.bankQ = s'.bankQ ++ lanes.zipIdx.map (fun x =>
          msg x.2 (laneBit x.1) cell (.ordx op.toNat (v.rV b.toNat x.1).toNat (args x.1).1) none false acqs))) ∧
    (Claim.Issues s k e v [atomField true op.toNat d, oS a, oV b] { scope := true, ord := [2] } →
      Claim.Traps s k e (.oupd E d a b op) (causes each asize [2]) ∧
      (ready → (∀ i ∈ lanes, opened (off i) asize [2]) →
        ∃ t, goes (.oupd E d a b op) t ∧ t.bankQ = s'.bankQ ++ lanes.zipIdx.map (fun x =>
          msg x.2 (laneBit x.1) (off x.1) (.update op.toNat (args x.1).1) none false false))) ∧
    (Claim.Issues s k e v [atomField true op.toNat d, oS a] { scope := true, ord := [1, 2, 3] } →
      Claim.Traps s k e (.ored E d a op) (causes once asize [2]) ∧
      (ready → (lanes ≠ [] → opened cell asize [2]) →
        ∃ t, goes (.ored E d a op) t ∧ t.bankQ = s'.bankQ ++ (if lanes = [] then []
          else [msg 0 c.lanes cell (.fold op.toNat (lanes.map (fun i => (args i).1))) none false acqs])))

/-- R184 to R186, R93: fences, the global fence and prefetch. A release at SYS scope (R309) is said of `Claim.Released`: it goes through once every
die and the host have applied what it closed. -/
def Obligations.FenceWords : Prop :=
  ∀ (s s' : State) (k : Nat) (e : Entity) (v : Wave) (E : Bool) (a b : Reg) (kind : BitVec 2) (scope : BitVec 3),
    let c := Claim.ctx s k e v
    (Claim.Issues s k e v [] {} →
      (Machine.quiet s k e.wave = true → Claim.Released c (decide (2 ≤ kind.toNat)) scope.toNat s' →
        ∃ t, exec (.fence E kind scope) s = .next t ∧
          Claim.AfterSend s t k (({ (c.behind s').e with progress := true } : Entity).retire E) e.wave v ∧
          t.dies = s'.dies ∧ (kind ≠ 2 → 2 ≤ scope.toNat → (t.core c.core).l1 = []) ∧
          (scope.toNat < 4 → t.dies = s.dies ∧ (2 ≤ kind.toNat → ∃ e', look t.ents k = some e' ∧
            e'.released = (s.die c.die).epoch + (if (s.die c.die).opened = [] then 0 else 1))) ∧
          (2 ≤ kind.toNat → scope = 4 → t.dies = (closeEpoch s c.die).dies)) ∧
      (Machine.quiet s k e.wave = false → exec (.fence E kind scope) s = .next (noteStall s k)) ∧
      (Machine.quiet s k e.wave = true →
        ∃ t e', exec (.gfence E) s = .next t ∧ Claim.AfterSend s t k e' e.wave v ∧ t.dies = (closeEpoch s c.die).dies ∧ (t.core c.core).l1 = [] ∧
          e'.park = .gfence (t.die c.die).clock ∧ e'.resume = e.pc + 4 ∧ e'.sregs = e.sregs ∧ e'.mask = e.mask)) ∧
    (Claim.Issues s k e v [oS2 a, oS b] { ch := true } →
      ∃ t, exec (.pref E a b) s = .next t ∧ Claim.After s t k (e.retire E) e.wave v)

/-- R19, R139: the two ways an entity goes on. -/
def Obligations.EntityGoesOn : Prop :=
  ∀ (e : Entity) (last : Bool) (pc : Dword),
    (e.retire last).pc = e.pc + 4 ∧ (e.retire last).chain = { first := none, hint := false, xmod := none, ximm := none } ∧
    ((last = true ∨ 24 ≤ e.words + 1) → (e.retire last).boundary = true ∧ (e.retire last).words = 0 ∧ (e.retire last).buf = []) ∧
    (last = false → e.words + 1 < 24 → (e.retire last).boundary = e.boundary ∧ (e.retire last).words = e.words + 1 ∧ (e.retire last).buf = e.buf.tail) ∧
    (e.jump pc).pc = pc ∧ (e.jump pc).boundary = true ∧ (e.jump pc).chain = { first := none, hint := false, xmod := none, ximm := none } ∧
    ∀ x ∈ [e.retire last, e.jump pc], x.sregs = e.sregs ∧ x.mask = e.mask ∧ x.own = e.own ∧ x.fpctl = e.fpctl ∧ x.trapCause = e.trapCause ∧
      x.trapPc = e.trapPc ∧ x.trapAddr = e.trapAddr ∧ x.fmask = e.fmask ∧ x.hsave = e.hsave ∧ x.level = e.level ∧ x.pairs = e.pairs ∧
      x.park = e.park ∧ x.wave = e.wave

/-- R140, R141, R123, R142, R23: the branches that move the entity as a whole, taken and not taken. -/
def Obligations.BranchWords : Prop :=
  (∀ (s : State) (k : Nat) (e : Entity) (v : Wave) (a : Reg) (o : BitVec 16),
      let off : Dword := match e.chain.ximm with | some x => (x ++ o).signExtend 64 | none => o.signExtend 64
      let target := e.pc + 4 * off
      let x := (e.rS a.toNat).toInt
      let goes := fun (i : Instr) (e' : Entity) => ∃ t, exec i s = .next t ∧ Claim.After s t k e' e.wave v
      (Claim.Issues s k e v [] { ximm := true } → goes (.br o) (e.jump target)) ∧
      (Claim.Issues s k e v [oS a] { ximm := true } →
        ∀ m ∈ [(Instr.beqz, decide (x = 0)), (Instr.bnez, decide (x ≠ 0)), (Instr.bltz, decide (x < 0)), (Instr.bgez, decide (0 ≤ x)),
            (Instr.bgtz, decide (0 < x)), (Instr.blez, decide (x ≤ 0))],
          goes (m.1 a o) (if m.2 then e.jump target else e.retire true)) ∧
      (Claim.Issues s k e v [oS 60] { ximm := true } → goes (.call o) ((e.wS 60 ((e.pc + 4).setWidth 32)).jump target))) ∧
  (∀ (s : State) (k : Nat) (e : Entity) (v : Wave) (q : BitVec 3) (o : BitVec 16) (toff koff : BitVec 11), e.replay = false →
      let neg := match e.chain.xmod with | some x => x.pneg | none => false
      let bit := fun i => (v.rP q.toNat).getLsbD i != neg
      let target := e.pc + 4 * (match e.chain.ximm with | some x => (x ++ o).signExtend 64 | none => o.signExtend 64)
      let goes := fun (i : Instr) (e' : Entity) => ∃ t, exec i s = .next t ∧ Claim.After s t k e' e.wave v
      (Claim.Issues s k e v [oP q] { pneg := true, ximm := true } →
        ((∃ i < 96, e.mask.getLsbD i = true ∧ bit i = true) → goes (.vbany q o) (e.jump target)) ∧
        ((∀ i < 96, e.mask.getLsbD i = true → bit i = false) → goes (.vbany q o) (e.retire true)) ∧
        ((∀ i < 96, e.mask.getLsbD i = true → bit i = true) → goes (.vball q o) (e.jump target)) ∧
        ((∃ i < 96, e.mask.getLsbD i = true ∧ bit i = false) → goes (.vball q o) (e.retire true))) ∧
      (Claim.Issues s k e v [oP q] { pneg := true } →
        ((∀ i < 96, e.mask.getLsbD i = true → bit i = false) → goes (.vbr q toff koff) (e.retire true)) ∧
        ((∃ i < 96, e.mask.getLsbD i = true) → (∀ i < 96, e.mask.getLsbD i = true → bit i = true) →
          goes (.vbr q toff koff) (e.jump (e.pc + 4 * toff.signExtend 64)))))

/-- R141: the call forms: CALL, RET and JMPR, aligned and misaligned. -/
def Obligations.ReturnWords : Prop :=
  ∀ (s : State) (k : Nat) (e : Entity) (v : Wave) (a : Reg) (o : BitVec 16),
    let goes := fun (i : Instr) (e' : Entity) => ∃ t, exec i s = .next t ∧ Claim.After s t k e' e.wave v
    (Claim.Issues s k e v [oS 60] { ximm := true } → ∀ off : Dword,
      off = (match e.chain.ximm with | some x => (x ++ o).signExtend 64 | none => o.signExtend 64) →
      goes (.call o) ((e.wS 60 ((e.pc + 4).setWidth 32)).jump (e.pc + 4 * off))) ∧
    ∀ m ∈ [(Instr.ret, (60 : Reg)), (Instr.jmpr a, a)], Claim.Issues s k e v [oS m.2] {} →
      let target : Dword := e.chainPc.extractLsb' 32 32 ++ e.rS m.2.toNat
      (target.extractLsb' 0 2 = 0 → goes m.1 (e.jump target)) ∧
      (target.extractLsb' 0 2 ≠ 0 → exec m.1 s = .next (raise s k { cause := 0x03, lane := 255, addr := target.toNat } false e.chainPc))

/-- R23: a divergence in detached and in serial mode. -/
def Obligations.DivergenceWord : Prop :=
  ∀ (s : State) (k : Nat) (e : Entity) (v : Wave) (q : BitVec 3) (toff koff : BitVec 11),
    let c := Claim.ctx s k e v
    let taken := c.lanes &&& c.pred q
    let other := c.lanes &&& ~~~(c.pred q)
    let rest := e.own &&& ~~~(taken ||| other)
    let target := e.pc + 4 * toff.signExtend 64
    let token := e.pc + 4 * koff.signExtend 64
    let larger := decide (lanesCount other < lanesCount taken)
    Claim.Issues s k e v [oP q] { pneg := true } → taken ≠ 0 → other ≠ 0 → pendS s k = [] →
      taken &&& other = 0 ∧ taken ||| other = c.lanes ∧
      (∀ f, freeFslot s k = some f →
        ∃ t e' g, exec (.vbr q toff koff) s = .next t ∧ look t.ents k = some e' ∧ look t.ents f = some g ∧
          { t with ents := s.ents } = s ∧ (∀ j, j ≠ k → j ≠ f → look t.ents j = look s.ents j) ∧ k / 8 = f / 8 ∧ look s.ents f = none ∧
          e'.mask = (if larger then taken else other) ∧ e'.own = ((if larger then taken else other) ||| rest) ∧
          e'.pc = (if larger then target else e.pc + 4) ∧ e'.pairs = { token := token, mode := .detached f true } :: e.pairs ∧
          e'.sregs = e.sregs ∧ g.mask = (if larger then other else taken) ∧ g.own = g.mask ∧ g.pc = (if larger then e.pc + 4 else target) ∧
          g.pairs = [{ token := token, mode := .detached k false }] ∧ g.sregs = e.sregs ∧ g.wave = e.wave ∧ g.park = .running) ∧
      (freeFslot s k = none →
        ∃ t e', exec (.vbr q toff koff) s = .next t ∧ Claim.After s t k e' e.wave v ∧ e'.mask = taken ∧ e'.pc = target ∧ e'.sregs = e.sregs ∧
          e'.own = (if larger then taken ||| rest else taken) ∧
          e'.pairs = { token := token, mode := .serialTaken larger other (if larger then other else other ||| rest) (e.pc + 4) e.snap } :: e.pairs)

/-- R25: the table of RCV. -/
def Obligations.ReconvergenceWord : Prop :=
  ∀ (s : State) (k : Nat) (e : Entity) (v : Wave) (E : Bool),
    Claim.Issues s k e v [] {} →
    let run := fun (t : State) => exec (.rcv E) s = .next t
    ((∀ p ∈ e.pairs.head?, p.token ≠ e.pc) → ∃ t, run t ∧ Claim.After s t k (e.retire true) e.wave v) ∧
    (∀ p rest, e.pairs = p :: rest → p.token = e.pc → pendS s k = [] →
      (∀ f stays q, p.mode = .detached f stays → look s.ents f = some q → q.park ≠ .rcv →
        ∃ t e', run t ∧ Claim.After s t k e' e.wave v ∧ e'.park = .rcv ∧ e'.mask = e.mask ∧ e'.own = e.own ∧ e'.sregs = e.sregs) ∧
      (∀ f q y, p.mode = .detached f true → f ≠ k → look s.ents f = some q → q.wave = e.wave → q.park = .rcv →
        q.pairs = [{ token := p.token, mode := .detached k y }] →
        ∃ t e', run t ∧ look t.ents f = none ∧ look t.ents k = some e' ∧ (∀ j, j ≠ k → j ≠ f → look t.ents j = look s.ents j) ∧
          e'.mask = e.mask ||| q.mask ∧ e'.own = e.own ||| q.own ∧ e'.pairs = rest ∧ e'.pc = e.pc + 4 ∧ e'.park = .running ∧ e'.sregs = e.sregs) ∧
      (∀ f q y r, p.mode = .detached f false → f ≠ k → look s.ents f = some q → q.wave = e.wave → q.park = .rcv →
        q.pairs = { token := p.token, mode := .detached k y } :: r →
        ∃ t q', run t ∧ look t.ents k = none ∧ look t.ents f = some q' ∧ (∀ j, j ≠ k → j ≠ f → look t.ents j = look s.ents j) ∧
          q'.mask = q.mask ||| e.mask ∧ q'.own = q.own ||| e.own ∧ q'.pairs = r ∧ q'.pc = e.pc + 4 ∧ q'.park = .running ∧ q'.sregs = q.sregs) ∧
      (∀ larger mask own pc snap, p.mode = .serialTaken larger mask own pc snap →
        ∃ t e', run t ∧ Claim.After s t k e' e.wave v ∧ e'.mask = mask ∧ e'.own = own ∧ e'.pc = pc ∧ e'.sregs = snap.sregs ∧
          e'.fpctl = snap.fpctl ∧ e'.trapPc = snap.trapPc ∧ e'.hsave = snap.hsave ∧
          e'.pairs = { token := p.token, mode := .serialNot larger e.mask e.own e.snap } :: rest) ∧
      (∀ larger mask own snap, p.mode = .serialNot larger mask own snap →
        ∃ t e', run t ∧ Claim.After s t k e' e.wave v ∧ e'.mask = e.mask ||| mask ∧ e'.own = e.own ||| own ∧ e'.pc = e.pc + 4 ∧
          e'.sregs = (if larger then snap.sregs else e.sregs) ∧ e'.fpctl = (if larger then snap.fpctl else e.fpctl) ∧ e'.pairs = rest))

/-- R145, R144, R27: arriving at a barrier, the last arrival, and EXIT without and with an open pair. That the partner of a detached pair takes the
outer records of the exiting side is the model's reading (assumption 25); that a wave which a strike has brought back before a released gang
barrier passes it is left aside by the premise on `gbars` (R277). -/
def Obligations.BarrierAndExitWords : Prop :=
  ∀ (s : State) (k : Nat) (e : Entity) (v : Wave) (E : Bool) (b : Block) (g : Gang),
    Claim.Issues s k e v [] {} → look s.blocks v.block = some b → look s.gangs b.gang = some g → v.block ∈ g.blocks →
    (∀ w ∈ s.waves, w.2.block ∈ g.blocks → g.gbars ≤ w.2.gbars) →
    (∀ m ∈ [(Instr.bar E, Park.bar, [v.block]), (Instr.gbar E, Park.gbar, g.blocks)],
      (e.pairs ≠ [] → exec m.1 s = .next (raise s k { cause := 0x02, lane := 255, addr := 0 } false e.chainPc)) ∧
      (e.pairs = [] → Machine.quiet s k e.wave = true →
        ((∃ x w b', x ∈ s.ents ∧ x.1 ≠ k ∧ look s.waves x.2.wave = some w ∧ w.block = b' ∧ b' ∈ m.2.2 ∧ x.2.park ≠ m.2.1 ∧ x.2.park ≠ .exited) →
          nmapWf s.ents = true →
          ∃ t e', exec m.1 s = .next t ∧ look t.ents k = some e' ∧ e'.park = m.2.1 ∧ e'.resume = e.pc + 4 ∧ e'.sregs = e.sregs) ∧
        ((∀ x w, x ∈ s.ents → x.1 ≠ k → (x.2.wave, w) ∈ s.waves → w.block ∈ m.2.2 → x.2.park = m.2.1 ∨ x.2.park = .exited) →
          s.spilled = [] → nmapWf s.ents = true →
          ∃ t e', exec m.1 s = .next t ∧ look t.ents k = some e' ∧ e'.park = .running ∧ e'.pc = e.pc + 4 ∧ e'.sregs = e.sregs))) ∧
    (e.pairs = [] → v.gen = none →
      ∃ t e' n, exec .exit s = .next t ∧ look t.ents k = some e' ∧ e'.park = .exited ∧ e'.pairs = [] ∧
        look t.waves e.wave = some { v with gbars := n }) ∧
    (∀ p rest, e.pairs = p :: rest → v.gen = none → pendS s k = [] →
      (∀ f stays q y r, p.mode = .detached f stays → f ≠ k → look s.ents f = some q → q.park ≠ .bar → q.park ≠ .gbar →
        q.pairs = { token := p.token, mode := .detached k y } :: r → (∀ x ∈ r, ∀ z, x.mode ≠ .detached k z) →
        ∃ t e' q', exec .exit s = .next t ∧ look t.ents k = some e' ∧ e'.park = .exited ∧ e'.pairs = [] ∧ look t.ents f = some q' ∧
          q'.pairs = r ++ rest ∧ q'.mask = q.mask ∧ q'.own = q.own ∧ q'.sregs = q.sregs ∧
          (q.park = .rcv → q'.park = .running ∧ q'.pc = q.resume) ∧ (q.park ≠ .rcv → q'.park = q.park ∧ q'.pc = q.pc)) ∧
      (∀ larger mask own pc snap, p.mode = .serialTaken larger mask own pc snap → e.park = .running →
        ∃ t e', exec .exit s = .next t ∧ look t.ents k = some e' ∧ e'.mask = mask ∧ e'.own = own ∧ e'.pc = pc ∧ e'.pairs = rest ∧
          e'.sregs = snap.sregs ∧ e'.fpctl = snap.fpctl ∧ e'.trapPc = snap.trapPc ∧ e'.hsave = snap.hsave ∧ e'.park = .running) ∧
      (∀ larger mask own snap, p.mode = .serialNot larger mask own snap → e.park = .running →
        ∃ t e', exec .exit s = .next t ∧ look t.ents k = some e' ∧ e'.mask = mask ∧ e'.own = own ∧ e'.pc = p.token + 4 ∧ e'.pairs = rest ∧
          e'.sregs = snap.sregs ∧ e'.fpctl = snap.fpctl ∧ e'.trapPc = snap.trapPc ∧ e'.hsave = snap.hsave ∧ e'.park = .running))

/-- R147, R148, R259: every special register, read and written, the privilege rule of the handler's registers, and the traps of the others. CYCLE
is a core's own count, 0 at reset; in service it starts where the model leaves free, as the cores leave reset while the part boots (assumption 9). -/
def Obligations.SpecialRegisterWords : Prop :=
  ∀ (s : State) (k : Nat) (e : Entity) (v : Wave) (E : Bool) (r : Reg) (b : Block) (g : Gang),
    look s.blocks v.block = some b → look s.gangs b.gang = some g →
    let grid := fun (f : Record → Nat) => (match v.owner with | .launch l => ((look s.launches l).map (fun x => f x.record)).getD 1 | .tree _ => 1)
    let trapTo := fun (i : Instr) (cause : Nat) => exec i s = .next (raise s k { cause := cause, lane := 255, addr := 0 } false e.chainPc)
    (Claim.Issues s k e v [oS r] {} →
      (∀ m ∈ ([(0x00, BitVec.ofNat 32 (k / 8 % 4 * 2 ^ 10 + k % 8 * 2 ^ 7 + v.wib)), (0x01, BitVec.ofNat 32 b.x), (0x02, BitVec.ofNat 32 b.y),
          (0x03, BitVec.ofNat 32 b.z), (0x04, BitVec.ofNat 32 b.lin), (0x05, BitVec.ofNat 32 g.id), (0x06, BitVec.ofNat 32 b.rank),
          (0x07, BitVec.ofNat 32 (k / 32 % 64)), (0x08, BitVec.ofNat 32 (k / 32 / 64)), (0x09, s.ctl.chipId.setWidth 32),
          (0x0A, BitVec.ofNat 32 (grid Record.gridX)), (0x0B, BitVec.ofNat 32 (grid Record.gridY)), (0x0C, BitVec.ofNat 32 (grid Record.gridZ)),
          (0x10, v.fpstat), (0x11, e.fpctl), (0x14, timeLeft s v.owner), (0x15, energyLeft s v.owner), (0x16, v.passIdx), (0x18, e.trapCause),
          (0x20, e.fmask.extractLsb' 0 32), (0x21, e.fmask.extractLsb' 32 32), (0x22, e.fmask.extractLsb' 64 32)] : List (Reg × Word)),
        ∃ t, exec (.srd E r m.1) s = .next t ∧ Claim.After s t k ((e.wS r.toNat m.2).retire E) e.wave v) ∧
      (∀ n : Reg, n.toNat < 4 →
        (e.level = true → ∃ t, exec (.srd E r (0x24 + n)) s = .next t ∧
          Claim.After s t k ((e.wS r.toNat ((look e.hsave n.toNat).getD 0)).retire E) e.wave v) ∧
        (e.level = true → ∃ t, exec (.swr E r (0x24 + n)) s = .next t ∧
          Claim.After s t k (({ e with hsave := put e.hsave n.toNat (e.rS r.toNat) } : Entity).retire E) e.wave v) ∧
        (e.level = false → trapTo (.srd E r (0x24 + n)) 0x04 ∧ trapTo (.swr E r (0x24 + n)) 0x04)) ∧
      (∃ t, exec (.swr E r 0x10) s = .next t ∧ Claim.After s t k (e.retire E) e.wave { v with fpstat := e.rS r.toNat &&& 31 }) ∧
      (∃ t, exec (.swr E r 0x11) s = .next t ∧ Claim.After s t k (({ e with fpctl := e.rS r.toNat &&& 3 } : Entity).retire E) e.wave v) ∧
      (∀ n : Reg, n.toNat < 0x0D ∨ n ∈ ([0x14, 0x15, 0x16, 0x18, 0x20, 0x21, 0x22] : List Reg) → trapTo (.swr E r n) 0x02) ∧
      (∀ n : Reg, 0x28 ≤ n.toNat ∨ n ∈ ([0x0D, 0x0F, 0x13, 0x17, 0x19, 0x1B, 0x1D, 0x1E, 0x1F, 0x23] : List Reg) →
        trapTo (.srd E r n) 0x01 ∧ trapTo (.swr E r n) 0x01)) ∧
    (Claim.Issues s k e v [oS2 r] {} →
      (∀ m ∈ ([(0x0E, b.tags), (0x12, BitVec.ofNat 64 ((if s.ctl.bootState < 4 then 0 else Config.cycleStart s.resetAt (k / 32)) + coreCycles s (k / 32))), (0x1A, e.trapPc), (0x1C, e.trapAddr)] :
          List (Reg × Dword)),
        ∃ t, exec (.srd E r m.1) s = .next t ∧ Claim.After s t k ((e.wPair r.toNat m.2).retire E) e.wave v) ∧
      (e.level = true → ∃ t, exec (.swr E r 0x1A) s = .next t ∧
        Claim.After s t k (({ e with trapPc := e.rPair r.toNat &&& 0x00FFFFFFFFFFFFFF } : Entity).retire E) e.wave v) ∧
      (e.level = false → trapTo (.swr E r 0x1A) 0x04) ∧ (∀ n ∈ ([0x0E, 0x12, 0x1C] : List Reg), trapTo (.swr E r n) 0x02))

/-- R253: taking a trap, as one step. Bits [63:56] of TRAP_PC are zero (R147). -/
def Obligations.TrapEntry : Prop :=
  ∀ (s : State) (k : Nat) (e : Entity) (v : Wave) (x : Trap) (async : Bool) (pc : Dword),
    look s.ents k = some e → look s.waves e.wave = some v → v.handler ≠ 0 → e.level = false → x.cause < 2 ^ 8 → x.lane < 2 ^ 8 →
    ∃ e', Claim.After s (raise s k x async pc) k e' e.wave v ∧
      e'.trapCause = BitVec.ofNat 32 (x.lane * 2 ^ 16 + async.toNat * 2 ^ 8 + x.cause) ∧ e'.trapPc = pc &&& 0x00FFFFFFFFFFFFFF ∧
      (pc.toNat < 2 ^ 56 → e'.trapPc = pc) ∧ e'.trapAddr = BitVec.ofNat 64 x.addr ∧ e'.level = true ∧ e'.pc = (pc.extractLsb' 32 32 ++ v.handler.extractLsb' 0 32) ∧ e'.park = .running ∧ e'.boundary = true ∧
      e'.sregs = e.sregs ∧ e'.mask = e.mask ∧ e'.own = e.own ∧ e'.fpctl = e.fpctl ∧ e'.fmask = e.fmask ∧ e'.hsave = e.hsave ∧ e'.pairs = e.pairs

/-- R149, R150, R127, R256: the words whose effect is to enter or leave the handler; R120, R122, R124, R259: prefixes that a word does not accept and
register fields that are illegal; R275: poisoned registers. How register granules are numbered in a report is the model's choice (assumption 83), and
so is the unit that their consumption names (assumption 68). -/
def Obligations.TrapWords : Prop :=
  (∀ (s : State) (k : Nat) (e : Entity) (v : Wave) (n : BitVec 7) (w : Word),
    let trapTo := fun (i : Instr) (cause addr : Nat) => exec i s = .next (raise s k { cause := cause, lane := 255, addr := addr } false e.chainPc)
    (Claim.Issues s k e v [] {} →
      trapTo (.trap n) (0x80 + n.toNat) 0 ∧
      (e.level = false → trapTo .tret 0x04 0) ∧
      (e.level = true → e.trapPc.extractLsb' 0 2 = 0 → ∃ t, exec .tret s = .next t ∧
        Claim.After s t k { e.jump e.trapPc with level := false } e.wave v) ∧
      (e.level = true → e.trapPc.extractLsb' 0 2 ≠ 0 → trapTo .tret 0x03 e.trapPc.toNat)) ∧
    (Claim.Issues s k e v [] { pneg := true } →
      trapTo (.illegalWord w) (if w.extractLsb' 25 6 = 0x1B ∧ w.extractLsb' 3 4 = 1 then 0x02 else 0x01) 0) ∧
    (∀ x async pc b g, nmapWf s.ents = true → look s.ents k = some e → look s.waves e.wave = some v → look s.blocks v.block = some b →
      look s.gangs b.gang = some g → v.block ∈ g.blocks → (v.handler = 0 ∨ e.level = true) →
      look (raise s k x async pc).ents k = none)) ∧
  (∀ (s : State) (k : Nat) (e : Entity) (v : Wave) (E : Bool) (d a b : Reg) (p q : BitVec 3) (i : BitVec 13) (o : BitVec 16),
    let pred : Accept := { pneg := true }
    let plain : List (Instr × List Operand × Accept) :=
      [(.add E d a b, [oS d, oS a, oS b], {}), (.addi E d a i, [oS d, oS a], { ximm := true }), (.add64 E d a b, [oS2 d, oS2 a, oS2 b], {}),
       (.shl64 E d a b, [oS2 d, oS2 a, oS b], {}), (.popcI64 E d a, [oS d, oS2 a], {}), (.beqz a o, [oS a], { ximm := true }),
       (.call o, [oS 60], { ximm := true }), (.jmpr a, [oS a], {}), (.vbany p o, [oP p], { pneg := true, ximm := true }), (.pause E a, [oS a], {}),
       (.icinv E a b, [oS2 a, oS b], {}), (.vadd E d a b p, [oV d, oV a, oV b, oP p], pred), (.vcmp E q a b 0 p, [oP q, oV a, oV b, oP p], pred),
       (.vsel E d a b p, [oV d, oV a, oV b, oP p], pred), (.vbcs E d a p, [oV d, oS a, oP p], pred),
       (.vfadd E d a b p, [oV d, oV a, oV b, oP p], { pneg := true, rm := true }),
       (.vcvt E d a 0 11 p, [oV2 d, oV a, oP p], { pneg := true, rm := true, sat := true }),
       (.vqpack E d a b p, [oV d, oV a, oS b, oP p], { pneg := true, rm := true }), (.vshfl E d a b p, [oV d, oV a, oV b, oP p], pred),
       (.pand E q q q p, [oP q, oP q, oP q, oP p], pred),
       (.vlds E d a b 4 p, [oV d, oS a, oV b, oP p], { pneg := true, scope := true }),
       (.vlds E d a b 5 p, [oV2 d, oS a, oV b, oP p], { pneg := true, scope := true }),
       (.slds E d a b false 5, [oS2 d, oS a], { scope := true, ximm := true }), (.old E d a b 4, [oV d, oS a, oV b], { scope := true, ord := [1] }),
       (.ost E d a b 4, [oV d, oS a, oV b], { scope := true, ord := [2] }), (.twait E a, [oS2 a], {}), (.mzero E 0 0 0 a, [oS a], {}), (.mma E 0 a b, [oS a, oGroup b 8], {}), (.pass E d a, [oS2 d, oS a], {}),
       (.seal E a b, [oS a, oS b], {}), (.vget E d a, [oGroup d 8, oS a], {}), (.qcvt E d a, [oS d, oS a], {}), (.jinit E a b, [oS a, oS b], {}),
       (.gchk E, [], {}), (.nop E, [], {}), (.trap 0, [], {})]
    let global : List (Instr × List Operand × Accept) :=
      [(.vld E d a b false 4 p, [oV d, oS2 a, oV b, oP p], { pneg := true, scope := true, ch := true }),
       (.vst E d a b false 5 p, [oV2 d, oS2 a, oV b, oP p], { pneg := true, scope := true, ch := true }),
       (.sld E d a b false 4, [oS d, oS2 a], { scope := true, ximm := true, ch := true }),
       (.vatom E d a b 0 0, [oV d, oS2 a, oV b], { scope := true }), (.cpy E d a b, [oGroup a 4, oGroup b 4], { ch := true }),
       (.srd E d 0, [oS d], {}), (.swr E d 0x10, [oS d], {}), (.tret, [], {})]
    let trapTo := fun (i : Instr) (cause : Nat) => exec i s = .next (raise s k { cause := cause, lane := 255, addr := 0 } false e.chainPc)
    (∀ m ∈ plain ++ global, Claim.Ready s k e v m.2.1 → m.2.2.chainOk e.chain = false → trapTo m.1 0x01) ∧
    (∀ m ∈ plain, Claim.Ready s k e v m.2.1 → m.2.2.chainOk e.chain = true → m.2.1.all (fun o => o.ok v.vlimit) = false → trapTo m.1 0x02)) ∧
  (∀ (s : State) (k : Nat) (e : Entity) (v : Wave) (E : Bool) (d a b : Reg) (p : BitVec 3) (o : BitVec 16), e.replay = false →
    let legal := fun (ops : List Operand) (acc : Accept) =>
      Claim.Ready s k e v ops ∧ acc.chainOk e.chain = true ∧ ops.all (fun o => o.ok v.vlimit) = true ∧ genTraps v k ops = []
    let neg := match e.chain.xmod with | some x => x.pneg | none => false
    let active := fun i => e.mask.getLsbD i = true ∧ ((v.rP p.toNat).getLsbD i != neg) = true
    (∀ m ∈ ([(.add E d a b, [oS d, oS a, oS b], {}, [a, b]), (.popc E d a, [oS d, oS a], {}, [a]), (.beqz a o, [oS a], { ximm := true }, [a])] :
        List (Instr × List Operand × Accept × List Reg)), legal m.2.1 m.2.2.1 →
      ∀ n ∈ m.2.2.2, Poison.scalar e.wave k n.toNat ∈ s.poison →
        (∀ r ∈ m.2.2.2, Poison.scalar e.wave k r.toNat ∈ s.poison → r = n) →
        exec m.1 s = .next (consume s e.wave (k / 32) 0 (4 * n.toNat))) ∧
    (legal [oS d, oS a, oS b] {} → Poison.scalar e.wave k a.toNat ∉ s.poison → Poison.scalar e.wave k b.toNat ∉ s.poison →
      ∃ t, exec (.add E d a b) s = .next t ∧ (∀ g, g ∈ t.poison ↔ g ∈ s.poison ∧ g ≠ Poison.scalar e.wave k d.toNat) ∧
        Claim.After s { t with poison := s.poison } k ((e.wS d.toNat (e.rS a.toNat + e.rS b.toNat)).retire E) e.wave v) ∧
    (legal [oV d, oV a, oV b, oP p] { pneg := true } →
      let reads := fun (rs : List Reg) (g : Poison) => (∃ r ∈ rs, ∃ i, active i ∧ g = Poison.vector e.wave r.toNat i) ∨
        ∃ j < 3, (∃ i, 32 * j ≤ i ∧ i < 32 * j + 32 ∧ e.mask.getLsbD i = true) ∧ g = Poison.predicate e.wave p.toNat j
      (∀ m ∈ [(Instr.vadd E d a b p, [a, b]), (Instr.vmad E d a b p, [d, a, b])],
        ∀ g ∈ s.poison, reads m.2 g → (∀ h ∈ s.poison, reads m.2 h → h = g) →
          (∀ n i, g = Poison.vector e.wave n i → exec m.1 s = .next (consume s e.wave (k / 32) 0 (2 ^ 16 + 384 * n + 4 * i))) ∧
          (∀ n j, g = Poison.predicate e.wave n j → exec m.1 s = .next (consume s e.wave (k / 32) 0 (2 ^ 20 + 12 * n + 4 * j)))) ∧
      ((∀ g ∈ s.poison, ¬ reads [a, b] g) →
        ∃ t, exec (.vadd E d a b p) s = .next t ∧
          ∀ g, g ∈ t.poison ↔ g ∈ s.poison ∧ ¬ ∃ i, active i ∧ g = Poison.vector e.wave d.toNat i)))

/-- R122 to R127, R146, R151, R152: the words that only hold or mark the entity. -/
def Obligations.HoldAndPrefixWords : Prop :=
  ∀ (s : State) (k : Nat) (e : Entity) (v : Wave) (E : Bool) (a b : Reg),
    let goes := fun (i : Instr) (e' : Entity) => ∃ t, exec i s = .next t ∧ Claim.After s t k e' e.wave v
    (Claim.Issues s k e v [] {} →
      goes (.nop E) (e.retire E) ∧
      (∀ m : BitVec 2, e.chain = { first := none, hint := false, xmod := none, ximm := none } → goes (.hintRegionNop E m) (e.retire E)) ∧
      ((∀ i ∈ s.icinvs, ¬ (i.ent = k ∧ i.wave = e.wave)) → goes .ifence (e.jump (e.pc + 4))) ∧
      ((∃ i ∈ s.icinvs, i.ent = k ∧ i.wave = e.wave) → goes .ifence { e.jump e.chainPc with park := .icinv, resume := e.pc + 4 })) ∧
    (Claim.Issues s k e v [oS a] {} → goes (.pause E a) { e.jump e.chainPc with
        park := .pause (coreCycles s (k / 32) + max 1 ((e.rS a.toNat).toNat % 2 ^ 16))
        resume := e.pc + 4 }) ∧
    (Claim.Issues s k e v [oS2 a, oS b] {} →
      ∃ t i, exec (.icinv E a b) s = .next t ∧ Claim.AfterSend s t k (e.retire E) e.wave v ∧ t.icinvs = s.icinvs ++ [i] ∧
        i.ent = k ∧ i.wave = e.wave ∧ i.asid = v.asid ∧ i.base = (e.rPair a.toNat).toNat ∧ i.len = (e.rS b.toNat).toNat ∧
        i.all = decide (e.rS b.toNat = 0)) ∧
    (Claim.At s k e v → pendingHit s k e.wave [] = false → genTraps v k [] = [] →
      (∀ x ∈ e.chain.xmod, x.scope.toNat < 6 ∧ x.ch ≠ 3) →
      ∀ (i25 : BitVec 25) (pneg rmv : Bool) (rm : BitVec 2) (sat scv : Bool) (scope : BitVec 3) (ch ord : BitVec 2) (h : BitVec 5),
        let x : Xmod := { pneg := pneg, rmv := rmv, rm := rm, sat := sat, scv := scv, scope := scope, ch := ch, ord := ord }
        let kept := fun (c : Chain) => ({ e with
          pc := e.pc + 4, chain := { c with first := some e.chainPc }, buf := e.buf.tail, words := e.words + 1, stalled := none } : Entity)
        let bad := fun (i : Instr) => exec i s = .next (raise s k { cause := 0x01, lane := 255, addr := 0 } false e.chainPc)
        (e.words + 1 < 24 →
          (e.chain.ximm = none → goes (.ximm i25) (kept { e.chain with ximm := some i25 })) ∧
          (e.chain.ximm = none → e.chain.xmod = none → goes (.xmod pneg rmv rm sat scv scope ch ord) (kept { e.chain with xmod := some x })) ∧
          (e.chain.ximm = none → e.chain.xmod = none → e.chain.hint = false → goes (.hint h) (kept { e.chain with hint := true }))) ∧
        (e.chain.ximm.isSome → bad (.ximm i25)) ∧
        (e.chain.ximm.isSome ∨ e.chain.xmod.isSome → bad (.xmod pneg rmv rm sat scv scope ch ord)) ∧
        (e.chain.ximm.isSome ∨ e.chain.xmod.isSome ∨ e.chain.hint → bad (.hint h)) ∧
        (24 ≤ e.words + 1 → bad (.ximm i25) ∧ bad (.xmod pneg rmv rm sat scv scope ch ord) ∧ bad (.hint h)))

/-- R75, R187 to R190: a copy at issue: what it captures, its frames, its causes. The addresses that causes carry, and which row bytes name none, are
the model's choices (assumptions 73, 74). -/
def Obligations.CopyWords : Prop :=
  ∀ (s s' : State) (k : Nat) (e : Entity) (v : Wave) (E : Bool) (tag a b : Reg) (blk : Block) (gg : Gang),
    let c := Claim.ctx s k e v
    Claim.Issues s k e v [oGroup a 4, oGroup b 4] { ch := true } → look s.blocks v.block = some blk → look s.gangs blk.gang = some gg →
    (∀ x ∈ gg.blocks, (look s.blocks x).isSome) →
    ∀ m ∈ ([(Instr.cpy, false), (Instr.cpyg, true)] : List ((Bool → Reg → Reg → Reg → Instr) × Bool)),
      let i := copyIssue c m.2 tag a b
      let r := fun (g : Reg) (n : Nat) => (e.rS (g.toNat + n)).toNat
      let sides := [(i.copy.src, a, false), (i.copy.dst, b, true)]
      -- what it captures
      (i.copy.tag = tag.toNat ∧ i.copy.gather = m.2 ∧ i.copy.block = v.block ∧ i.copy.row = 0 ∧ i.copy.asid = v.asid ∧
        i.copy.bytes = r a 2 % 2 ^ 16 ∧ i.copy.rows = (if i.copy.bytes = 0 then 0 else r a 2 / 2 ^ 16) ∧ i.copy.index = r b 2 % 2 ^ 19 ∧
        ∀ x ∈ sides, let o := x.1; let g := x.2.1
          o.space = r g 3 % 8 ∧
          (o.space ≤ 1 → o.base = r g 0 % 2 ^ 19 ∧ o.rot = r g 0 / 2 ^ 19 % 8 ∧ o.pitch = r g 1 % 2 ^ 16) ∧
          (o.space = 0 → o.core = blk.core ∧ o.frame = blk.frame ∧ o.frames = blk.frames) ∧
          (o.space = 1 → ∀ n y, gg.blocks[r g 3 / 256 % 16]? = some n → look s.blocks n = some y →
            o.core = y.core ∧ o.frame = y.frame ∧ o.frames = y.frames) ∧
          (o.space = 2 → o.base = r g 0 % 2 ^ 30 ∧ o.pitch = r g 3 / 2 ^ 8) ∧
          (o.space = 3 → o.base = r g 0 + r g 1 * 2 ^ 32 ∧ o.pitch = r g 3 / 2 ^ 8)) ∧
      -- its causes
      (∀ cause, (∃ t ∈ i.traps, t.cause = cause) ↔
        (cause = 0x20 ∧ blk.ntags ≤ tag.toNat) ∨
        (cause = 0x02 ∧ (4 ≤ i.copy.src.space ∨ 4 ≤ i.copy.dst.space ∨ i.copy.dst.pitch < i.copy.bytes ∨
          ∃ x ∈ sides, x.1.space ≤ 1 ∧ x.1.rot ≠ 0 ∧ (x.1.base % 256 ≠ 0 ∨ x.1.pitch % 256 ≠ 0 ∨ r x.2.1 1 / 2 ^ 16 % 4 ≠ 0))) ∨
        (cause = 0x03 ∧ (i.copy.bytes % 8 ≠ 0 ∨ ∃ x ∈ sides, x.1.space < 4 ∧ (x.1.base % 8 ≠ 0 ∨ x.1.pitch % 8 ≠ 0))) ∨
        (cause = 0x12 ∧ ((∃ x ∈ sides, x.1.space = 1 ∧ gg.blocks.length ≤ r x.2.1 3 / 256 % 16) ∨
          (m.2 = true ∧ 0 < i.copy.rows ∧ blk.frames * 1024 < i.copy.index + 4 * i.copy.rows))) ∨
        ∃ x ∈ sides, (m.2 = true → x.2.2 = true) ∧ ∃ q < i.copy.rows,
          (x.1.space ≤ 1 ∧ cause = 0x12 ∧ x.1.frames * 1024 < x.1.base + q * x.1.pitch + i.copy.bytes) ∨
          (x.1.space = 2 ∧ ∃ o ∈ [x.1.base + q * x.1.pitch, x.1.base + q * x.1.pitch + i.copy.bytes - 1],
            (cause = 0x12 ∧ orngClosed o = true) ∨
            (cause = 0x11 ∧ orngClosed o = false ∧ orngCode s v.asid o ∉ (if x.2.2 then [2] else [1, 2]))) ∨
          (x.1.space = 3 ∧ ∃ va ∈ pageStarts (x.1.base + q * x.1.pitch) i.copy.bytes,
            cause ∈ (xlate s c.core v.asid (if x.2.2 then .copyWrite else .copyRead) va).causes)) ∧
      (∀ t, Claim.FirstOf i.traps t → exec (m.1 E tag a b) s = .next (raise s k t false e.chainPc)) ∧
      -- its scope, its frames, its effect
      (i.traps = [] →
        (∀ x ∈ sides, (match x.1.space with | 0 => 1 | 1 => 2 | _ => 4) ≤ i.scope) ∧
        ((∀ x ∈ sides, x.1.space < 3) → ∃ x ∈ sides, i.scope = (match x.1.space with | 0 => 1 | 1 => 2 | _ => 4)) ∧
        (m.2 = false → (i.scope = 5 ↔ ∃ x ∈ sides, x.1.space = 3 ∧ ∃ q < i.copy.rows, ∃ va ∈ pageStarts (x.1.base + q * x.1.pitch) i.copy.bytes,
          ∃ p, (xlate s c.core v.asid (if x.2.2 then .copyWrite else .copyRead) va).pa = some p ∧ target p = .host)) ∧
        (∀ f, f ∈ i.copy.writes ↔ i.copy.dst.space ≤ 1 ∧ ∃ q < i.copy.rows, ∃ j < i.copy.bytes,
          f = (i.copy.dst.core, (i.copy.dst.frame * 1024 + i.copy.dst.base + q * i.copy.dst.pitch + j) / 1024)) ∧
        (m.2 = false → ∀ f, f ∈ i.copy.reads ↔ i.copy.src.space ≤ 1 ∧ ∃ q < i.copy.rows, ∃ j < i.copy.bytes,
          f = (i.copy.src.core, (i.copy.src.frame * 1024 + i.copy.src.base + q * i.copy.src.pitch + j) / 1024)) ∧
        (blk.tags.getLsbD tag.toNat = false → exec (m.1 E tag a b) s = .next (noteStall s k)) ∧
        (2 ≤ i.scope → waveStores s c.core e.wave = true → exec (m.1 E tag a b) s = .next (noteStall s k)) ∧
        (c.acquiring = false → blk.tags.getLsbD tag.toNat = true → (s.core c.core).data.copies.length < 16 →
          setsBusy s i.copy.reads i.copy.writes = false → (2 ≤ i.scope → waveStores s c.core e.wave = false) →
          Claim.Released c (decide (2 ≤ i.scope)) i.scope s' →
          ∃ t blk', exec (m.1 E tag a b) s = .next t ∧
            Claim.AfterSend s t k (({ (c.behind s').e with progress := true } : Entity).retire E) e.wave v ∧
            (t.core c.core).data.copies = (s.core c.core).data.copies ++ [i.copy] ∧
            (t.core c.core).data.scratch = (s.core c.core).data.scratch ∧ look t.blocks v.block = some blk' ∧
            ∀ n, blk'.tags.getLsbD n = (blk.tags.getLsbD n && decide (n ≠ tag.toNat))))

/-- R75, R191, R204: the wait instructions on the block's tags and on a tile's ASN. MASN and MWAIT are matrix instructions, whose issue starts the
hang count again (R193, R267). -/
def Obligations.TagAndTileWaitWords : Prop :=
  (∀ (s : State) (k : Nat) (e : Entity) (v : Wave) (E : Bool) (d a : Reg) (blk : Block), look s.blocks v.block = some blk →
      let m := e.rPair a.toNat
      let goes := fun (i : Instr) (e' : Entity) => ∃ t, exec i s = .next t ∧ Claim.After s t k e' e.wave v
      (Claim.Issues s k e v [oS2 a] {} →
        ((∀ n, m.getLsbD n = true → blk.tags.getLsbD n = true) → goes (.twait E a) (e.retire true)) ∧
        ((∃ n, m.getLsbD n = true ∧ blk.tags.getLsbD n = false) →
          goes (.twait E a) { e.jump e.chainPc with park := .tags false m, resume := e.pc + 4 }) ∧
        ((m = 0 ∨ ∃ n, m.getLsbD n = true ∧ blk.tags.getLsbD n = true) → goes (.tany E a) (e.retire true)) ∧
        (m ≠ 0 → (∀ n, m.getLsbD n = true → blk.tags.getLsbD n = false) →
          goes (.tany E a) { e.jump e.chainPc with park := .tags true m, resume := e.pc + 4 })) ∧
      (Claim.Issues s k e v [oS d, oS2 a] {} →
        (∀ n, n < 64 → m.getLsbD n = true → blk.tags.getLsbD n = true → (∀ j < n, ¬ (m.getLsbD j = true ∧ blk.tags.getLsbD j = true)) →
          goes (.tfirst E d a) ((e.wS d.toNat (BitVec.ofNat 32 n)).retire E)) ∧
        (m &&& blk.tags = 0 → goes (.tfirst E d a) ((e.wS d.toNat 0xFFFFFFFF).retire E)))) ∧
  (∀ (s : State) (k : Nat) (e : Entity) (v : Wave) (E : Bool) (d a : Reg) (z : BitVec 2) (asn : Nat),
      (look (s.core (k / 32)).data.asn z.toNat).getD 0 = asn → asn < 2 ^ 16 →
      let w : Nat := (e.rS a.toNat).toNat % 2 ^ 16
      (Claim.Issues s k e v [oS d] {} →
        ∃ t, exec (.masn E d z) s = .next t ∧
          Claim.After s t k (({ e.wS d.toNat (BitVec.ofNat 32 asn) with progress := true } : Entity).retire E) e.wave v) ∧
      (Claim.Issues s k e v [oS a] {} →
        ((((asn : Int) - w) % 2 ^ 16 < 2 ^ 15) → ∃ t, exec (.mwait z a) s = .next t ∧
          Claim.After s t k (({ e with progress := true } : Entity).retire true) e.wave v) ∧
        (((2 : Int) ^ 15 ≤ ((asn : Int) - w) % 2 ^ 16) → ∃ t, exec (.mwait z a) s = .next t ∧
          Claim.After s t k { ({ e with progress := true } : Entity).jump e.chainPc with park := .tile z.toNat w, resume := e.pc + 4 } e.wave v)))

/-- R193 to R202, R208: engine instructions at issue: what is captured, what is read, where they trap. An operand in vector registers has no base, so
its base registers raise nothing (assumption 67); NP = 0 of MREF stands for m − FP (assumption 75). -/
def Obligations.MatrixIssueWords : Prop :=
  (∀ (s : State) (k : Nat) (e : Entity) (v : Wave) (E : Bool) (d a b : Reg) (r q z : BitVec 2),
    let c := Claim.ctx s k e v
    ∀ m ∈ ([(Instr.mzero E r q z a, [oS a], {}, zeroIssue c (r.toNat + 1) (q.toNat + 1) z a),
        (Instr.mma E z a b, [oS a, oGroup b 8], {}, stepsIssue c .steps true false 1 1 z a b),
        (Instr.mloop E r q z a b, [oS a, oGroup b 8], {}, stepsIssue c .steps false false (r.toNat + 1) (q.toNat + 1) z a b),
        (Instr.mref E r q z a b, [oS a, oGroup b 8], {}, stepsIssue c .steps false true (r.toNat + 1) (q.toNat + 1) z a b),
        (Instr.mldz E z a b, [oS a, oGroup b 4], {}, tileIssue c false z a b),
        (Instr.mstore E z a b, [oS a, oGroup b 4], { rm := true, sat := true }, tileIssue c true z a b),
        (Instr.mread E d a z, [oV d, oS2 a], {}, readIssue c d a z),
        (Instr.mbound E r q z a b, [oS a, oGroup b 8], {}, stepsIssue c .bound false false (r.toNat + 1) (q.toNat + 1) z a b)] :
        List (Instr × List Operand × Accept × EngineIssue)),
      let i := m.2.2.2
      let causes := i.traps ++ regionTraps i.pos i.regions ++ genTraps v k i.vregs
      Claim.Issues s k e v m.2.1 m.2.2.1 →
      (∀ t, Claim.FirstOf causes t → exec m.1 s = .next (raise s k t false e.chainPc)) ∧
      (causes = [] →
        i.op.z = z.toNat ∧ i.op.e = (e.rS a.toNat).toNat % 2 ^ 16 ∧ i.op.ent = k ∧ i.op.wave = e.wave ∧ i.op.asid = v.asid ∧
        ((∃ x ∈ i.op.cores, 8 ≤ (s.core x).data.queue.length + (s.core x).data.enroute.length) → exec m.1 s = .next (noteStall s k)) ∧
        (c.acquiring = false → pendingHit s k e.wave i.vregs = false → (∀ x ∈ i.vsrc, pendAll s c.core e.wave x 16 = false) →
          (∀ x ∈ i.op.cores, (s.core x).data.queue.length + (s.core x).data.enroute.length < 8) →
          setsBusy s (regionFrames i.pos i.regions false) (regionFrames i.pos i.regions true) = false → i.op.cores.Nodup →
          ∃ t, exec m.1 s = .next t ∧
            Claim.AfterSend s { t with hist := s.hist } k (({ e with progress := true } : Entity).retire E) e.wave v ∧
            t.hist = (rememberGrid s c.core i.op).hist ∧
            (∀ x ∈ i.op.cores, (t.core x).data = { (s.core x).data with enroute := (s.core x).data.enroute ++
              [{ i.op with reads := regionFrames i.pos i.regions false, writes := regionFrames i.pos i.regions true, queuedAt := s.now }] }) ∧
            (∀ x, x ∉ i.op.cores → t.core x = s.core x)))) ∧
  -- what is captured, and the causes
  (∀ (s : State) (k : Nat) (e : Entity) (v : Wave) (d a b : Reg) (z : BitVec 2) (blk : Block) (gg : Gang),
    look s.blocks v.block = some blk → look s.gangs blk.gang = some gg → (∀ x ∈ gg.blocks, (look s.blocks x).isSome) →
    let c := Claim.ctx s k e v
    let reg := fun (n : Nat) => (e.rS (b.toNat + n)).toNat
    let operand := fun (n : Nat) =>
      ({ base := reg n % 2 ^ 19, rot := reg n / 2 ^ 19 % 8, pitch := reg (n + 1) % 2 ^ 16, tile := reg (n + 1) / 2 ^ 16 % 2 ^ 16 } : OpBase)
    let turned := fun (o : OpBase) => o.rot ≠ 0 ∧ (o.base % 256 ≠ 0 ∨ o.pitch % 256 ≠ 0 ∨ o.tile % 4 ≠ 0)
    let places := fun (rows cols : Nat) (i : EngineIssue) =>
      i.op.rows = rows ∧ i.op.cols = cols ∧
      (rows * cols = 1 → i.op.cores = [blk.core] ∧ i.op.frames = [(blk.frame, blk.frames)]) ∧
      (1 < rows * cols → blk.rank = 0 → rows * cols ≤ gg.blocks.length → i.op.cores.length = rows * cols ∧ i.op.frames.length = rows * cols ∧
        ∀ j x y, j < rows * cols → gg.blocks[j]? = some x → look s.blocks x = some y →
          i.op.cores[j]? = some y.core ∧ i.op.frames[j]? = some (y.frame, y.frames))
    let gridBad := fun (rows cols : Nat) => 1 < rows * cols ∧ (blk.rank ≠ 0 ∨ gg.blocks.length < rows * cols)
    (∀ m ∈ ([(.steps, true, false, true), (.steps, false, false, false), (.steps, false, true, false), (.bound, false, false, false)] :
        List (EngineKind × Bool × Bool × Bool)), ∀ rows cols : Nat, 1 ≤ rows → rows ≤ 4 → 1 ≤ cols → cols ≤ 4 → (m.2.2.2 = true → rows = 1 ∧ cols = 1) →
      let i := stepsIssue c m.1 m.2.1 m.2.2.1 rows cols z a b
      let off := reg 0 % 2 ^ 19
      let inside := off + 32 ≤ blk.frames * 1024
      let byte := fun (n : Nat) => rdN (s.core blk.core).data.scratch (blk.frame * 1024 + off + n) 1
      let pbf := i.op.a.fmt = 8
      places rows cols i ∧ i.op.kind = m.1 ∧ i.op.steps = (if m.2.1 then 1 else reg 1 % 2 ^ 16) ∧
      i.op.abase = operand 2 ∧ i.op.bbase = operand 4 ∧
      i.op.aadv = (if m.2.1 then 0 else reg 6) ∧ i.op.badv = (if m.2.1 then 0 else reg 7) ∧ i.op.reg = a.toNat ∧
      (∀ x ∈ [(i.op.a, 0, m.2.2.1), (i.op.b, 16, false)], let o := x.1; let h := x.2.1
        o.fmt = byte h ∧ o.vsrc = decide (byte (h + 1) % 2 = 1) ∧ o.vbase = byte (h + 2) % 64 ∧ o.m = byte (h + 3) % 16 ∧
        o.bl = decide (byte (h + 3) / 16 % 2 = 1) ∧ o.fp = (if x.2.2 then reg 1 / 2 ^ 16 % 16 else byte (h + 4) % 16) ∧
        o.np = (if x.2.2 then reg 1 / 2 ^ 20 % 16 else byte (h + 5) % 16) ∧ o.ncol = byte (h + 6) + 256 * byte (h + 7) ∧
        o.scl = (byte (h + 8) + 256 * byte (h + 9) + 65536 * byte (h + 10)) % 2 ^ 19 ∧ o.spitch = byte (h + 12) + 256 * byte (h + 13)) ∧
      (∀ x ∈ [(i.op.a, i.op.vecA), (i.op.b, i.op.vecB)], (x.1.vsrc = false → x.2 = []) ∧
        (x.1.vsrc = true → x.2.length = 96 ∧ ∀ l < 96, ∃ row, x.2[l]? = some row ∧ row.length = 16 ∧
          ∀ j < 16, row[j]? = some (v.rV (x.1.vbase + j) l))) ∧
      (inside → ∀ n, (∃ x ∈ aRegion i.op.a i.op.abase i.op.aadv i.op.steps, x.1 ≤ n ∧ n < x.1 + x.2) ↔ i.op.a.vsrc = false ∧ 0 < i.op.steps ∧
        let A := i.op.a
        let L := if A.bl then 32 else 16
        let planes := if A.np = 0 then A.m - A.fp else A.np
        ∃ i' < 96,
          (∃ st < i.op.steps, let row := (i.op.abase.base + st * i.op.aadv) % 2 ^ 19 + i' * i.op.abase.pitch
            (¬ pbf ∧ ∃ j < 64, n = row + j) ∨
            (pbf ∧ ∃ be < 64 / L, ∃ j < planes * (L / 8), n = row + be * A.m * (L / 8) + A.fp * (L / 8) + j)) ∨
          (A.fmt ∈ [5, 6, 8] ∧ ∃ j < i.op.steps * (if pbf then 64 / L else 2), n = A.scl + i' * A.spitch + j)) ∧
      (inside → ∀ n, (∃ x ∈ bRegion i.op.a i.op.b i.op.bbase i.op.badv i.op.steps, x.1 ≤ n ∧ n < x.1 + x.2) ↔ i.op.b.vsrc = false ∧ 0 < i.op.steps ∧
        let B := i.op.b
        let N := if B.ncol = 0 then 160 else B.ncol
        (∃ st < i.op.steps, ∃ k' < (if i.op.a.fmt = 1 ∨ i.op.a.fmt = 2 then 32 else 64), ∃ j < N * (if B.fmt = 1 ∨ B.fmt = 2 then 2 else 1),
          n = (i.op.bbase.base + st * i.op.badv) % 2 ^ 19 + k' * i.op.bbase.pitch + j) ∨
        (B.fmt ∈ [5, 6] ∧ ∃ col < N, ∃ j < i.op.steps * 2, n = B.scl + col * B.spitch + j)) ∧
      ((∃ t ∈ i.traps, t.cause = 0x02) ↔ gridBad rows cols ∨
        (inside ∧
          let A := i.op.a; let B := i.op.b
          let N := if B.ncol = 0 then 160 else B.ncol
          (A.fmt, B.fmt) ∉ [(1, 1), (1, 2), (2, 1), (2, 2), (3, 3), (3, 4), (4, 3), (4, 4), (5, 5), (5, 6), (6, 5), (6, 6), (7, 7), (8, 1), (8, 3),
            (8, 4), (8, 5), (8, 6), (8, 7)] ∨ 160 < B.ncol ∨
          (pbf ∧ (A.m < 2 ∨ 8 < A.m ∨ A.m ≤ A.fp ∨ A.m < A.fp + A.np)) ∨
          ((m.2.2.1 = true ∨ m.1 = .bound) ∧ ¬ pbf) ∨ (m.1 = .bound ∧ A.fp ≠ 0) ∨
          (∃ x ∈ [A, B], x.vsrc = true ∧ (m.2.1 = false ∨ x.fmt ∉ [1, 2, 3, 4, 7] ∨ v.vlimit < x.vbase + 16)) ∨ (B.vsrc = true ∧ 96 < N)) ∨
        (¬ (inside ∧ i.op.a.vsrc = true) ∧ turned i.op.abase) ∨ (¬ (inside ∧ i.op.b.vsrc = true) ∧ turned i.op.bbase)) ∧
      ((∃ t ∈ i.traps, t.cause = 0x03) ↔ off % 32 ≠ 0 ∨
        (¬ (inside ∧ i.op.a.vsrc = true) ∧ (i.op.abase.base % 8 ≠ 0 ∨ i.op.abase.pitch % 8 ≠ 0 ∨ i.op.aadv % 8 ≠ 0)) ∨
        (¬ (inside ∧ i.op.b.vsrc = true) ∧ (i.op.bbase.base % 8 ≠ 0 ∨ i.op.bbase.pitch % 8 ≠ 0 ∨ i.op.badv % 8 ≠ 0))) ∧
      ((∃ t ∈ i.traps, t.cause = 0x12) ↔ ¬ inside)) ∧
    (∀ store : Bool,
      let i := tileIssue c store z a b
      let conv := if store then reg 2 % 8 else 0
      let width := 160 * (match conv with | 0 => 4 | 1 => 2 | 2 => 2 | _ => 1)
      places 1 1 i ∧ i.op.kind = (if store then .store else .load) ∧ i.op.dest = operand 0 ∧ i.op.conv = conv ∧ i.op.rm.toNat = c.rm % 4 ∧
      i.op.sat = c.sat ∧
      i.regions = [{ pos := 0, extents := (List.range 96).map (fun j => (i.op.dest.base + j * i.op.dest.pitch, width)), write := store }] ∧
      ((∃ t ∈ i.traps, t.cause = 0x02) ↔ turned i.op.dest ∨ (store = true ∧ (6 ≤ conv ∨ i.op.dest.pitch < width))) ∧
      ((∃ t ∈ i.traps, t.cause = 0x03) ↔ i.op.dest.base % 8 ≠ 0 ∨ i.op.dest.pitch % 8 ≠ 0)) ∧
    (∀ rows cols : Nat, 1 ≤ rows → 1 ≤ cols →
      let i := zeroIssue c rows cols z a
      places rows cols i ∧ i.op.kind = .zero ∧ i.regions = [] ∧ ((∃ t ∈ i.traps, t.cause = 0x02) ↔ gridBad rows cols)) ∧
    (let i := readIssue c d a z
      let x := (e.rS (a.toNat + 1)).toNat
      places 1 1 i ∧ i.op.kind = .read ∧ i.op.reg = d.toNat ∧ i.op.c0 = x % 2 ^ 8 ∧ i.op.n = x / 2 ^ 8 % 2 ^ 7 ∧
      i.op.lanes = (if e.replay then e.mask &&& e.fmask else e.mask) ∧ i.regions = [] ∧
      ((∃ t ∈ i.traps, t.cause = 0x02) ↔ i.op.n = 0 ∨ 160 < i.op.c0 + i.op.n ∨ v.vlimit < d.toNat + i.op.n)) ∧
    -- bytes beyond the block that they are read from or written to (R71, R72)
    (∀ pos rs, (∃ t ∈ regionTraps pos rs, t.cause = 0x12) ↔
      ∃ r ∈ rs, ∃ p, pos[r.pos]? = some p ∧ ∃ x ∈ r.extents, 0 < x.2 ∧ p.2.2 * 1024 < x.1 + x.2))

/-- R211 to R216: what the pass group sends, waits for and computes. -/
def Obligations.ResultObjectWords : Prop :=
  (
    ∀ (s s' : State) (k : Nat) (e : Entity) (v : Wave) (E : Bool) (d a b : Reg) (blk : Block),
      let c := Claim.ctx s k e v
      let msg := fun (s0 : State) (handle : Word) (kind : PassKind) =>
        ({ ent := k, wave := e.wave, core := c.core, serial := s0.fresh, block := v.block, asid := v.asid,
           handle := handle, kind := kind, dep := depOf s0 c.core k } : PassMsg)
      let trapTo := fun (i : Instr) (cause : Nat) => exec i s = .next (raise s k { cause := cause, lane := 255, addr := 0 } false e.chainPc)
      look s.blocks v.block = some blk → c.acquiring = false →
      (Claim.Issues s k e v [oS2 d, oS a] {} →
        (boundHandle c a = none → trapTo (.pass E d a) 0x50) ∧
        (∀ i h, boundHandle c a = some (i, h) →
          ∃ t e', exec (.pass E d a) s = .next t ∧ Claim.AfterSend s t k e' e.wave v ∧ e'.park = .bank ∧ e'.resume = e.pc + 4 ∧ e'.sregs = e.sregs ∧
            t.passQ = s.passQ ++ [msg s h (.pass i d.toNat)])) ∧
      (Claim.Issues s k e v [oS a, oS b] {} →
        (boundHandle c a = none → trapTo (.seal E a b) 0x50) ∧
        (∀ i h, boundHandle c a = some (i, h) →
          ((blk.sealOf i).received = false → trapTo (.seal E a b) 0x50) ∧
          ((blk.sealOf i).received = true → Claim.Released c true (objScope s v.asid h) s' →
            ∃ t blk', exec (.seal E a b) s = .next t ∧
              Claim.AfterSend s t k (({ (c.behind s').e with progress := true } : Entity).retire E) e.wave v ∧
              look t.blocks v.block = some blk' ∧ (blk'.sealOf i).isSealed = true ∧ (blk'.sealOf i).received = false ∧ (blk'.sealOf i).pass = (blk.sealOf i).pass ∧
              t.passQ = s.passQ ++ [msg s' h (.seal (e.rS b.toNat))])) ∧
        ((∀ x ∈ s.replies, ¬ (x.ent = k ∧ x.wave = e.wave)) →
          ∃ t, exec (.vrel E a b) s = .next t ∧ Claim.AfterSend s t k { e with park := .bank } e.wave v ∧
            t.passQ = s.passQ ++ [msg s (e.rS a.toNat) (.vrel ((e.rS b.toNat).toNat % 8))])) ∧
      (Claim.Issues s k e v [oGroup d 8, oS a] {} →
        ∀ m ∈ [(Instr.vget E d a, PassKind.vget d.toNat), (Instr.vpin E d a, PassKind.vpin d.toNat)],
          ((8 ≤ d.toNat ∧ d.toNat ≤ 48) → ∃ t, exec m.1 s = .next t ∧ Claim.AfterSend s t k { e with park := .bank } e.wave v ∧
            t.passQ = s.passQ ++ [msg s (e.rS a.toNat) m.2]) ∧
          (¬ (8 ≤ d.toNat ∧ d.toNat ≤ 48) → trapTo m.1 0x02))) ∧
  (
    (∀ (s : State) (k : Nat) (e : Entity) (v : Wave) (E : Bool) (d a b : Reg) (off x : Nat),
      let c := Claim.ctx s k e v
      let cond := [(Instr.qwaitQual E d a b, [oS b], decide ((e.rS b.toNat).toNat ≤ objGet x .quality)),
        (Instr.qwaitVer E d a b, [oS2 b], decide ((e.rPair b.toNat).toNat < objGet x .version)), (Instr.qwaitDone E d a, [], false)]
      let trapTo := fun (i : Instr) (cause : Nat) => exec i s = .next (raise s k { cause := cause, lane := 255, addr := 0 } false e.chainPc)
      ∀ m ∈ (cond : List (Instr × List Operand × Bool)), Claim.Issues s k e v ([oGroup d 8, oS a] ++ m.2.1) {} →
        ((d.toNat < 8 ∨ 48 < d.toNat) → trapTo m.1 0x02) ∧
        (8 ≤ d.toNat → d.toNat ≤ 48 → objNamed s v.asid (e.rS a.toNat) = none → trapTo m.1 0x50) ∧
        (objNamed s v.asid (e.rS a.toNat) = some (off, x) → 8 ≤ d.toNat → d.toNat ≤ 48 →
        (c.acquiring = true ∨ c.turn off = false → exec m.1 s = .next (noteStall s k)) ∧
        (c.acquiring = false → c.turn off = true → orngPoison s off 64 = none →
        (m.2.2 = true ∨ objGet x .ldone = 1 → c.caughtUp off = false → exec m.1 s = .next (noteStall s k)) ∧
        (m.2.2 = true ∨ objGet x .ldone = 1 → c.caughtUp off = true →
          ∃ t, exec m.1 s = .next t ∧ look t.ents k = some ((e.wMany d.toNat (resultGroup x)).retire true) ∧ (∀ j, j ≠ k → look t.ents j = look s.ents j) ∧
            t.core c.core = { s.core c.core with l1 := [] } ∧ (∀ j, j ≠ c.core → t.core j = s.core j) ∧
            { t with ents := s.ents, cores := s.cores } = s) ∧
        (m.2.2 = false → objGet x .ldone ≠ 1 →
          ∃ t e', exec m.1 s = .next t ∧ Claim.After s t k e' e.wave v ∧ e'.sregs = e.sregs ∧ e'.pc = e.chainPc ∧
            (e'.park = .wait none [.orangery (off / 64)] ∨ e'.park = .poll none (s.now + 256)))))) ∧
    (∀ (s : State) (k : Nat) (e : Entity) (v : Wave) (E : Bool) (d a : Reg),
      (Claim.Issues s k e v [oS d, oS a] {} →
        ∃ t, exec (.qcvt E d a) s = .next t ∧ Claim.After s t k ((e.wS d.toNat (BitVec.ofNat 32 (qcvt (e.rS a.toNat).toNat))).retire E) e.wave v) ∧
      (Claim.Issues s k e v [oS2 d] {} →
        ∃ t, exec (.budget E d) s = .next t ∧
          Claim.After s t k (((e.wS d.toNat (timeLeft s v.owner)).wS (d.toNat + 1) (energyLeft s v.owner)).retire E) e.wave v)) ∧
    (∀ x : Word, match Fmt.f32.value x.toNat with
      | .nan _ => qcvt x.toNat = 0
      | .inf _ => qcvt x.toNat = 0
      | .fin _ m e =>
        (m = 0 → qcvt x.toNat = 0xFFFFFFFF) ∧
        (m ≠ 0 → 0 ≤ e ∨ 2 ^ (-e).toNat ≤ m → qcvt x.toNat = 0) ∧
        (m ≠ 0 → e < 0 → m < 2 ^ (-e).toNat →
          let n := qcvt x.toNat
          m ^ 65536 * 2 ^ n ≤ 2 ^ (65536 * (-e).toNat) ∧ 2 ^ (65536 * (-e).toNat) < m ^ 65536 * 2 ^ (n + 1))) ∧
    [qcvt 0, qcvt 0x80000000, qcvt 0x3F800000, qcvt 0x7F800000, qcvt 0x7FC00000, qcvt 0x3F000000, qcvt 0x3D000000, qcvt 0x3DCCCCCD, qcvt 1] =
      [0xFFFFFFFF, 0xFFFFFFFF, 0, 0, 0, 65536, 327680, 217705, 9764864])

/-- R217 to R219: what JINIT, JOIN and SPAWN do at issue, and where they trap. -/
def Obligations.JoinWords : Prop :=
  ∀ (s s' : State) (k : Nat) (e : Entity) (v : Wave) (E : Bool) (a b : Reg) (g : BitVec 3) (o : BitVec 16),
    let c := Claim.ctx s k e v
    let off := (e.rS a.toNat).toNat
    let entry := e.pc + 4 * (match e.chain.ximm with | some x => (x ++ o).signExtend 64 | none => o.signExtend 64)
    let near := entry.extractLsb' 32 32 = e.pc.extractLsb' 32 32
    let payload : Operand := { cls := .v, n := 8 * g.toNat, len := 4, align := 1 }
    let causes := fun (t : Trap) => t.lane = 255 ∧ t.addr = off ∧
      ((t.cause = 0x03 ∧ off % 16 ≠ 0) ∨ (t.cause = 0x12 ∧ orngClosed off = true) ∨
        (t.cause = 0x11 ∧ orngClosed off = false ∧ orngCode s v.asid off ∉ [2, 3]))
    let msg := fun (s0 : State) (kind : BankKind) =>
      ({ ent := k, wave := e.wave, core := c.core, serial := s0.fresh, lanes := 0, off := off, kind := kind, reg := none, wide := false, acq := false,
         dep := depOf s0 c.core k } : BankOp)
    let legal := off % 16 = 0 ∧ orngClosed off = false ∧ orngCode s v.asid off ∈ [2, 3] ∧ c.acquiring = false
    (Claim.Issues s k e v [oS a, oS b] {} →
      Claim.Traps s k e (.jinit E a b) causes ∧
      (legal → ∃ t, exec (.jinit E a b) s = .next t ∧ Claim.AfterSend s t k (e.retire E) e.wave v ∧
        t.bankQ = s.bankQ ++ [msg s (.jinit (e.rS b.toNat))])) ∧
    (Claim.Issues s k e v [oS a] {} →
      Claim.Traps s k e (.join E a) causes ∧
      (legal → c.turn off = false → exec (.join E a) s = .next (noteStall s k)) ∧
      (legal → c.turn off = true →
        (rdN s.orangery off 4 = 0 → c.caughtUp off = false → exec (.join E a) s = .next (noteStall s k)) ∧
        (rdN s.orangery off 4 = 0 → c.caughtUp off = true → orngPoison s off 4 = none →
          ∃ t, exec (.join E a) s = .next t ∧ Claim.AfterSend s t k (e.retire true) e.wave v) ∧
        (rdN s.orangery off 4 ≠ 0 →
          ∃ t e', exec (.join E a) s = .next t ∧ look t.ents k = some e' ∧ (∀ j, j ≠ k → look t.ents j = look s.ents j) ∧
            { t with ents := s.ents, pavs := s.pavs } = s ∧
            (∀ p, (look t.pavs p).map (fun x => { x with bins := [] }) = (look s.pavs p).map (fun x => { x with bins := [] }) ∧
              (look t.pavs p).map (fun x => x.bins) = (look s.pavs p).map (fun x => x.bins.map (fun b =>
                (b.1, { b.2 with due := b.2.due || b.2.children.any (fun y => decide (y.join = off)) })))) ∧
            e'.pc = e.chainPc ∧ e'.sregs = e.sregs ∧ e'.mask = e.mask ∧
            (e'.park = .wait (some off) [.orangery (off / 64)] ∨ e'.park = .poll (some off) (s.now + 256))))) ∧
    (Claim.Ready s k e v [payload, oS a] → ({ ximm := true } : Accept).chainOk e.chain = true → v.vlimit < 8 * g.toNat + 4 →
      exec (.spawn E g a o) s = .next (raise s k { cause := 0x02, lane := 255, addr := 0 } false e.chainPc)) ∧
    (Claim.Issues s k e v [payload, oS a] { ximm := true } →
      Claim.Traps s k e (.spawn E g a o) (fun t => causes t ∨ (t = { cause := 0x02, lane := 255, addr := 0 } ∧ ¬ near)) ∧
      let children := (lanesIn c.lanes).map (fun i => ({ asid := v.asid, entry := entry, join := off, payload := [v.rV (8 * g.toNat) i,
        v.rV (8 * g.toNat + 1) i, v.rV (8 * g.toNat + 2) i, v.rV (8 * g.toNat + 3) i], owner := v.owner, vlimit := v.vlimit, handler := v.handler,
                                                          pav := k / 32 / 16 } : Child))
      (legal → near →
        (lanesIn c.lanes = [] →
          ∃ t, exec (.spawn E g a o) s = .next t ∧ Claim.After s t k (({ e with progress := true } : Entity).retire E) e.wave v) ∧
        (lanesIn c.lanes ≠ [] → Claim.Released c true 4 s' →
          ∃ t, exec (.spawn E g a o) s = .next t ∧ Claim.AfterSend s t k { (c.behind s').e with park := .bank } e.wave v ∧
            t.bankQ = s.bankQ ++ [msg s' (.spawn children.length children)])))

/-- R220 to R222, R260, R262: future loads and stores. A word of FLD waits while one of the cells in mapped pages is empty, and parks on its
unmapped pages after it has written the others: that order is the model's choice (assumption 37). -/
def Obligations.FutureWords : Prop :=
  ∀ (s s' : State) (k : Nat) (e : Entity) (v : Wave) (E : Bool) (d a b : Reg) (pm : Nat → Nat),
    let c := Claim.ctx s k e v
    let c' := c.behind s'
    let addr := fun i => ((e.rPair a.toNat).toNat + (v.rV b.toNat i).toNat) % 2 ^ 64
    let accs := fun (m : Lanes) => (lanesIn m).map (fun i => ({ lane := i, va := addr i } : LaneAcc))
    let value := fun (i : Nat) => BitVec.ofNat 64 (rdN s.mem (pm (addr i) + 8) 8)
    let full := fun (i : Nat) => rdN s.mem (pm (addr i)) 4 ≠ 0 ∧ memPoison s (pm (addr i)) = none ∧
      covers (s.die c.die).clock (s.die ((homeDie (pm (addr i))).getD 0)).clock = true ∧ hasApplied s c.die (pm (addr i)) 16 = true
    Claim.Issues s k e v [oV2 d, oS2 a, oV b] {} →
    Claim.Traps s k e (.fld E d a b) (Claim.globalCauses c .future 16 (accs c.lanes)) ∧
    Claim.Traps s k e (.fst E d a b) (Claim.globalCauses c .futureWrite 16 (accs c.lanes)) ∧
    (Claim.Accesses c .future 16 true (accs c.lanes) pm → (∀ i ∈ lanesIn c.lanes, ownOnLine s k e.wave (pm (addr i)) = false) →
      ((∀ i ∈ lanesIn c.lanes, full i) →
        ∃ t f, exec (.fld E d a b) s = .next t ∧ Claim.AfterSend s t k (({ e with fold := f } : Entity).retire true) e.wave
          (v.wVPair d.toNat c.lanes value)) ∧
      ((∃ i ∈ lanesIn c.lanes, rdN s.mem (pm (addr i)) 4 = 0) →
        ∃ t e' keys, exec (.fld E d a b) s = .next t ∧ Claim.AfterSend s t k e' e.wave v ∧ e'.pc = e.chainPc ∧ e'.sregs = e.sregs ∧
          e'.mask = e.mask ∧ e'.replay = e.replay ∧ e'.fmask = e.fmask ∧ (e'.park = .wait none keys ∨ e'.park = .poll none (s.now + 256)) ∧
          (∀ y ∈ keys, ∃ i ∈ lanesIn c.lanes, y = .global (pm (addr i) / 64) ∧ rdN s.mem (pm (addr i)) 4 = 0))) ∧
    (∀ m : Lanes, c.acquiring = false →
      (∀ i ∈ lanesIn c.lanes, addr i % 16 = 0 ∧ (xlate s c.core v.asid .future (addr i)).causes = [] ∧
        ∀ y, (xlate s c.core v.asid .future (addr i)).pa = some y → y = pm (addr i) ∧ lineBusy s k e.wave true y = false ∧ ownOnLine s k e.wave y = false ∧ full i) →
      (∀ i < 96, m.getLsbD i = true ↔ i ∈ lanesIn c.lanes ∧ (xlate s c.core v.asid .future (addr i)).pa = none) → lanesIn m ≠ [] →
      ∃ t e' r, exec (.fld E d a b) s = .next t ∧ look t.ents k = some e' ∧ (∀ j, j ≠ k → look t.ents j = look s.ents j) ∧
        look t.waves e.wave = some (v.wVPair d.toNat (c.lanes &&& ~~~m) value) ∧ (∀ j, j ≠ e.wave → look t.waves j = look s.waves j) ∧
        t.mem = s.mem ∧ t.orangery = s.orangery ∧ (t.die c.die).parks = (s.die c.die).parks ++ [r] ∧ r.ent = k ∧ r.copy = none ∧
        r.addrs = (lanesIn m).map addr ∧ (∀ y, y ∈ r.waiting ↔ ∃ i ∈ lanesIn m, y = (addr i / 4096 * 4096, 2)) ∧
        e'.park = .fault r.id ∧ e'.replay = true ∧ e'.fmask = m ∧ e'.pc = e.chainPc ∧ e'.sregs = e.sregs ∧ e'.mask = e.mask) ∧
    (Claim.Released c true 4 s' → Claim.Accesses c .futureWrite 16 true (accs c.lanes) pm → Claim.Accesses c' .futureWrite 16 true (accs c.lanes) pm →
      ∃ t, exec (.fst E d a b) s = .next t ∧ Claim.AfterSend s t k (({ c'.e with progress := true } : Entity).retire E) e.wave v ∧
        t.homeQ = s'.homeQ ++ (((lanesIn c.lanes).map (fun i => pm (addr i) / 64)).eraseDups).zipIdx.flatMap (fun y =>
          ((lanesIn c.lanes).filter (fun i => decide (pm (addr i) / 64 = y.1))).map (fun i =>
            ({ core := c.core, ent := k, wave := e.wave, serial := s'.fresh + y.2, kind := .fill, addr := pm (addr i),
               data := leBytes 8 (v.rVPair d.toNat i).toNat, dep := (s'.die c.die).clock, acq := false, lanes := laneBit i, reg := none,
               wide := false } : HomeOp))))

/-- R223 to R226, R35 to R37: generators. That the consumer owns every lane while it runs and that the producer goes on with the ownership set it
had, and that the upper halves of both program counters are those of the generator's record, is the model's reading (assumption 38, DEDUCED); that a
consumer entry outside the kernel's region raises nothing is the model's choice (assumption 76). -/
def Obligations.GeneratorWords : Prop :=
  ∀ (s : State) (k : Nat) (e : Entity) (v : Wave) (E : Bool) (a b : Reg) (o : BitVec 16) (blk : Block),
    let c := Claim.ctx s k e v
    let core := k / 32
    let head := fun (t : State) (buf f n : Nat) => rdN (t.core core).data.scratch (blk.frame * 1024 + buf + f) n
    let trapTo := fun (i : Instr) (cause : Nat) => exec i s = .next (raise s k { cause := cause, lane := 255, addr := 0 } false e.chainPc)
    -- the group stands in the ring of t behind the entries of s
    let committed := fun (t : State) (g : Gen) =>
      let es := (List.range 96).flatMap (fun i => g.group.filter (fun x => decide (x.1 = i)))
      (∀ n x, es[n]? = some x → let at' := (head s g.buf 1552 1 + head s g.buf 1553 1 + n) % 192 * 8
        head t g.buf at' 4 = x.2.1.toNat ∧ head t g.buf (at' + 4) 4 = x.2.2.toNat) ∧
      (∀ n < head s g.buf 1553 1, let at' := (head s g.buf 1552 1 + n) % 192 * 8
        head t g.buf at' 8 = head s g.buf at' 8) ∧
      head t g.buf 1553 1 = head s g.buf 1553 1 + g.group.length ∧ head t g.buf 1552 1 = head s g.buf 1552 1
    -- the consumer runs on the n oldest entries of the ring of t
    let consumes := fun (t : State) (g : Gen) (e' : Entity) (v' : Wave) (n : Nat) (draining : Bool) =>
      (∀ r i, i < 96 → v'.rV r i = (if (r = 32 ∨ r = 33) ∧ i < n
        then BitVec.ofNat 32 (head t g.buf ((head t g.buf 1552 1 + i) % 192 * 8 + 4 * (r - 32)) 4) else v.rV r i)) ∧
      { v' with vregs := v.vregs, gen := v.gen } = v ∧ (∀ i < 96, e'.mask.getLsbD i = decide (i < n)) ∧ e'.own = BitVec.allOnes 96 ∧
      e'.sregs = e.sregs ∧ e'.pc = (g.entry.extractLsb' 32 32 ++ BitVec.ofNat 32 (head s g.buf 1556 4)) ∧
      ∃ g', v'.gen = some g' ∧ g'.consumer = true ∧ g'.draining = draining ∧ g'.holder = k ∧ g'.n = n ∧ g'.buf = g.buf ∧ g'.entry = g.entry
    -- the producer is saved in t, to go on at pc
    let saved := fun (t : State) (g : Gen) (v' : Wave) (pc : Dword) =>
      head t g.buf 1536 4 = pc.toNat % 2 ^ 32 ∧ head t g.buf 1540 12 = e.mask.toNat ∧ head t g.buf 1555 1 = k % 8 ∧
      ∃ g', v'.gen = some g' ∧ g'.producer = pc ∧ g'.own = e.own ∧ g'.group = [] ∧
        ∀ j, j ∈ g'.held ↔ j ≠ k ∧ ∃ x, (j, x) ∈ s.ents ∧ x.wave = e.wave
    let resumes := fun (t : State) (g : Gen) (e' : Entity) =>
      e'.own = g.own ∧ e'.mask = BitVec.ofNat 96 (head s g.buf 1540 12) ∧ e'.sregs = e.sregs ∧
      e'.pc = (g.producer.extractLsb' 32 32 ++ BitVec.ofNat 32 (head s g.buf 1536 4)) ∧
      head t g.buf 1553 1 = head s g.buf 1553 1 - g.n ∧ head t g.buf 1552 1 = (head s g.buf 1552 1 + g.n) % 192
    look s.blocks v.block = some blk → blk.core = core → (∀ x y, Poison.scratch x y ∉ s.poison) →
    (Claim.Issues s k e v [oS a] { ximm := true } →
      let x := (e.rS a.toNat).toNat
      let buf := x % 2 ^ 19
      let thr := x / 2 ^ 24
      let entry := e.pc + 4 * (match e.chain.ximm with | some x => (x ++ o).signExtend 64 | none => o.signExtend 64)
      Claim.Traps s k e (.genb E a o) (fun t =>
        (t = { cause := 0x02, lane := 255, addr := 0 } ∧ (thr = 0 ∨ 96 < thr ∨ buf % 2048 ≠ 0)) ∨
        (t = { cause := 0x12, lane := 255, addr := buf } ∧ blk.frames * 1024 < buf + 2048) ∨
        (t = { cause := 0x32, lane := 255, addr := 0 } ∧ (v.gen ≠ none ∨ v.vlimit ≠ 64))) ∧
      (v.gen = none → v.vlimit = 64 →
        1 ≤ thr → thr ≤ 96 → buf % 2048 = 0 → buf + 2048 ≤ blk.frames * 1024 → pleatBusy c buf = false →
        ∃ t g, exec (.genb E a o) s = .next t ∧ Claim.AfterSend s t k (e.retire E) e.wave { v with gen := some g } ∧ g.buf = buf ∧ g.consumer = false ∧
          g.group = [] ∧ g.entry = entry ∧ head t buf 1552 1 = 0 ∧ head t buf 1553 1 = 0 ∧ head t buf 1554 1 = thr ∧ head t buf 1555 1 = k % 8 ∧
          head t buf 1556 4 = entry.toNat % 2 ^ 32)) ∧
    (∀ g, v.gen = some g →
      (g.consumer = false → Claim.Issues s k e v [oV a, oV b] {} → a.toNat < 32 → b.toNat < 32 →
        let new := (lanesIn c.lanes).map (fun i => (i, v.rV a.toNat i, v.rV b.toNat i))
        (head s g.buf 1553 1 + g.group.length + new.length ≤ 192 →
          ∃ t, exec (.yld E a b) s = .next t ∧ Claim.After s t k (e.retire E) e.wave { v with gen := some { g with group := g.group ++ new } }) ∧
        (192 < head s g.buf 1553 1 + g.group.length + new.length → head s g.buf 1553 1 + g.group.length ≤ 192 → (∀ x ∈ g.group, x.1 < 96) →
          switchBusy c g.buf = false →
          ∃ t e' v', exec (.yld E a b) s = .next t ∧ Claim.AfterSend s t k e' e.wave v' ∧ committed t g ∧
            consumes t g e' v' (min (head s g.buf 1553 1 + g.group.length) 96) g.draining ∧ saved t g v' e.chainPc)) ∧
      (g.consumer = true → Claim.Issues s k e v [oV a, oV b] {} → trapTo (.yld E a b) 0x32) ∧
      (g.consumer = true → Claim.Issues s k e v [] {} → trapTo (.gchk E) 0x32 ∧ trapTo .gend 0x32) ∧
      ((g.consumer = false ∨ g.holder ≠ k) → Claim.Issues s k e v [] {} → trapTo .gret 0x32) ∧
      (Claim.Issues s k e v [] {} → pleatBusy c g.buf = false → (∀ x ∈ g.group, x.1 < 96) → head s g.buf 1553 1 + g.group.length ≤ 192 →
        let count := head s g.buf 1553 1 + g.group.length
        (g.consumer = false → count < head s g.buf 1554 1 →
          ∃ t, exec (.gchk E) s = .next t ∧ Claim.AfterSend s t k (e.retire E) e.wave { v with gen := some { g with group := [] } } ∧ committed t g) ∧
        (g.consumer = false → head s g.buf 1554 1 ≤ count → switchBusy c g.buf = false →
          ∃ t e' v', exec (.gchk E) s = .next t ∧ Claim.AfterSend s t k e' e.wave v' ∧ committed t g ∧
            consumes t g e' v' (min count 96) g.draining ∧ saved t g v' (e.pc + 4)) ∧
        (g.consumer = true → g.holder = k →
          let left := head s g.buf 1553 1 - g.n
          ((if g.draining then left = 0 else left < head s g.buf 1554 1) →
            ∃ t e' v', exec .gret s = .next t ∧ Claim.AfterSend s t k e' e.wave v' ∧ resumes t g e' ∧ { v' with gen := v.gen } = v ∧
              (g.draining = false → ∃ g', v'.gen = some g' ∧ g'.consumer = false ∧ g'.held = []) ∧ (g.draining = true → v'.gen = none)) ∧
          ((if g.draining then 0 < left else head s g.buf 1554 1 ≤ left) → switchBusy c g.buf = false →
            ∃ t e' v', exec .gret s = .next t ∧ Claim.AfterSend s t k e' e.wave v' ∧ consumes t g e' v' (min left 96) g.draining ∧
              head t g.buf 1553 1 = left ∧ head t g.buf 1552 1 = (head s g.buf 1552 1 + g.n) % 192)) ∧
        (g.consumer = false → count = 0 →
          ∃ t, exec .gend s = .next t ∧ Claim.AfterSend s t k (e.jump (e.pc + 4)) e.wave { v with gen := none }) ∧
        (g.consumer = false → 0 < count → switchBusy c g.buf = false →
          ∃ t e' v', exec .gend s = .next t ∧ Claim.AfterSend s t k e' e.wave v' ∧ committed t g ∧ consumes t g e' v' (min count 96) true ∧
            saved t g v' (e.pc + 4)))) ∧
    (v.gen = none → Claim.Issues s k e v [] {} → trapTo (.gchk E) 0x32 ∧ trapTo .gret 0x32 ∧ trapTo .gend 0x32) ∧
    (∀ g d, v.gen = some g → g.held = [] → Claim.Ready s k e v [oV d, oV a, oV b, oP 0] → ({ pneg := true } : Accept).chainOk e.chain = true →
      (∀ r ∈ [d, a, b], r.toNat < v.vlimit) → (∃ r ∈ [d, a, b], if g.consumer then r.toNat < 32 else 32 ≤ r.toNat) → trapTo (.vadd E d a b 0) 0x32)

/-- R227, R230, R232: the remote group. That WSEND's bytes are those its core reads when it issues is the model's choice (assumption 21). -/
def Obligations.RemoteWords : Prop :=
  ∀ (s s' : State) (k : Nat) (e : Entity) (v : Wave) (E : Bool) (d a b : Reg),
    let c := Claim.ctx s k e v
    let c' := c.behind s'
    let tgt := e.rS b.toNat
    (Claim.Issues s k e v [oV d, { cls := .v, n := a.toNat, len := 8, align := 8 }, oS b] {} → lanesIn c.lanes ≠ [] →
      2 ^ 24 < outstanding s v.owner + 96 → exec (.rinv E d a b) s = .next (noteStall s k)) ∧
    (c.acquiring = false → Claim.Issues s k e v [oV d, { cls := .v, n := a.toNat, len := 8, align := 8 }, oS b] {} → lanesIn c.lanes ≠ [] → e.park = .running →
      outstanding s v.owner + 96 ≤ 2 ^ 24 → Claim.Released c (decide (tgt.toNat % 2 ^ 12 = s.ctl.chipId.toNat)) 4 s' →
      ∃ t, exec (.rinv E d a b) s = .next t ∧ look t.ents k = some (({ c'.e with progress := true } : Entity).retire E) ∧
        look t.waves e.wave = some v ∧ t.mem = s.mem ∧ t.orangery = s.orangery ∧
        t.packets = s.packets ++ (lanesIn c.lanes).map (fun i =>
          ({ peer := none, asid := v.asid, handler := tgt.toNat / 2 ^ 16 % 2 ^ 12, prio := tgt.toNat / 2 ^ 12 % 4, chip := tgt.toNat % 2 ^ 12,
             args := (List.range 8).map (fun j => v.rV (a.toNat + j) i), ent := k, wave := e.wave, lane := i, reg := d.toNat, serial := s'.fresh,
             target := tgt, dep := (s'.die c.die).clock } : Packet)) ∧
        (∀ l x, v.owner = .launch l → look s.launches l = some x → outstanding t v.owner = x.outstanding + (lanesIn c.lanes).length)) ∧
    (Claim.Issues s k e v [oGroup a 4, oS b] {} →
      let n := (e.rS b.toNat).toNat
      let src := (e.rPair (a.toNat + 2)).toNat
      let dst := (e.rPair a.toNat).toNat
      (∀ cause, (∃ t ∈ wsendTraps c a b, t.cause = cause) ↔
        (cause = 0x02 ∧ (n % 8 ≠ 0 ∨ n < 8 ∨ 2 ^ 24 < n)) ∨ (cause = 0x03 ∧ (src % 8 ≠ 0 ∨ dst % 8 ≠ 0)) ∨
        (∃ x ∈ pageStarts src n, cause ∈ (xlate s c.core v.asid .sendSource x).causes) ∨
        (∃ x ∈ pageStarts dst n, cause ∈ (xlate s c.core v.asid .sendTarget x).causes) ∨
        (cause = 0x12 ∧ ∃ w off, wsendWindow c dst = some (w, off) ∧ ∀ r, look s.windows w = some r → r.length < off + n)) ∧
      ∀ t, Claim.FirstOf (wsendTraps c a b) t → exec (.wsend E a b) s = .next (raise s k t false e.chainPc)) ∧
    (c.acquiring = false → Claim.Issues s k e v [oGroup a 4, oS b] {} → wsendTraps c a b = [] → (s.sends.filter (fun w => decide (w.core = c.core))).length < 16 →
      (∀ p ∈ wsendPages c a b, (xlate s c.core v.asid p.2 p.1).pa.isSome) → Claim.Released c true 4 s' →
      ∀ w off, wsendWindow c' (e.rPair a.toNat).toNat = some (w, off) →
      ∃ t sn, exec (.wsend E a b) s = .next t ∧
        Claim.AfterSend s t k (({ c'.e with progress := true, seen := sn } : Entity).retire E) e.wave v ∧
        t.sends = s.sends ++ [({
          ent := k, wave := e.wave, core := c.core, serial := s'.fresh, owner := v.owner, window := w, offset := off, dest := e.rPair a.toNat,
          failed := false,
          data := (List.range (e.rS b.toNat).toNat).map (fun i =>
            ((xlate s' c.core v.asid .sendSource ((e.rPair (a.toNat + 2)).toNat + i)).pa.map (coreByte s' k e.wave s'.fresh false)).getD 0) } : Send)]) ∧
    (Claim.Issues s k e v [oS a, oS2 b] {} →
      let off := (e.rS a.toNat).toNat
      let reached := (rdN s.orangery off 8 + 2 ^ 64 - (e.rPair b.toNat).toNat) % 2 ^ 64 < 2 ^ 63
      Claim.Traps s k e (.cwait E a b) (fun t => t.lane = 255 ∧ t.addr = off ∧
        ((t.cause = 0x03 ∧ off % 8 ≠ 0) ∨ (t.cause = 0x12 ∧ orngClosed off = true) ∨
          (t.cause = 0x11 ∧ orngClosed off = false ∧ orngCode s v.asid off ∉ [1, 2]))) ∧
      (c.acquiring = false → off % 8 = 0 → orngClosed off = false → orngCode s v.asid off ∈ [1, 2] → c.turn off = true →
      (reached → c.caughtUp off = false → exec (.cwait E a b) s = .next (noteStall s k)) ∧
      (reached → c.caughtUp off = true → orngPoison s off 8 = none →
        ∃ t, exec (.cwait E a b) s = .next t ∧ Claim.AfterSend s t k (e.retire true) e.wave v) ∧
      (¬ reached → ∃ t e', exec (.cwait E a b) s = .next t ∧ Claim.After s t k e' e.wave v ∧ e'.pc = e.chainPc ∧ e'.sregs = e.sregs ∧
        e'.mask = e.mask ∧ (e'.park = .wait none [.orangery (off / 64)] ∨ e'.park = .poll none (s.now + 256))))) ∧
    (Claim.Issues s k e v [] {} →
      (outstanding s v.owner = 0 → covers (s.die c.die).clock (ackClock s v.owner) = false → exec (.cwaitOut E) s = .next (noteStall s k)) ∧
      (outstanding s v.owner = 0 → covers (s.die c.die).clock (ackClock s v.owner) = true → ∃ t, exec (.cwaitOut E) s = .next t ∧ Claim.AfterSend s t k (e.retire true) e.wave v) ∧
      (outstanding s v.owner ≠ 0 → ∃ t e', exec (.cwaitOut E) s = .next t ∧ Claim.After s t k e' e.wave v ∧ e'.pc = e.chainPc ∧
        e'.sregs = e.sregs ∧ e'.mask = e.mask ∧ (e'.park = .wait none [.count (ownerKey v.owner)] ∨ e'.park = .poll none (s.now + 256))))

/-- R146, R308, R267, R268, R255, R41: PAUSE_EXPIRY, WAIT_POLL, HANG_RUN_LIMIT, ISSUE_STALL_WATCHDOG, ASYNC_TRAP_DELIVERY, DRAIN_COMPLETE.
That the run count starts again at 0 when the cause is raised is the model's (assumption 40), as is what a die counts of polls (assumption 82). -/
def Obligations.EntitySteps : Prop :=
  ∀ (s : State) (k : Nat) (e : Entity) (v : Wave), look s.ents k = some e → look s.waves e.wave = some v →
    let goes := fun (i : Instr) (e' : Entity) => ∃ t, exec i s = .next t ∧ Claim.EntityOnly s t k e'
    let stands := fun (i : Instr) => exec i s = .next s
    (∀ due, e.park = .pause due →
      (due ≤ coreCycles s (k / 32) → goes (.pauseExpiry k) { e.jump e.resume with park := .running }) ∧
      (coreCycles s (k / 32) < due → stands (.pauseExpiry k))) ∧
    (∀ j due, e.park = .poll j due →
      (due ≤ s.now → ∃ t, exec (.waitPoll k) s = .next t ∧ look t.ents k = some { e with park := .running, retest := true } ∧
        (∀ i, i ≠ k → look t.ents i = look s.ents i) ∧ { t with ents := s.ents, dies := s.dies } = s ∧
        (∀ d, { t.die d with counters := (s.die d).counters } = s.die d) ∧
        look (t.die (k / 2048)).counters ctrPolls = some (min (ctrMax ctrPolls) ((look (s.die (k / 2048)).counters ctrPolls).getD 0 + 1))) ∧
      (s.now < due → stands (.waitPoll k))) ∧
    (∀ j ks, e.park = .wait j ks → stands (.waitPoll k)) ∧
    (2 ^ 20 ≤ e.runs → goes (.hangRunLimit k) { e with runs := 0, pending := e.pending ++ [{ cause := 0x70, addr := 0 }] }) ∧
    (e.runs < 2 ^ 20 → stands (.hangRunLimit k)) ∧
    (∀ since, e.stalled = some since → e.park = .running →
      (since + 2 ^ 22 ≤ s.now → v.handler ≠ 0 → e.level = false →
        goes (.issueStallWatchdog k) (enterHandler e v.handler { cause := 0x70, lane := 255, addr := 0 } true e.chainPc)) ∧
      (s.now < since + 2 ^ 22 → stands (.issueStallWatchdog k))) ∧
    (∀ c rest, e.pending = c :: rest →
      (e.level = false → v.handler ≠ 0 → e.boundary = true → e.replay = false → heldByGen s k e = false →
        (e.park = .running ∨ e.park = .bar ∨ e.park = .gbar ∨ e.park = .icinv ∨ (∃ d, e.park = .pause d) ∨ (∃ a m, e.park = .tags a m) ∨
          (∃ z n, e.park = .tile z n) ∨ (∃ q, e.park = .gfence q) ∨ (∃ j ks, e.park = .wait j ks) ∨ ∃ j due, e.park = .poll j due) →
        goes (.asyncTrapDelivery k) (enterHandler { e with pending := rest } v.handler
          { cause := c.cause.toNat, lane := 255, addr := c.addr.toNat } true e.chainPc)) ∧
      (e.level = false → e.boundary = false ∨ e.replay = true → e.park = .running → stands (.asyncTrapDelivery k)) ∧
      (e.level = true → e.park ≠ .exited → (∀ x ∈ e.pending, x.cause ≠ 0x70) → stands (.asyncTrapDelivery k))) ∧
    (e.park = .exited → drained s k e = false ∨ parkedFor s k e = false → stands (.drainComplete k)) ∧
    (e.park = .exited → drained s k e = true → parkedFor s k e = true → e.pending = [] →
      ((∃ j x, j ≠ k ∧ look s.ents j = some x ∧ x.wave = e.wave) →
        ∃ t, exec (.drainComplete k) s = .next t ∧ look t.ents k = none ∧ (∀ j, j ≠ k → look t.ents j = look s.ents j) ∧ t.waves = s.waves ∧
          t.mem = s.mem ∧ t.orangery = s.orangery) ∧
      (∀ b, (∀ x ∈ s.ents, x.1 ≠ k → x.2.wave ≠ e.wave) → isSpilled s e.wave = false → v.kind = .block → v.joins = [] → v.acks = [] →
        look s.blocks v.block = some b →
        ∃ t, exec (.drainComplete k) s = .next t ∧ look t.ents k = none ∧ (∀ j, j ≠ k → look t.ents j = look s.ents j) ∧
          look t.waves e.wave = some { v with ended := true } ∧ look t.blocks v.block = some { b with done := b.done + 1 } ∧
          t.mem = s.mem ∧ t.orangery = s.orangery))

/-- R19 to R21, R81, R140, R260: RUN_FETCH and RUN_ARBITRATION. How long a vector instruction holds its unit is assumption 4; that a run is fetched up
to its first obstacle, and a fault raised only when its first word is out of reach, is the model's reading (assumption 46); that a word at an address
that is no multiple of 4 is the aligned one is its choice (assumption 96). -/
def Obligations.FetchAndArbitration : Prop :=
  (∀ (s : State) (k : Nat) (e : Entity) (v : Wave),
    look s.ents k = some e → look s.waves e.wave = some v → e.park = .running → e.buf = [] → e.words < 24 → heldByGen s k e = false →
    (∀ s1 w, fetchWord s (k / 32) v.asid e.pc.toNat = .word s1 w →
      ∃ t e', exec (.runFetch k) s = .next t ∧ look t.ents k = some e' ∧ (∀ j, j ≠ k → look t.ents j = look s.ents j) ∧
        { e' with buf := [] } = e ∧ e'.buf.head? = some w ∧ e'.buf.length ≤ 24 - e.words ∧ (∀ x ∈ e'.buf.dropLast, endsRun x = false) ∧
        t.mem = s.mem ∧ t.orangery = s.orangery ∧ t.waves = s.waves) ∧
    (fetchWord s (k / 32) v.asid e.pc.toNat = .unmapped →
      ∃ t e' r, exec (.runFetch k) s = .next t ∧ look t.ents k = some e' ∧ (∀ j, j ≠ k → look t.ents j = look s.ents j) ∧
        (t.die (k / 2048)).parks = (s.die (k / 2048)).parks ++ [r] ∧ r.ent = k ∧ r.copy = none ∧ r.addrs = [e.pc.toNat] ∧
        r.waiting = [(e.pc.toNat / 4096 * 4096, 3)] ∧ r.total = 1 ∧ e'.park = .fault r.id ∧ e'.replay = true ∧ e'.fmask = e.mask ∧
        e'.pc = e.chainPc ∧ e'.sregs = e.sregs ∧ e'.mask = e.mask ∧ t.mem = s.mem ∧ t.orangery = s.orangery ∧ t.waves = s.waves) ∧
    (∀ a, fetchWord s (k / 32) v.asid e.pc.toNat = .poisoned a →
      exec (.runFetch k) s = .next (consume s e.wave (k / 32) (if a < 2 ^ 48 then 6 else 7) a)) ∧
    (∀ cause, fetchWord s (k / 32) v.asid e.pc.toNat = .refused cause →
      exec (.runFetch k) s = .next (raise s k { cause := cause, lane := 255, addr := e.pc.toNat } false e.chainPc))) ∧
  (∀ (s : State) (core slot f d : Nat), slot < 4 → d < 8 →
    let key := fun f => 32 * core + 8 * slot + f
    let first := match look (s.core core).lastSlot slot with | some x => x + 1 | none => 0
    let ready := fun f => ∃ e, look s.ents (key f) = some e ∧ e.park = .running ∧ e.buf ≠ [] ∧ heldByGen s (key f) e = false ∧
      haltedEnt s (key f) e = false ∧ causeDue s (key f) e = false
    ((∀ x e, look (s.core core).holder slot = some x → look s.ents (key x) = some e → e.boundary = true) → f = (first + d) % 8 → ready f →
      (∀ d', d' < d → ¬ ready ((first + d') % 8)) →
      ∃ t e, exec (.runArbitration core slot) s = .next t ∧ look s.ents (key f) = some e ∧ t.focus = some (key f) ∧
        look t.ents (key f) = some { e with boundary := false } ∧ (∀ j, j ≠ key f → look t.ents j = look s.ents j) ∧
        look (t.core core).holder slot = some f ∧ look (t.core core).lastSlot slot = some f ∧ t.mem = s.mem ∧ t.orangery = s.orangery) ∧
    (∀ e, f < 8 → look (s.core core).holder slot = some f → look s.ents (key f) = some e → e.boundary = false →
      (s.focus ≠ some (key f) ∨ (look (s.core core).vec slot).getD 0 ≤ s.now ∨ (e.stalled = none ∧ e.buf ≠ [] ∧ scalarWordOf (e.buf.headD 0) = true) →
        exec (.runArbitration core slot) s = .next { s with focus := some (key f) }) ∧
      (∀ x, s.focus = some (key f) → s.now < (look (s.core core).vec slot).getD 0 → (e.stalled ≠ none ∨ scalarWordOf (e.buf.headD 0) = false ∨ e.buf = []) →
        (first + d) % 8 ≠ f → ready ((first + d) % 8) → (∀ d', d' < d → ¬ ready ((first + d') % 8)) →
        look s.ents (key ((first + d) % 8)) = some x → scalarWordOf (x.buf.headD 0) = true → x.chain.isEmpty = true →
        ∃ t, exec (.runArbitration core slot) s = .next t ∧ t.focus = some (key ((first + d) % 8)) ∧
          look t.ents (key ((first + d) % 8)) = some { x with boundary := false } ∧
          (∀ j, j ≠ key ((first + d) % 8) → look t.ents j = look s.ents j) ∧ { t with ents := s.ents, focus := s.focus } = s)))

/-- R260, R261, R283, R304, R33: FAULT_RECORD_WRITE, PARENT_SPILL, PARENT_RESTORE. What stands where in the spill area is the model's choice
(assumption 80), as is that a block with scratchpad or with another wave keeps its core (assumption 45). -/
def Obligations.FaultRecordAndParentSteps : Prop :=
  (∀ (s : State) (d : Nat) (p : ParkRec) (page kind : Nat) (rest : List (Nat × Nat)),
    s.contexts = [] → d < 8 → p ∈ (s.die d).parks → p.waiting = (page, kind) :: rest →
    (∀ d' < 8, ∀ q ∈ (s.die d').parks, (q.waiting ≠ [] → p.order < q.order ∨ (d' = d ∧ q.id = p.id)) ∧
      (d' = d → q.id = p.id → q = p)) →
    let q := ringOf s 1
    let at' := hostAt + (q.base + 16 * q.tail)
    (ringFull s 1 = true ∨ parkSent s p = false → exec (.faultRecordWrite d) s = .next s) ∧
    (ringFull s 1 = false → parkSent s p = true →
      ∃ t, exec (.faultRecordWrite d) s = .next t ∧
        (t.die d).parks = (s.die d).parks.map (fun x => if x.id = p.id then { x with waiting := rest } else x) ∧
        (∀ g x, parkGang s p = some g → look s.gangs g = some x → look t.gangs g = some { x with ie := true, iex := true }) ∧
        (∀ g, parkGang s p ≠ some g → look t.gangs g = look s.gangs g) ∧
        (ringOf t 1).tail = (q.tail + 1) % q.size ∧ (ringOf t 1).head = q.head ∧ t.ents = s.ents ∧ t.waves = s.waves ∧
        rdN t.mem at' 16 = pack [(84, 44, page / 4096), (68, 16, p.id), (61, 7, p.total), (54, 7, p.total - p.waiting.length), (45, 9, p.asid),
          (38, 7, (s.asid p.asid).fn), (35, 3, kind), (32, 3, d), (26, 6, p.core % 64)] ∧
        ∀ a, a < at' ∨ at' + 16 ≤ a → rd t.mem a = rd s.mem a)) ∧
  (∀ (s : State) (k : Nat) (e : Entity) (v : Wave) (off : Nat),
    look s.ents k = some e → look s.waves e.wave = some v → joinOffset e = some off →
    let gone := withoutParent s e.wave (k / 512) 0
    ((entsOf s e.wave).all (fun x => parentIdle s x.1 x.2) = false ∨ childStarved s gone (k / 512) = false → exec (.parentSpill k) s = .next s) ∧
    (∀ place, (entsOf s e.wave).all (fun x => parentIdle s x.1 x.2) = true → childStarved s gone (k / 512) = true →
      spillPlace s v.owner = some place →
      let base := (spillArea s v.owner).2 + place * 26624
      ∃ t, exec (.parentSpill k) s = .next t ∧ t.ents = s.ents.filter (fun x => decide (x.2.wave ≠ e.wave)) ∧
        t.spilled = s.spilled ++ [{ pav := k / 512, waveId := e.wave, place := place, ents := entsOf s e.wave }] ∧ t.waves = s.waves ∧
        t.blocks = s.blocks ∧ t.orangery = s.orangery ∧ ((∀ i < 26624, spillAt s (k / 2048) v.owner (base + i) = none) → t.mem = s.mem) ∧
        (∀ n x q, v.owner = .tree n → look s.trees n = some x → look s.rxqs x.rxq = some q →
          ∀ a, a < q.spill + base ∨ q.spill + base + 26624 ≤ a → rd t.mem a = rd s.mem a))) ∧
  (∀ (s : State) (n : Nat) (p : Spilled) (v : Wave) (b : Block),
    s.spilled[n]? = some p → look s.waves p.waveId = some v → look s.blocks v.block = some b →
    let met := fun (x : Entity) => ∃ off, joinOffset x = some off ∧ rdN s.orangery off 4 = 0
    ((∀ x ∈ p.ents, ¬ met x.2) → exec (.parentRestore n) s = .next s) ∧
    (∀ core r keys, (∃ x ∈ p.ents, met x.2) → resident s b = true → (s.pav p.pav).halting = false → parentCore s p v b = some (core, r) →
      slotKeys s core (((p.ents.head?).map (fun x => x.1 / 8 % 4)).getD 0) p.ents.length = some keys → (p.ents.map (fun x => x.1)).Nodup →
      ∃ t, exec (.parentRestore n) s = .next t ∧
        (∀ (i : Nat) (x : Nat × Entity) (key : Nat), p.ents[i]? = some x → keys[i]? = some key →
          ∃ y, look t.ents key = some y ∧ { y with park := x.2.park, pairs := x.2.pairs } = { x.2 with buf := [] } ∧
            y.pairs.map (fun z => z.token) = x.2.pairs.map (fun z => z.token) ∧ (joinOffset x.2 ≠ none → y.park = .running) ∧
            (joinOffset x.2 = none → y.park = x.2.park)) ∧
        (∀ j, j ∉ keys → look t.ents j = look s.ents j) ∧ t.spilled = s.spilled.take n ++ s.spilled.drop (n + 1) ∧
        (∃ b', look t.blocks v.block = some b' ∧ b'.core = core ∧ { b' with core := b.core } = b) ∧
        (look t.waves p.waveId).map (fun x => x.reserved) = some r ∧
        (core ≠ b.core → coreEmpty s core = true → (t.core core).data.tiles = [] ∧ (t.core core).data.asn = []) ∧ t.mem = s.mem ∧ t.orangery = s.orangery))

/-- R66, R84, R87, R88, R94, R178, R179, R222, R277: HOME_OPERATION, GLOBAL_ACCESS_RESPONSE, STRIKE_BUFFER_SEND. That a load's value is what its core's
held stores, its L1 where that answers, and its die show when the reply is delivered is the model's choice (assumptions 17 and 55). -/
def Obligations.MemorySteps : Prop :=
  (∀ (s : State) (k : Nat) (o : HomeOp), s.homeQ[k]? = some o →
    let ops := s.homeQ.filter (fun x => decide (x.core = o.core ∧ x.ent = o.ent ∧ x.wave = o.wave ∧ x.serial = o.serial ∧ x.addr / 64 = o.addr / 64))
    let d := o.core / 64
    let gone := fun (t : State) => t.homeQ = s.homeQ.filter (fun x =>
        !decide (x.core = o.core ∧ x.ent = o.ent ∧ x.wave = o.wave ∧ x.serial = o.serial ∧ x.addr / 64 = o.addr / 64)) ∧
      t.waves = s.waves ∧ t.orangery = s.orangery
    ((∃ x ∈ ops, turnAtHome s x = false) → exec (.homeOperation k) s = .next s) ∧
    ((∀ x ∈ ops, turnAtHome s x = true) →
      ((∀ x ∈ ops, x.kind = .store ∧ x.bad = false ∧ x.data ≠ [] ∧ ∀ i < x.data.length, (homeDie (x.addr + i)).isSome = true) →
        let last := fun (a : Nat) => (ops.filter (fun x => decide (x.addr ≤ a ∧ a < x.addr + x.data.length))).getLast?
        let whole := ∀ i < 64, last (o.addr / 64 * 64 + i) ≠ none
        ∃ t, exec (.homeOperation k) s = .next t ∧ gone t ∧ t.ents = s.ents ∧
          (∀ a, rd t.mem a = (match last a with | some x => x.data.getD (a - x.addr) 0 | none => rd s.mem a)) ∧
          (∀ a, d < 8 → (homeDie a).isSome = true →
            dieByte t d a = (match last a with | some x => x.data.getD (a - x.addr) 0 | none => dieByte s d a)) ∧
          (∀ a x, (homeDie a).isSome = true → x < 8 → x ≠ d → dieByte t x a = dieByte s x a) ∧
          (t.die d).opened = (s.die d).opened ++ ops.zipIdx.map (fun y =>
            { ent := o.ent, wave := o.wave, serial := o.serial, addr := y.1.addr, data := y.1.data, stamp := s.fresh + 1 + y.2 }) ∧
          (∀ g, g ∈ t.poison ↔ g ∈ s.poison ∧ ¬ (whole ∧ g = .memory (o.addr / 64 * 64)))) ∧
      (∀ op v c, o.kind = .atom op v c → memPoison s o.addr = none → (homeDie o.addr).isSome = true →
        let size := if 11 ≤ op then 8 else 4
        let old := BitVec.ofNat 64 (rdN s.mem o.addr size)
        let reply := fun (x : HomeOp) (v : Dword) => ({
          core := o.core, ent := o.ent, wave := o.wave, serial := o.serial, reg := x.reg, wide := x.wide, kind := .value o.addr v,
          needs := (s.die ((homeDie o.addr).getD d)).clock, acq := x.acq } : Reply)
        o.addr % size = 0 →
        (ops = [o] →
          ∃ t, exec (.homeOperation k) s = .next t ∧ gone t ∧ t.ents = s.ents ∧ rdN t.mem o.addr size = (atomNew op old v c).toNat % 2 ^ (8 * size) ∧
            (∀ a, a < o.addr ∨ o.addr + size ≤ a → rd t.mem a = rd s.mem a) ∧ t.replies = s.replies ++ [reply o old]) ∧
        (∀ x w b, ops = [o, x] → x.addr = o.addr → x.kind = .atom op w b →
          let then' := BitVec.ofNat 64 ((atomNew op old v c).toNat % 2 ^ (8 * size))
          ∃ t, exec (.homeOperation k) s = .next t ∧ gone t ∧ t.ents = s.ents ∧ rdN t.mem o.addr size = (atomNew op then' w b).toNat % 2 ^ (8 * size) ∧
            (∀ a, a < o.addr ∨ o.addr + size ≤ a → rd t.mem a = rd s.mem a) ∧ t.replies = s.replies ++ [reply o old, reply x then'])) ∧
      (o.kind = .fill → ops = [o] → o.data.length = 8 → o.addr % 16 = 0 → (homeDie o.addr).isSome = true →
        ∃ t, exec (.homeOperation k) s = .next t ∧ gone t ∧ rdN t.mem o.addr 4 = 1 ∧ rdBytes t.mem (o.addr + 8) 8 = o.data ∧
          (∀ a, a < o.addr ∨ o.addr + 16 ≤ a → rd t.mem a = rd s.mem a) ∧
          ∀ j e, look s.ents j = some e → look t.ents j = some (match e.park with
            | .wait _ ks => if ks.contains (.global (o.addr / 64)) then { e with park := .running, retest := true } else e
            | _ => e)))) ∧
  (∀ (s : State) (k : Nat) (r : Reply) (e : Entity) (w : Wave), s.replies[k]? = some r → look s.ents r.ent = some e → e.wave = r.wave →
    look s.waves r.wave = some w →
    (covers (s.die (r.core / 64)).clock r.needs = true → arrived s r = true) ∧
    (∀ a v, r.kind = .value a v → arrived s r = covers (s.die (r.core / 64)).clock r.needs) ∧
    (arrived s r = false ∨ loadTurn s r = false → exec (.globalAccessResponse k) s = .next s) ∧
    (∀ vs : NMap Dword, arrived s r = true → loadTurn s r = true → r.readsPoison s = none →
      ((∃ a v, r.kind = .value a v ∧ vs = [((r.reg.bind (fun x => x.2)).getD 255, v)]) ∨
        ∃ items n sg cached, r.kind = .load items n sg cached ∧
          vs = items.map (fun x => (x.1, extend n sg (coreLoad s r.ent r.wave r.serial (usesL1 s r) x.2 n)))) →
      ∃ t e', exec (.globalAccessResponse k) s = .next t ∧ t.replies = s.replies.take k ++ s.replies.drop (k + 1) ∧ t.mem = s.mem ∧
        t.orangery = s.orangery ∧ look t.ents r.ent = some e' ∧ (∀ j, j ≠ r.ent → look t.ents j = look s.ents j) ∧
        (∀ j, j ≠ r.wave → look t.waves j = look s.waves j) ∧ (r.acq = true → (t.core r.core).l1 = []) ∧
        { e' with sregs := e.sregs, mask := e.mask, fold := e.fold, seen := e.seen } = e ∧
        (∀ n v, r.reg = some (n, none) → vs = [(255, v)] → let f := if r.wide then e.wPair n v else e.wS n (v.setWidth 32)
          e'.sregs = f.sregs ∧ e'.mask = f.mask ∧ look t.waves r.wave = some w) ∧
        (∀ n lane, r.reg = some (n, some lane) → e'.sregs = e.sregs ∧ e'.mask = e.mask ∧
          let mine := lanesOf (fun i => (look vs i).isSome)
          look t.waves r.wave = some (if r.wide then w.wVPair n mine (fun i => (look vs i).getD 0)
            else w.wV n mine (fun i => ((look vs i).getD 0).setWidth 32))))) ∧
  (∀ (s : State) (c : Nat) (h : HeldWrite), (s.core c).data.held.head? = some h →
    let out := (s.core c).data.held.takeWhile (fun x => decide (x.serial = h.serial))
    let ended := ∀ w, look s.waves h.wave = some w → w.ended = true
    (¬ ended → s.now < h.time + 256 → exec (.strikeBufferSend c) s = .next s) ∧
    (ended ∨ h.time + 256 ≤ s.now →
      ∃ t, exec (.strikeBufferSend c) s = .next t ∧ (s.core c).data.held = out ++ (t.core c).data.held ∧ t.ents = s.ents ∧ t.waves = s.waves ∧
        t.mem = s.mem ∧ t.orangery = s.orangery ∧
        (∀ x ∈ (t.core c).data.held.head?, x.serial ≠ h.serial) ∧
        t.homeQ = s.homeQ ++ out.filterMap (fun x => match x.dst with
          | .memory a => some {
              core := c, ent := x.ent, wave := x.wave, serial := x.serial, kind := .store, addr := a, data := x.data
              dep := (s.die (c / 64)).clock, acq := false, lanes := x.lanes, reg := none, wide := false, bad := x.bad }
          | _ => none) ∧
        t.bankQ = s.bankQ ++ out.filterMap (fun x => match x.dst with
          | .orangery a => some {
              ent := x.ent, wave := x.wave, core := c, serial := x.serial, lanes := x.lanes, off := a, kind := .store x.data
              reg := none, wide := false, acq := false, dep := x.dep, bad := x.bad }
          | _ => none) ∧
        ∀ y a, rd (t.core y).data.scratch a = (match (out.filter (fun x => match x.dst with
            | .scratch z o => decide (z = y ∧ o ≤ a ∧ a < o + x.data.length)
            | _ => false)).getLast? with
          | some x => (match x.dst with | .scratch _ o => x.data.getD (a - o) 0 | _ => 0)
          | none => rd (s.core y).data.scratch a)))

/-- R79, R181 to R183, R217, R218, R264: BANK_OPERATION. A load meets what its core still holds of earlier stores over what the bank has. That a store
that is ignored ends no poison is the model's choice (assumption 81). -/
def Obligations.BankStep : Prop :=
  ∀ (s : State) (k : Nat) (o : BankOp), s.bankQ[k]? = some o → turnAtBank s o.core o.ent o.wave o.lanes o.serial o.off = true →
    covers (s.die (o.off / 2 ^ 21 % 8)).clock o.dep = true → o.readsPoison s = none →
    let woken := fun (e : Entity) => match e.park with
      | .wait _ ks => if ks.contains (.orangery (o.off / 64)) then { e with park := .running, retest := true } else e
      | _ => e
    let size := fun (op : Nat) => if 11 ≤ op then 8 else 4
    let old := fun (n : Nat) => BitVec.ofNat 64 (rdN s.orangery o.off n)
    let reply := fun (v : ReplyKind) => ({
      core := o.core, ent := o.ent, wave := o.wave, serial := o.serial, reg := o.reg, wide := o.wide, kind := v,
      needs := (s.die (o.off / 2 ^ 21 % 8)).clock, acq := o.acq } : Reply)
    let ack := if o.acq then [reply .ack] else []
    let run := fun (n : Nat) (P : State → Prop) => ∃ t, exec (.bankOperation k) s = .next t ∧ t.mem = s.mem ∧ t.waves = s.waves ∧
      t.bankQ = s.bankQ.take k ++ s.bankQ.drop (k + 1) ∧ (∀ a, a < o.off ∨ o.off + n ≤ a → rd t.orangery a = rd s.orangery a) ∧ P t
    let wakes := fun (t : State) => ∀ j e, look s.ents j = some e → look t.ents j = some (woken e)
    (orngStores s o.core o.serial = [] → ∀ n, bankLoad s o n = rdN s.orangery o.off n) ∧
    (fixedAt s o.off = (descAt s o.off || decide (0x27000000 ≤ o.off ∧ o.off < 0x27100000))) ∧
    (fixedAt s o.off = true → ∃ t, exec (.bankOperation k) s = .next t ∧ t.orangery = s.orangery ∧ t.poison = s.poison ∧
      t.bankQ = s.bankQ.take k ++ s.bankQ.drop (k + 1)) ∧
    ((∀ n sg, o.kind ≠ .load n sg) → ∃ t, exec (.bankOperation k) s = .next t ∧ (t.die (o.core / 64)).opened = (s.die (o.core / 64)).opened ++
      [{ ent := o.ent, wave := o.wave, serial := o.serial, addr := 2 ^ 60 + o.off, data := [], stamp := s.fresh }]) ∧
    (∀ n sg, o.kind = .load n sg → run 0 (fun t => t.replies = s.replies ++ [reply (.value (2 ^ 60 + o.off) (extend n sg (bankLoad s o n)))] ∧
      ∀ j, (look t.ents j).map (fun e => { e with seen := [] }) = (look s.ents j).map (fun e => { e with seen := [] }))) ∧
    (fixedAt s o.off = false →
      (∀ bs, o.kind = .store bs → run bs.length (fun t => wakes t ∧ rdBytes t.orangery o.off bs.length = bs ∧ t.replies = s.replies)) ∧
      (∀ op v c, o.kind = .atom op v c → run (size op) (fun t => wakes t ∧
        rdN t.orangery o.off (size op) = (atomNew op (old (size op)) v c).toNat % 2 ^ (8 * size op) ∧
        t.replies = s.replies ++ [reply (.value (2 ^ 60 + o.off) (old (size op)))])) ∧
      (∀ op v, o.kind = .update op v → run (size op) (fun t => wakes t ∧ t.replies = s.replies ∧
        rdN t.orangery o.off (size op) = (atomNew op (old (size op)) v 0).toNat % 2 ^ (8 * size op))) ∧
      (∀ op vs, o.kind = .fold op vs → run (size op) (fun t => wakes t ∧ t.replies = s.replies ++ ack ∧
        rdN t.orangery o.off (size op) = (vs.foldl (fun (r : Dword) v => atomNew op r v 0) (old (size op))).toNat % 2 ^ (8 * size op))) ∧
      (∀ op slot v, o.kind = .ordx op slot v → (op = 0 ∨ op = 10 ∨ op = 11) → run 64 (fun t => wakes t ∧ t.orangery = ordxAt s.orangery o.off op slot v ∧ t.replies = s.replies ++ ack ∧
        let at' := o.off + (if op = 11 then 8 else 4)
        let ctl := rdN s.orangery at' 4
        let n := ctl / 2 ^ 16 % 16
        let slots := if op = 11 then 6 else 14
        let place := fun i => o.off + (if op = 11 then 16 + 8 * i else 8 + 4 * i)
        let arr := fun (m : Memory) (i : Nat) => (rdN m at' 4).testBit i
        let done := fun (m : Memory) => (rdN m at' 4).testBit 24
        (done s.orangery = true ∨ n ≤ slot ∨ slots ≤ slot ∨ arr s.orangery slot = true → t.orangery = s.orangery) ∧
        (done s.orangery = false → slot < n → slot < slots → arr s.orangery slot = false →
          rdN t.orangery (place slot) (size op) = v.toNat % 2 ^ (8 * size op) ∧
          (∀ i < slots, i ≠ slot → rdN t.orangery (place i) (size op) = rdN s.orangery (place i) (size op)) ∧
          ((∃ i < n, i ≠ slot ∧ arr s.orangery i = false) → done t.orangery = false ∧ rdN t.orangery o.off (size op) = rdN s.orangery o.off (size op) ∧
            ∀ i < 14, arr t.orangery i = (arr s.orangery i || decide (i = slot))) ∧
          ((∀ i < n, i ≠ slot → arr s.orangery i = true) → n ≤ slots → done t.orangery = true ∧ (∀ i < 14, arr t.orangery i = false) ∧
            rdN t.orangery o.off (size op) = ((List.range (n - 1)).foldl (fun (r : Dword) i =>
              atomNew op r (BitVec.ofNat 64 (rdN t.orangery (place (i + 1)) (size op))) 0) (BitVec.ofNat 64 (rdN t.orangery (place 0) (size op)))).toNat %
                2 ^ (8 * size op))))) ∧
      (∀ n, o.kind = .jinit n → run 16 (fun t => wakes t ∧ rdN t.orangery o.off 16 = n.toNat)) ∧
      (∀ n cs, o.kind = .spawn n cs → run 4 (fun t => t.ents = s.ents ∧
        (rdN s.orangery o.off 4 + n < 2 ^ 32 → rdN t.orangery o.off 4 = rdN s.orangery o.off 4 + n ∧ ∃ x, t.answers = s.answers ++
          [{ ent := o.ent, wave := o.wave, block := 0, line := o.off, kind := .children x, needs := [] }] ∧ x.map (fun p => p.2) = cs) ∧
        (2 ^ 32 ≤ rdN s.orangery o.off 4 + n → t.orangery = s.orangery ∧ t.answers = s.answers ++
          [{ ent := o.ent, wave := o.wave, block := 0, line := o.off, kind := .joinMisuse o.off, needs := [] }]))) ∧
      (∀ ow n, o.kind = .decrement ow n → n ≤ rdN s.orangery o.off 4 → run 4 (fun t => rdN t.orangery o.off 4 = rdN s.orangery o.off 4 - n ∧
        (rdN s.orangery o.off 4 = n → wakes t) ∧ (n < rdN s.orangery o.off 4 → t.ents = s.ents))) ∧
      (∀ ow n, o.kind = .decrement ow n → rdN s.orangery o.off 4 < n →
        ∃ t, exec (.bankOperation k) s = .next t ∧ t.waves = s.waves ∧ t.bankQ = s.bankQ.take k ++ s.bankQ.drop (k + 1) ∧
          (∀ a, a < o.off ∨ o.off + 4 ≤ a → rd t.orangery a = rd s.orangery a) ∧ rdN t.orangery o.off 4 = 0 ∧ wakes t ∧
          (n = rdN s.orangery o.off 4 + 1 → ringFull s 2 = false →
            let q := ringOf s 2
            let at' := hostAt + (q.base + 16 * q.tail)
            (ringOf t 2).tail = (q.tail + 1) % q.size ∧
            rdN t.mem at' 16 = pack [(96, 32, lidOf s ow), (88, 8, 1), (80, 8, 0x31), (77, 3, o.core / 64), (71, 6, o.core % 64), (0, 64, o.off)] ∧
            ∀ a, a < at' ∨ at' + 16 ≤ a → rd t.mem a = rd s.mem a)))

/-- R92, R93, R94, R309, R151: EPOCH_TIMEOUT, EPOCH_APPLY, HOST_EPOCH_ACK, GFENCE_RELEASE, ICINV_COMPLETE. -/
def Obligations.EpochSteps : Prop :=
  (∀ (s : State) (d opened : Nat), d < 8 → (s.die d).openAt = some opened →
    (s.now < opened + 1024 → exec (.epochTimeout d) s = .next s) ∧
    (opened + 1024 ≤ s.now →
      let n := (s.die d).epoch + 1
      let hosts := (s.die d).opened.filter (fun w => decide (target w.addr = .host))
      ∃ t, exec (.epochTimeout d) s = .next t ∧ { t with dies := s.dies } = s ∧ (t.die d).epoch = n ∧ (t.die d).clock = setNth (s.die d).clock d n ∧
        (t.die d).opened = [] ∧ (t.die d).openAt = none ∧ (t.die d).inbox = (s.die d).inbox ∧
        (t.die d).hostOut = (s.die d).hostOut ++ (if hosts = [] then [] else [{ src := d, stamp := setNth (s.die d).clock d n, writes := hosts }]) ∧
        ∀ x < 8, x ≠ d → { t.die x with inbox := (s.die x).inbox } = s.die x ∧ (t.die x).inbox = (s.die x).inbox ++
          [{ src := d, stamp := setNth (s.die d).clock d n, writes := (s.die d).opened.filter (fun w => !decide (target w.addr = .host)) }])) ∧
  (∀ (s : State) (d src : Nat) (x : Epoch), (s.die d).inbox.find? (fun y => decide (y.src = src)) = some x →
    (canApply (s.die d) x = false → exec (.epochApply d src) s = .next s) ∧
    (canApply (s.die d) x = true →
      ∃ t, exec (.epochApply d src) s = .next t ∧ { t with dies := s.dies, cores := s.cores } = s ∧ (∀ y, y ≠ d → t.die y = s.die y) ∧
        (∀ c, { t.core c with l1 := (s.core c).l1 } = s.core c ∧ (t.core c).l1 = (s.core c).l1.filter (fun l =>
          !(decide (c / 64 = d) && x.writes.any (fun w => decide (l.addr < w.addr + w.data.length) && decide (w.addr < l.addr + 64))))) ∧
        (t.die d).clock = setNth (s.die d).clock src (x.stamp.getD src 0) ∧ (t.die d).inbox = (s.die d).inbox.eraseP (fun y => decide (y.src = src)) ∧
        (∀ w ∈ x.writes, ∀ i < w.data.length, (homeDie (w.addr + i)).isSome = true → lastStamp s (w.addr + i) ≤ w.stamp →
          (∀ b n, look (s.die d).stale (w.addr + i) = some (b, n) → n < w.stamp) → dieByte t d (w.addr + i) = rd s.mem (w.addr + i)) ∧
        ∀ a, (homeDie a).isSome = true → (∀ w ∈ x.writes, a < w.addr ∨ w.addr + w.data.length ≤ a) → dieByte t d a = dieByte s d a)) ∧
  (∀ (s : State) (d : Nat) (x : Epoch) (rest : List Epoch), (s.die d).hostOut = x :: rest →
    let before := setNth x.stamp d (x.stamp.getD d 0 - 1)
    ((∃ y < 8, covers (s.die y).clock before = false ∨ (y ≠ d ∧ ∃ h ∈ (s.die y).hostOut, h.stamp.getD y 0 ≤ x.stamp.getD y 0)) →
      exec (.hostEpochAck d) s = .next s) ∧
    ((∀ y < 8, covers (s.die y).clock before = true) → (∀ y < 8, y ≠ d → ∀ h ∈ (s.die y).hostOut, x.stamp.getD y 0 < h.stamp.getD y 0) →
      ∃ t, exec (.hostEpochAck d) s = .next t ∧ (t.die d).hostOut = rest ∧ t.ents = s.ents ∧ t.orangery = s.orangery ∧
        ∀ a, rd t.mem a = (lastByte (x.writes.map (fun w => (w.addr, w.data))) a).getD (rd s.mem a))) ∧
  (∀ (s : State) (k : Nat) (e : Entity) (clock : List Nat), look s.ents k = some e → e.park = .gfence clock →
    (appliedEverywhere s clock = true → ∃ t, exec (.gfenceRelease k) s = .next t ∧ Claim.EntityOnly s t k { e.jump e.resume with park := .running }) ∧
    (appliedEverywhere s clock = false → exec (.gfenceRelease k) s = .next s)) ∧
  (∀ (s : State) (k : Nat) (i : Icinv), s.icinvs[k]? = some i →
    (i.clock = [] → writesOut s i = false → exec (.icinvComplete k) s = .next s) ∧
    (i.clock = [] → writesOut s i = true → ∃ t, exec (.icinvComplete k) s = .next t ∧
      t.icinvs = setNth s.icinvs k { i with clock := (t.die (i.ent / 32 / 64)).clock } ∧ (t.die (i.ent / 32 / 64)).opened = [] ∧ t.ents = s.ents ∧
      t.cores = s.cores ∧ t.mem = s.mem) ∧
    (i.clock ≠ [] → appliedEverywhere s i.clock = false → exec (.icinvComplete k) s = .next s) ∧
    (i.clock ≠ [] → appliedEverywhere s i.clock = true → ∃ t, exec (.icinvComplete k) s = .next t ∧
      t.icinvs = s.icinvs.take k ++ s.icinvs.drop (k + 1) ∧ t.mem = s.mem ∧ t.orangery = s.orangery ∧
      (∀ c, (t.core c).icache = (s.core c).icache.filter (fun l =>
        !(decide (l.asid = i.asid) && (i.all || (decide (l.va < i.base + i.len) && decide (i.base < l.va + 64)))))) ∧
      ((∀ j x, j ≠ k → s.icinvs[j]? = some x → x.ent ≠ i.ent ∨ x.wave ≠ i.wave) → ∀ e, look s.ents i.ent = some e → e.wave = i.wave → e.park = .icinv →
        ∃ e', look t.ents i.ent = some e' ∧ e'.park = .running ∧ e'.pc = e.resume ∧ e'.sregs = e.sregs)))

/-- R47 to R53, R210 to R214: BANK_PASS, BANK_SEAL, BANK_VGET, BANK_VPIN, BANK_VREL, BANK_ANSWER. -/
def Obligations.ObjectBankSteps : Prop :=
  (∀ (s : State) (k : Nat) (m : PassMsg), s.passQ[k]? = some m → turnAtBank s m.core m.ent m.wave 0 m.serial (m.off s) = true →
    covers (s.die (m.off s / 2 ^ 21 % 8)).clock m.dep = true →
    let run := fun (i : Instr) (kind : Option AnswerKind) (P : State → Prop) => ∃ t, exec i s = .next t ∧
      t.passQ = s.passQ.take k ++ s.passQ.drop (k + 1) ∧ t.mem = s.mem ∧ t.waves = s.waves ∧ t.blocks = s.blocks ∧
      t.answers = s.answers ++ (kind.toList.map (fun a => { ent := m.ent, wave := m.wave, block := m.block, line := m.off s, kind := a, needs := (s.die (m.off s / 2 ^ 21 % 8)).clock })) ∧
      P t
    let same := fun (t : State) => t.orangery = s.orangery ∧ t.ents = s.ents
    (objNamed s m.asid m.handle = none →
      (∀ o r, m.kind = .pass o r → run (.bankPass k) (some .refusedObject) same) ∧ (∀ r, m.kind = .vget r → run (.bankVget k) (some .refusedObject) same) ∧
      (∀ r, m.kind = .vpin r → run (.bankVpin k) (some .refusedObject) same) ∧ (∀ r, m.kind = .vrel r → run (.bankVrel k) (some .refusedObject) same)) ∧
    (∀ off x, objNamed s m.asid m.handle = some (off, x) →
      let f := fun (g : ObjField) => objGet x g
      let wrote := fun (fs : List (ObjField × Nat)) (others : List ObjField) (t : State) =>
        (∀ p ∈ fs, objGet (objRead t off) p.1 = p.2) ∧ (∀ g ∈ others, objGet (objRead t off) g = objGet x g) ∧
        (∀ a, a < off ∨ off + 64 ≤ a → rd t.orangery a = rd s.orangery a)
      let fixed : List ObjField := [.slotBase, .slotSize, .parts, .km1, .rule, .hostVis, .gen, .plid, .ldone, .asid]
      let pins := (List.range 8).map ObjField.pin
      let ages := (List.range 8).map ObjField.age
      let rest : List ObjField := [.version, .quality, .pqual, .seals, .cur, .work, .open', .poison]
      let slotAt := fun (i : Nat) => BitVec.ofNat 64 (f .slotBase * 4096 + i * f .slotSize * 4096)
      let unit := if f .rule = 0 then 0xFFFFFFFF else 0
      let q := fun (n : Nat) => match f .rule with | 0 => min (f .pqual) n | 1 => max (f .pqual) n | _ => min (f .pqual + n) 0xFFFFFFFF
      (∀ o r, m.kind = .pass o r → orngPoison s off 64 = none →
        (sealPending s m o x = true → run (.bankPass k) (some (.noSlot o)) same) ∧
        (sealPending s m o x = false →
          (f .open' = 1 → run (.bankPass k) (some (.slot o r (slotAt (f .work)) (BitVec.ofNat 32 (f .version + 1)))) (wrote [] (fixed ++ pins ++ ages ++ rest))) ∧
          (f .open' = 0 → (∀ i ≤ f .km1, f (.age i) = f .cur ∨ f (.pin (f (.age i))) ≠ 0) → run (.bankPass k) (some (.noSlot o)) same) ∧
          (∀ i ≤ f .km1, f .open' = 0 → f (.age i) ≠ f .cur → f (.pin (f (.age i))) = 0 →
            (∀ j < i, f (.age j) = f .cur ∨ f (.pin (f (.age j))) ≠ 0) →
            run (.bankPass k) (some (.slot o r (slotAt (f (.age i))) (BitVec.ofNat 32 (f .version + 1))))
              (wrote [(.work, f (.age i)), (.open', 1), (.seals, 0), (.pqual, unit)] (fixed ++ pins ++ ages ++ [.version, .quality, .cur, .poison]))))) ∧
      (∀ n, m.kind = .seal n → appliedByDies s m.dep = true →
        (f .open' = 0 → run (.bankSeal k) none same) ∧
        (orngPoison s off 64 = none → f .open' = 1 → (f .seals + 1) % 65536 ≠ f .parts → run (.bankSeal k) none (fun t => t.ents = s.ents ∧
          wrote [(.pqual, q n.toNat), (.seals, (f .seals + 1) % 65536)] (fixed ++ pins ++ ages ++ [.version, .quality, .cur, .work, .open', .poison]) t)) ∧
        (orngPoison s off 64 = none → f .open' = 1 → (f .seals + 1) % 65536 = f .parts → run (.bankSeal k) none (fun t =>
          wrote [(.cur, f .work), (.open', 0), (.seals, 0), (.version, (f .version + 1) % 2 ^ 64), (.quality, q n.toNat), (.poison, 0)]
            (fixed ++ pins ++ [.work]) t ∧
          (∀ p ≤ f .km1, (∀ j ≤ f .km1, f (.age j) = f .work ↔ j = p) → objGet (objRead t off) (.age (f .km1)) = f .work ∧
            ∀ j < f .km1, objGet (objRead t off) (.age j) = f (.age (if j < p then j else j + 1))) ∧
          ∀ j e, look s.ents j = some e → ∃ e', look t.ents j = some e' ∧ e'.sregs = e.sregs ∧
            ∀ z ks, e.park = .wait z ks → e'.park = (if ks.contains (.orangery (off / 64)) then .running else e.park)))) ∧
      (∀ r, m.kind = .vget r → orngPoison s off 64 = none → run (.bankVget k) (some (.group r (resultGroup x))) same) ∧
      (∀ r, m.kind = .vpin r → orngPoison s off 64 = none →
        (f (.pin (f .cur)) = 255 → run (.bankVpin k) (some .refusedObject) same) ∧
        (f (.pin (f .cur)) ≠ 255 → run (.bankVpin k) (some (.group r (resultGroup x)))
          (wrote [(.pin (f .cur), f (.pin (f .cur)) + 1)] (fixed ++ ages ++ rest ++ ((List.range 8).filter (fun j => decide (j ≠ f .cur))).map .pin)))) ∧
      (∀ j, m.kind = .vrel j → orngPoison s off 64 = none →
        (f .km1 < j ∨ f (.pin j) = 0 → run (.bankVrel k) (some .refusedObject) same) ∧
        (j ≤ f .km1 → f (.pin j) ≠ 0 → run (.bankVrel k) (some .done)
          (wrote [(.pin j, f (.pin j) - 1)] (fixed ++ ages ++ rest ++ ((List.range 8).filter (fun i => decide (i ≠ j))).map .pin)))))) ∧
  (∀ (s : State) (k : Nat) (a : Answer) (e : Entity) (v : Wave) (b : Block), s.answers[k]? = some a → look s.ents a.ent = some e → e.wave = a.wave →
    e.park = .bank → look s.waves a.wave = some v → look s.blocks a.block = some b →
    (covers (s.die (a.ent / 32 / 64)).clock a.needs = false → exec (.bankAnswer k) s = .next s) ∧
    (covers (s.die (a.ent / 32 / 64)).clock a.needs = true →
      let run := fun (e' : Entity) (P : State → Prop) => ∃ t, exec (.bankAnswer k) s = .next t ∧ look t.ents a.ent = some e' ∧
        (∀ j, j ≠ a.ent → look t.ents j = look s.ents j) ∧ t.answers = s.answers.take k ++ s.answers.drop (k + 1) ∧ t.mem = s.mem ∧
        t.orangery = s.orangery ∧ P t
      let on := fun (x : Entity) => ({ x with park := .running } : Entity).retire (e.buf.headD 0).msb
      (∀ o r addr n, a.kind = .slot o r addr n → run { (e.wPair r addr).jump e.resume with park := .running } (fun t =>
        look t.waves a.wave = some { v with passIdx := n } ∧
        let y := if (b.sealOf o).isSealed = true ∧ (b.sealOf o).pass = n then b.sealOf o else { isSealed := false, pass := n, received := true }
        look t.blocks a.block = some { b with seals := put b.seals o y })) ∧
      (∀ r ws, a.kind = .group r ws → run (on (e.wMany r ws)) (fun t => t.waves = s.waves)) ∧
      (a.kind = .done → run (on e) (fun t => t.waves = s.waves)) ∧
      (∀ o, a.kind = .noSlot o →
        let x := objRead s a.line
        let r := b.sealOf o
        let done := objGet x .ldone = 1
        let sealed := r.isSealed = true ∧ ¬ done ∧ 2 ^ 31 ≤ (objGet x .version + 2 ^ 32 - r.pass.toNat) % 2 ^ 32
        let free := objGet x .open' = 1 ∨ done ∨ ∃ i ≤ objGet x .km1, objGet x (.age i) ≠ objGet x .cur ∧ objGet x (.pin (objGet x (.age i))) = 0
        (free ∧ ¬ sealed → run { e with park := .running } (fun t => t.waves = s.waves)) ∧
        (¬ (free ∧ ¬ sealed) → ∃ p, run { e with park := p } (fun t => t.waves = s.waves) ∧
          (p = .wait none [.orangery (a.line / 64)] ∨ p = .poll none (s.now + 256)))) ∧
      (∀ cs, a.kind = .children cs → a.needs = [] →
        let lanes := (List.range 96).filter (fun i => e.mask.getLsbD i)
        let sent := deliverAll deliverChild { s with answers := s.answers.take k ++ s.answers.drop (k + 1) } (cs.map (fun c => (lanes.getD c.1 0, c.2)))
        (sent.2 = none → ∃ t, exec (.bankAnswer k) s = .next t ∧ look t.ents a.ent = some (on { e with progress := true }) ∧
          t.pavs = sent.1.pavs ∧ t.rxqs = sent.1.rxqs ∧ t.launches = sent.1.launches ∧ t.mem = sent.1.mem ∧ t.orangery = s.orangery) ∧
        (∀ lane, sent.2 = some lane → v.handler ≠ 0 → e.level = false →
          ∃ t, exec (.bankAnswer k) s = .next t ∧
            look t.ents a.ent = some (enterHandler e v.handler { cause := 0x30, lane := lane, addr := 0 } false e.chainPc) ∧
            t.pavs = sent.1.pavs ∧ t.rxqs = sent.1.rxqs ∧ t.launches = sent.1.launches ∧ t.mem = sent.1.mem ∧ t.orangery = s.orangery)) ∧
      (∀ (s : State) (c : Child), (spillRing s c.owner).1 = [] →
        (∀ t, binChild s c = some t → deliverChild s c = some t) ∧
        (binChild s c = none → ∀ t u, startFull s c = some t → binChild t c = some u → deliverChild s c = some u) ∧
        (binChild s c = none → startFull s c = none → deliverChild s c = toRing s c)) ∧
      (∀ (s : State) (c : Child), (spillRing s c.owner).1 ≠ [] → deliverChild s c = toRing s c) ∧
      (v.handler ≠ 0 → e.level = false →
        (a.kind = .refusedObject → run (enterHandler e v.handler { cause := 0x50, lane := 255, addr := 0 } false e.chainPc) (fun t => t.waves = s.waves)) ∧
        (∀ o, a.kind = .joinMisuse o →
          run (enterHandler e v.handler { cause := 0x31, lane := 255, addr := o } false e.chainPc) (fun t => t.waves = s.waves)))))

/-- R59, R285: OBJECT_CLOSE and OBJECT_DROP. The first close writes a journal record in unit 39 of die 0 (R238; where, is assumption 64), in which
no object stands (R78), and one in its mirror in HBM. -/
def Obligations.ObjectEndSteps : Prop :=
  (∀ (s : State) (l k off x : Nat) (v : Launch), look s.launches l = some v → boundLine s v k = some (off, x) → k < v.record.objs.length →
    launchQuiet s l = true → off + 64 ≤ 0x27000000 ∨ 0x27200000 ≤ off →
    let f := fun (g : ObjField) => objGet x g
    let stand : List ObjField := [.version, .quality, .slotBase, .slotSize, .parts, .km1, .rule, .hostVis, .gen, .plid, .asid, .cur, .work] ++
      (List.range 8).map ObjField.pin ++ (List.range 8).map ObjField.age
    let wrote := fun (t : State) (fs : List (ObjField × Nat)) => (∀ p ∈ fs, objGet (objRead t off) p.1 = p.2) ∧
      (∀ g ∈ stand, objGet (objRead t off) g = f g) ∧ (∀ a, a < 0x2540BE4000 - 2 ^ 20 ∨ 0x2540BE4000 ≤ a → rd t.mem a = rd s.mem a) ∧
      (∀ a, a < off ∨ off + 64 ≤ a → a < 0x27000000 ∨ 0x27200000 ≤ a → rd t.orangery a = rd s.orangery a)
    let unit := if f .rule = 0 then 0xFFFFFFFF else 0
    let discarded := if f .open' = 1 then [(ObjField.open', 0), (.seals, 0), (.pqual, unit)] else [(.open', 0), (.seals, f .seals), (.pqual, f .pqual)]
    (k = v.closed.length → v.bound = true → servedBy s v.queue = none → exec (.objectClose l k) s = .next s) ∧
    (k = v.closed.length → v.bound = true → servedBy s v.queue ≠ none →
      (launchOver s l v = false → exec (.objectClose l k) s = .next s) ∧
      (launchOver s l v = true → ∃ t, exec (.objectClose l k) s = .next t ∧ wrote t ([(.ldone, 1), (.poison, f .poison)] ++ discarded) ∧
        look t.launches l = some { v with closed := v.closed ++ [k], final := v.final ++ [(BitVec.ofNat 64 (f .version), BitVec.ofNat 32 (f .quality))] } ∧
        (∀ j, j ≠ l → look t.launches j = look s.launches j) ∧
        ∀ j e, look s.ents j = some e → ∃ e', look t.ents j = some e' ∧ e'.sregs = e.sregs ∧
          ∀ z ks, e.park = .wait z ks → e'.park = (if ks.contains (.orangery (off / 64)) then .running else e.park))) ∧
    (k = v.dropped.length → v.phase = .dropping →
      (k + 1 < v.record.objs.length → ∃ t, exec (.objectDrop l k) s = .next t ∧ t.ents = s.ents ∧
        wrote t ([(.ldone, f .ldone), (.poison, if f .open' = 1 then 1 else f .poison)] ++ discarded) ∧
        look t.launches l = some { v with dropped := v.dropped ++ [k] }) ∧
      (k + 1 = v.record.objs.length → ∃ t v', exec (.objectDrop l k) s = .next t ∧ t.ents = s.ents ∧
        wrote t ([(.ldone, f .ldone), (.poison, if f .open' = 1 then 1 else f .poison)] ++ discarded) ∧ look t.launches l = some v' ∧
        v'.phase = .running ∧ v'.nextGang = v.nextGang ∧ v'.retired = 0 ∧ v'.dropped = [] ∧ v'.again = gangOrder v.record v.nextGang ∧
        (v.record.deterministic = false → ∀ j < v.nextGang, j ∈ v'.again ∧ look v'.counts j = some ((look v.counts j).getD 0 + 1)) ∧
        ∀ off0 x0, boundLine s v 0 = some (off0, x0) → (k ≠ 0 → off0 + 64 ≤ off ∨ off + 64 ≤ off0) →
          v'.record.resume = BitVec.ofNat 32 (objGet x0 .version + 1)))) ∧
  (∀ (s : State) (l : Nat) (v : Launch), look s.launches l = some v → v.phase = .dropping → v.record.objs = [] → v.dropped = [] →
    (launchQuiet s l = false → exec (.objectDrop l 0) s = .next s) ∧
    (launchQuiet s l = true → ∃ t v', exec (.objectDrop l 0) s = .next t ∧ { t with launches := s.launches } = s ∧ look t.launches l = some v' ∧
      v'.phase = .running ∧ v'.nextGang = v.nextGang ∧ v'.retired = 0 ∧ v'.again = gangOrder v.record v.nextGang ∧ v'.record = v.record))

/-- R73 to R76, R188, R191, R263, R277: COPY_COMPLETE and COPY_PAGE_FAULT_PARK. That a copy moves all its rows in
one event and that its writes count as its block's own are the model's readings (assumptions 28 and 32), park numbers are its choice (assumption 54);
that a copy waits for its writes that the strike buffer holds is the
model's reading of R74 and R76 (assumption 71). -/
def Obligations.CopySteps : Prop :=
  ∀ (s : State) (c k : Nat) (x : Copy) (b : Block), (s.core c).data.copies[k]? = some x → x.parked = none → look s.blocks x.block = some b →
    let tags := b.tags ||| (1#64 <<< x.tag)
    let src := fun (j : Nat) => x.src.frame * 1024 + place x.src.base x.src.pitch x.src.rot 0 0 x.row j
    let last := x.gather = false ∧ x.rows = x.row + 1 ∧ x.src.space ≤ 1 ∧ x.src.base + x.row * x.src.pitch + x.bytes ≤ x.src.frames * 1024 ∧ s.poison = []
    let moved := copyRows c (x.rows - x.row) s x
    let done := fun (t : State) => look t.blocks x.block = some { b with tags := tags } ∧ t.waves = s.waves ∧ t.mem = s.mem ∧
      t.orangery = s.orangery ∧ (∀ y ∈ (t.core c).data.copies, y.block ≠ x.block ∨ y.tag ≠ x.tag) ∧
      ∀ j e w any m, look s.ents j = some e → look s.waves e.wave = some w → w.block = x.block → e.park = .tags any m →
        look t.ents j = some (if tagsMet any m tags then { e.jump e.resume with park := .running } else e)
    let stays := fun (t : State) => t.blocks = s.blocks ∧ t.ents = s.ents ∧ t.waves = s.waves ∧ t.mem = s.mem ∧ t.orangery = s.orangery ∧
      (t.core c).data.copies = setNth (s.core c).data.copies k { x with row := x.rows }
    (x.row < x.rows → moved.2.2 = .all → copyOut moved.1 c x = true → ∃ t, exec (.copyComplete c k) s = .next t ∧ done t) ∧
    (x.row < x.rows → moved.2.2 = .all → copyOut moved.1 c x = false → ∃ t, exec (.copyComplete c k) s = .next t ∧ stays t) ∧
    (x.rows ≤ x.row → copyOut s c x = true → ∃ t, exec (.copyComplete c k) s = .next t ∧ done t) ∧
    (x.rows ≤ x.row → copyOut s c x = false → exec (.copyComplete c k) s = .next s) ∧
    (last → x.dst.space = 2 → 8 ≤ x.bytes → orngRow s x.asid (x.dst.base + x.row * x.dst.pitch) x.bytes true = [] →
      ∃ t, exec (.copyComplete c k) s = .next t ∧ stays t ∧
        (t.core c).data.scratch = (s.core c).data.scratch ∧ (t.core c).data.held = (s.core c).data.held ++ (List.range (x.bytes / 8)).map (fun i => {
          ent := copyEnt x.block x.tag, wave := x.wave, lanes := 0, serial := s.fresh, time := s.now
          dst := .orangery (x.dst.base + x.row * x.dst.pitch + 8 * i), data := rdBytes (s.core x.src.core).data.scratch (src (8 * i)) 8
          dep := depOf s c (copyEnt x.block x.tag) })) ∧
    (last → x.bytes = 8 → x.src.core = c → x.dst.core = c → x.dst.space ≤ 1 → x.dst.base + x.row * x.dst.pitch + 8 ≤ x.dst.frames * 1024 →
      copyOut s c x = true →
      let dst := x.dst.frame * 1024 + place x.dst.base x.dst.pitch x.dst.rot 0 0 x.row 0
      ∃ t, exec (.copyComplete c k) s = .next t ∧ done t ∧
        rdBytes (t.core c).data.scratch dst 8 = rdBytes (s.core c).data.scratch (src 0) 8 ∧
        (∀ a, a < dst ∨ dst + 8 ≤ a → rd (t.core c).data.scratch a = rd (s.core c).data.scratch a) ∧
        (∀ y, y ≠ c → (t.core y).data.scratch = (s.core y).data.scratch)) ∧
    (∀ va write, x.gather = false → x.row < x.rows →
      (rowObstacle s c x.asid x.src false x.row x.bytes = .unmapped va write ∨
        (rowObstacle s c x.asid x.src false x.row x.bytes = .all ∧ rowObstacle s c x.asid x.dst true x.row x.bytes = .unmapped va write)) →
      let n := freePark s (c / 64)
      exec (.copyComplete c k) s = .next s ∧
      ∃ t, exec (.copyPageFaultPark c k) s = .next t ∧ t.ents = s.ents ∧ t.blocks = s.blocks ∧
        (t.core c).data.copies = setNth (s.core c).data.copies k { x with parked := some n } ∧
        (t.die (c / 64)).parks = (s.die (c / 64)).parks ++ [{
          id := n, ent := x.ent, copy := some (x.block, x.tag), addrs := [va], order := s.fresh
          waiting := [(va / 4096 * 4096, if write then 5 else 4)], asid := x.asid, core := c, total := 1 }])

/-- R106, R114, R115, R194 to R207, R268, R280, R288: MATRIX_QUEUE_ARRIVAL, MATRIX_START, MATRIX_STEP_END, MATRIX_RELEASE, MATRIX_COMPLETE,
ENGINE_QUEUE_WATCHDOG, for an instruction that drives one core, and for one that drives more where a clause says so. -/
def Obligations.EngineSteps : Prop :=
  (∀ (s : State) (c : Nat) (o : EngineOp), o.cores = [c] → (s.pav (pavOfCore c)).halting = false →
    let d := (s.core c).data
    let die := s.die (c / 64)
    let up := (d.asnOf o.z + 1) % 65536
    let fits := fun (l : List (Nat × Nat)) (n : Nat) => (l.filter (fun e => decide (s.now ≤ e.1 + 3))).foldl (fun n e => n + e.2) 0 + n ≤ 32
    let goes := fun (i : Instr) (P : CoreData → Prop) => ∃ t, exec i s = .next t ∧ t.mem = s.mem ∧ t.orangery = s.orangery ∧ t.blocks = s.blocks ∧
      (∀ y, y ≠ c → (t.core y).data = (s.core y).data) ∧ P (t.core c).data
    let begun := fun (o : EngineOp) => ({ op := o, step := 0, done := false, retry := false, abase := o.abase.base, bbase := o.bbase.base, since := s.now,
                                          bound := { nan := false, inf := false, sums := [] } } : EngineRun)
    let again := fun (q : EngineOp) => if q.z = o.z then { q with queuedAt := s.now } else q
    (∀ rest, d.enroute = o :: rest →
      (s.now < o.queuedAt + 4 → exec (.matrixQueueArrival c) s = .next s) ∧
      (o.queuedAt + 4 ≤ s.now → goes (.matrixQueueArrival c) (fun u =>
        u = { d with enroute := rest, queue := d.queue ++ [{ o with queuedAt := s.now }] }))) ∧
    (∀ pre rest, d.run = none → d.groups = 0 → d.parts = [] → d.queue = pre ++ o :: rest → o.e = d.asnOf o.z → (∀ q ∈ pre, q.e ≠ d.asnOf q.z) →
      (∀ q ∈ pre ++ rest, q.serial ≠ o.serial) →
      (o.kind ≠ .steps → goes (.matrixStart c) (fun u => u = { d with queue := pre ++ rest, run := some (begun o) })) ∧
      (o.kind = .steps → o.steps = 0 → goes (.matrixStart c) (fun u => u.run = none ∧ u.asnOf o.z = up ∧ u.tiles = d.tiles)) ∧
      (o.kind = .steps → 0 < o.steps → lowerFirst s wantsUp c = false → 0 < groupsOf o →
        (fits die.ups (groupsOf o) →
          goes (.matrixStart c) (fun u => u = { d with queue := pre ++ rest, run := some (begun o), groups := groupsOf o })) ∧
        (¬ fits die.ups (groupsOf o) → exec (.matrixStart c) s = .next s))) ∧
    (∀ r pre next rest, d.run = some r → r.op = o → r.done = true → d.parts = [] → d.queue = pre ++ next :: rest → next.cores = [c] → 0 < groupsOf next →
      let then' := fun z => if z = o.z then up else d.asnOf z
      next.e = then' next.z → (∀ q ∈ pre, q.e ≠ then' q.z) → (∀ q ∈ pre ++ rest, q.serial ≠ next.serial) →
      goes (.matrixStart c) (fun u => u.run = some (begun next) ∧ u.groups = d.groups ∧ u.asnOf o.z = up ∧ u.tiles = d.tiles ∧
        u.queue = (pre ++ rest).map again)) ∧
    (∀ r, d.run = some r → r.op = o → r.done = false → o.kind = .steps → groupsOf o ≤ d.groups →
      let old := fun i j => tileAt d o.z i j
      let at' := fun (base : Nat) => ({ core := c, frame := (o.frames.getD 0 (0, 0)).1, base := base, st := r.step } : OpAt)
      let row := fun i => (List.range o.a.k).map (aVal s o (at' r.abase) i)
      let col := fun j => (List.range o.a.k).map (fun q => bVal s o (at' r.bbase) q j)
      (s.now < r.since + stepCycles o → exec (.matrixStepEnd c) s = .next s) ∧
      (o.rows = 1 → o.cols = 1 → r.since + stepCycles o ≤ s.now → enginePoison s r = none →
        ((stepPiece s r 0).2 = false → r.step + 1 < o.steps → goes (.matrixStepEnd c) (fun u =>
          (∀ i j, i < 96 → j < 160 → tileAt u o.z i j = (if o.b.cols ≤ j then old i j
            else if o.a.fmt = 7 then stepInt (old i j) (row i) (col j) else stepFloat (old i j) (row i) (col j))) ∧
          (∀ z i j, z ≠ o.z → i < 96 → j < 160 → tileAt u z i j = tileAt d z i j) ∧ u.asn = d.asn ∧ u.queue = d.queue ∧ u.scratch = d.scratch ∧
          u.run = some { r with step := r.step + 1, done := false, retry := false, abase := (r.abase + o.aadv) % 2 ^ 19,
                                bbase := (r.bbase + o.badv) % 2 ^ 19, since := s.now })) ∧
        ((stepPiece s r 0).2 = true → r.retry = false → ∃ t, exec (.matrixStepEnd c) s = .next t ∧
          (t.core c).data = { d with run := some { r with retry := true, since := s.now } } ∧ (t.core c).marked = some ((s.core c).marked.getD 3) ∧
          look (t.die (c / 64)).counters 35 = some (min (2 ^ 32 - 1) ((look die.counters 35).getD 0 + 1))))) ∧
    (d.run = none → 0 < d.groups → lowerFirst s wantsDown c = false →
      (fits die.downs d.groups → goes (.matrixRelease c) (fun u => u = { d with groups := 0 })) ∧
      (¬ fits die.downs d.groups → exec (.matrixRelease c) s = .next s)) ∧
    (∀ r, d.run = some r → r.op = o → r.done = true → nextDrawing s c = none → lowerFirst s wantsDown c = false → fits die.downs d.groups → d.parts = [] →
      goes (.matrixRelease c) (fun u => u.groups = 0 ∧ u.run = none ∧ u.asnOf o.z = up ∧ u.tiles = d.tiles)) ∧
    (∀ r, d.run = some r → r.op = o → r.done = false → o.kind ≠ .steps → d.parts = [] → enginePoison s r = none →
      (s.now < r.since + (plainCycles o - 4 * r.step) → exec (.matrixComplete c) s = .next s) ∧
      (r.since + (plainCycles o - 4 * r.step) ≤ s.now →
        (o.kind = .zero → goes (.matrixComplete c) (fun u => u.run = none ∧ u.asnOf o.z = up ∧ (∀ i j, i < 96 → j < 160 → tileAt u o.z i j = 0) ∧
          ∀ z i j, z ≠ o.z → i < 96 → j < 160 → tileAt u z i j = tileAt d z i j)) ∧
        (o.kind = .load → goes (.matrixComplete c) (fun u => u.run = none ∧ u.asnOf o.z = up ∧ ∀ i j, i < 96 → j < 160 →
          tileAt u o.z i j = BitVec.ofNat 32 (opBytes s c (o.frames.headD (0, 0)).1 o.dest o.dest.base i (4 * j) 4))) ∧
        (o.kind = .store → goes (.matrixComplete c) (fun u => u.run = none ∧ u.asnOf o.z = up ∧ u.tiles = d.tiles ∧ u.scratch = storeTile d o)) ∧
        (∀ v, o.kind = .read → look s.waves o.wave = some v → ∃ t, exec (.matrixComplete c) s = .next t ∧ (t.core c).data.asnOf o.z = up ∧
          look t.waves o.wave = some ((List.range o.n).foldl (fun v k => v.wV (o.reg + k) o.lanes (fun i => tileAt d o.z i (o.c0 + k))) v)) ∧
        (∀ e, o.kind = .bound → look s.ents o.ent = some e → e.wave = o.wave → e.park = .running → ∃ t, exec (.matrixComplete c) s = .next t ∧
          (t.core c).data.asnOf o.z = up ∧ look t.ents o.ent = some (e.wS o.reg (boundValue s o))))) ∧
    (∀ k e, d.queue[k]? = some o → look s.ents o.ent = some e → e.wave = o.wave → e.park ≠ .exited →
      (s.now < o.queuedAt + 2 ^ 24 → exec (.engineQueueWatchdog c k) s = .next s) ∧
      (o.queuedAt + 2 ^ 24 ≤ s.now → ∃ t, exec (.engineQueueWatchdog c k) s = .next t ∧
        look t.ents o.ent = some { e with pending := e.pending ++ [{ cause := 0x70, addr := 0 }] } ∧
        (∀ j, j ≠ o.ent → look t.ents j = look s.ents j) ∧ (t.core c).data.queue.length = d.queue.length))) ∧
  (∀ (s : State) (c : Nat), (s.pav (pavOfCore c)).halting = true →
    exec (.matrixStart c) s = .next s ∧ exec (.matrixRelease c) s = .next s) ∧
  (∀ (s : State) (c : Nat) (o : EngineOp), o.cores.Nodup → 2 ≤ o.cores.length → o.cores.length = o.rows * o.cols → c ∈ o.cores →
    (∀ x ∈ o.cores, (s.pav (pavOfCore x)).halting = false) →
    let d := fun (t : State) (x : Nat) => (t.core x).data
    (d s c).run = none → (d s c).groups = 0 → (d s c).queue = [o] → (∃ x ∈ o.cores, (d s x).asnOf o.z ≠ o.e) → exec (.matrixStart c) s = .next s) ∧
  (∀ (s : State) (c n ab bb : Nat) (o : EngineOp) (rs : Nat → EngineRun), o.cores.Nodup → 2 ≤ o.cores.length → o.cores.length = o.rows * o.cols →
    c ∈ o.cores → (∀ x ∈ o.cores, (s.pav (pavOfCore x)).halting = false) →
    let d := fun (t : State) (x : Nat) => (t.core x).data
    (∀ x ∈ o.cores, (d s x).run = some (rs x) ∧ (rs x).op = o ∧ (rs x).done = false ∧ (rs x).step = n ∧ (rs x).abase = ab ∧ (rs x).bbase = bb ∧
      (rs x).retry = false ∧ groupsOf o ≤ (d s x).groups ∧ enginePoison s (rs x) = none) →
    (o.kind = .steps →
      ((∃ x ∈ o.cores, s.now < (rs x).since + stepCycles o) → exec (.matrixStepEnd c) s = .next s) ∧
      ((∀ x ∈ o.cores, (rs x).since + stepCycles o ≤ s.now) → (∀ p < o.cores.length, (stepPiece s (rs c) p).2 = false) → n + 1 < o.steps →
        ∃ t, exec (.matrixStepEnd c) s = .next t ∧ t.mem = s.mem ∧ t.orangery = s.orangery ∧ (∀ y, y ∉ o.cores → d t y = d s y) ∧
          ∀ p x, o.cores[p]? = some x →
            let at' := fun (q base : Nat) => ({ core := o.cores.getD q 0, frame := (o.frames.getD q (0, 0)).1, base := base, st := n } : OpAt)
            let row := fun i => (List.range o.a.k).map (aVal s o (at' (p / o.cols * o.cols) ab) i)
            let col := fun j => (List.range o.a.k).map (fun q => bVal s o (at' (p % o.cols) bb) q j)
            (d t x).asn = (d s x).asn ∧
            (d t x).run = some { rs x with step := n + 1, abase := (ab + o.aadv) % 2 ^ 19, bbase := (bb + o.badv) % 2 ^ 19, since := s.now } ∧
            ∀ i j, i < 96 → j < 160 → tileAt (d t x) o.z i j = (if o.b.cols ≤ j then tileAt (d s x) o.z i j
              else if o.a.fmt = 7 then stepInt (tileAt (d s x) o.z i j) (row i) (col j) else stepFloat (tileAt (d s x) o.z i j) (row i) (col j)))) ∧
    (o.kind = .zero → n = 0 → (∀ x ∈ o.cores, (rs x).since + 4 ≤ s.now ∧ (d s x).parts = []) →
      ∃ t, exec (.matrixComplete c) s = .next t ∧ t.mem = s.mem ∧ t.orangery = s.orangery ∧ (∀ y, y ∉ o.cores → d t y = d s y) ∧
        ∀ x ∈ o.cores, (d t x).run = none ∧ (d t x).asnOf o.z = ((d s x).asnOf o.z + 1) % 65536 ∧ ∀ i j, i < 96 → j < 160 → tileAt (d t x) o.z i j = 0)) ∧
  (∀ (z : Word) (as bs : List Val),
    let ps := as.zip bs
    let z' := Fmt.f32.value z.toNat
    let infinite := fun (v : Val) => v = .inf false ∨ v = .inf true
    let minus := fun (v : Val) => match v with | .fin n _ _ => n | .inf n => n | .nan _ => false
    let nan := z'.isNan = true ∨ ∃ p ∈ ps, p.1.isNan = true ∨ p.2.isNan = true ∨ (p.1.isZero = true ∧ infinite p.2) ∨ (infinite p.1 ∧ p.2.isZero = true)
    let goes := fun (n : Bool) => z' = .inf n ∨ ∃ p ∈ ps, (infinite p.1 ∨ infinite p.2) ∧ (minus p.1 != minus p.2) = n
    (nan ∨ (goes true ∧ goes false) → stepFloat z as bs = 0x7FC00000) ∧
    (∀ n, ¬ nan → goes n → ¬ goes (!n) → stepFloat z as bs = if n then 0xFF800000 else 0x7F800000)) ∧
  (∀ (z : Word) (xs ys : List (Bool × Nat × Int)) (n : Bool) (m : Nat) (e : Int), Fmt.f32.value z.toNat = .fin n m e →
    (∀ p ∈ xs.zip ys, -300 ≤ p.1.2.2 + p.2.2.2) →
    let scaled := fun (n : Bool) (m : Nat) (e : Int) => (if n then -1 else 1 : Int) * (m * 2 ^ (e + 300).toNat : Nat)
    let sum := (xs.zip ys).foldl (fun r p => r + scaled (p.1.1 != p.2.1) (p.1.2.1 * p.2.2.1) (p.1.2.2 + p.2.2.2)) (scaled n m e)
    let vals := fun (l : List (Bool × Nat × Int)) => l.map (fun x => Val.fin x.1 x.2.1 x.2.2)
    stepFloat z (vals xs) (vals ys) = if sum = 0 then 0 else BitVec.ofNat 32 (Fmt.f32.round 0 false (.fin (decide (sum < 0)) sum.natAbs (-300))).1) ∧
  (∀ (z : Word) (xs ys : List Int), (stepInt z (xs.map ofInt) (ys.map ofInt)).toInt =
    max (-2 ^ 31) (min (2 ^ 31 - 1) ((xs.zip ys).foldl (fun r p => r + p.1 * p.2) z.toInt))) ∧
  (∀ code x : Nat, code < 2 ^ 16 →
    let zero := fun (n : Bool) => (Val.fin n 0 0)
    let same := fun (v w : Val) => v = w ∨ ∃ n d e, v = .fin n 0 d ∧ w = .fin n 0 e
    elemValue 1 code x = Fmt.bf16.value code ∧ elemValue 2 code x = Fmt.f16.value code ∧
    (code < 256 →
      let sub := fun (m : Nat) (v : Val) => if code % 128 < m then zero (decide (128 ≤ code)) else v
      let scaled := fun (v : Val) => if x = 255 then Val.nan false else match v with | .fin n m e => .fin n m (e + x - 127) | _ => v
      same (elemValue 3 code x) (sub 8 (Fmt.e4m3.value code)) ∧ same (elemValue 4 code x) (sub 4 (Fmt.e5m2.value code)) ∧
      same (elemValue 5 code x) (scaled (sub 8 (Fmt.e4m3.value code))) ∧ same (elemValue 6 code x) (scaled (sub 4 (Fmt.e5m2.value code))) ∧
      elemValue 7 code x = ofInt (if 128 ≤ code then (code : Int) - 256 else code)))

/-- R30 to R33, R39: BIN_IDLE_EXPIRY, BIN_LAUNCH, SPILL_RING_DRAIN, RECEIVE_QUEUE_FEED. That a younger bin passes one that finds no room is the
model's choice (assumption 77). -/
def Obligations.BinSteps : Prop :=
  (∀ (s : State) (p k : Nat) (b : Bin), look (s.pav p).bins k = some b →
    (s.now < b.lastAt + 2048 → exec (.binIdleExpiry p k) s = .next s) ∧
    (b.lastAt + 2048 ≤ s.now → ∃ t, exec (.binIdleExpiry p k) s = .next t ∧ look (t.pav p).bins k = some { b with idle := true } ∧ { t with pavs := s.pavs } = s) ∧
    ((s.pav p).measuring = true ∨ (s.pav p).halting = true ∨ s.ctl.tripped = true → exec (.binLaunch p k) s = .next s) ∧
    (∀ core reserved key, binPlaceOn s p b = some (core, reserved) → fetchSlot (usedKeys s) core 0 = some key → packetsReady s p b = true →
      (s.pav p).measuring = false → (s.pav p).halting = false → s.ctl.tripped = false →
      (∀ x ∈ (s.pav p).bins, x.2.firstAt < b.firstAt → binQualifies s p x.2 = false ∨ binPlaceOn s p x.2 = none) →
      (binQualifies s p b = false → exec (.binLaunch p k) s = .next s) ∧
      (binQualifies s p b = true → ∃ t id e v bl, exec (.binLaunch p k) s = .next t ∧ look (t.pav p).bins k = none ∧ t.mem = s.mem ∧
        look t.ents key = some e ∧ (∀ j, j ≠ key → look t.ents j = look s.ents j) ∧ look t.waves id = some v ∧
        e.wave = id ∧ e.own = BitVec.allOnes 96 ∧ (∀ i < 96, e.mask.getLsbD i = decide (i < b.children.length + b.packets.length)) ∧ e.park = .running ∧
        e.pairs = [] ∧ v.preds = [] ∧ look t.blocks v.block = some bl ∧ bl.core = core ∧ bl.lin = 0xFFFFFFFF ∧ v.reserved = reserved ∧
        (∀ c r, b.children = c :: r → v.kind = .child ∧ v.owner = c.owner ∧ v.vlimit = c.vlimit ∧ e.pc = b.entry ∧
          (∀ i < 96, ∀ j < 4, v.rV j i = match b.children[i]? with | some x => x.payload.getD j 0 | none => 0) ∧
          v.joins = (b.children.zipIdx).map (fun x => (x.2, x.1.join)) ∧
          ∀ l y, c.owner = .launch l → look s.launches l = some y →
            e.rS 1 = y.record.args.setWidth 32 ∧ e.rS 59 = (y.record.args >>> 32).setWidth 32 ∧ v.passIdx = y.record.resume) ∧
        (∀ h n, b.children = [] → b.handler = some n → look (s.asid b.asid).handlers n = some h →
          v.kind = .handler ∧ v.vlimit = h.vregs ∧ e.pc = BitVec.ofNat 64 h.entry ∧ v.handler = BitVec.ofNat 64 h.handler ∧
          (∀ i < 96, ∀ j < 8, v.rV j i = match b.packets[i]? with | some x => x.args.getD j 0 | none => 0) ∧ v.acks.length = b.packets.length ∧
          ∃ tr y, v.owner = .tree tr ∧ look t.trees tr = some y ∧ y.outstanding = 0 ∧ y.live = 1)))) ∧
  (∀ (s : State) (l : Nat) (v : Launch) (c : Child) (r : List Child), look s.launches l = some v → v.spillRing = c :: r →
    let bins := (s.pav c.pav).bins
    (bins = [] → ∃ t b, exec (.spillRingDrain (2 * l)) s = .next t ∧ look t.launches l = some { v with spillRing := r } ∧
      look (t.pav c.pav).bins 0 = some b ∧ b.children = [c] ∧ b.entry = c.entry ∧ b.firstAt = s.now) ∧
    (∀ k b, bins.find? (fun x => decide (x.1 < 32) && x.2.takes c) = some (k, b) →
      (b.children.length + b.packets.length < 96 → ∃ t, exec (.spillRingDrain (2 * l)) s = .next t ∧
        look t.launches l = some { v with spillRing := r } ∧ look (t.pav c.pav).bins k = some { b with children := b.children ++ [c], lastAt := s.now, idle := false }) ∧
      (96 ≤ b.children.length + b.packets.length → exec (.spillRingDrain (2 * l)) s = .next s)) ∧
    ((∀ k b, look bins k = some b → b.takes c = false) → nmapWf bins = true → (∀ k < 32, (look bins k).isSome = true) →
      exec (.spillRingDrain (2 * l)) s = .next s)) ∧
  (∀ (s : State) (prio : Nat) (q : Rxq) (p : Packet) (r : List Packet) (h : Handler), look s.rxqs prio = some q → q.waiting = p :: r → prio < 4 →
    (∀ j x, prio < j → j < 4 → look s.rxqs j = some x → x.waiting = []) → s.dispatch.starve < 16 → look (s.asid p.asid).handlers p.handler = some h →
    (s.pav q.pav).bins = [] →
    ∃ t b, exec .receiveQueueFeed s = .next t ∧ look t.rxqs prio = some { q with waiting := r } ∧ look (t.pav q.pav).bins 0 = some b ∧
      b.packets = [p] ∧ b.handler = some p.handler ∧ b.entry = BitVec.ofNat 64 h.entry ∧ t.ents = s.ents ∧ t.mem = s.mem)

/-- R96, R228 to R231, R248, R265: RINV_PACKET_ARRIVAL, RINV_STATUS_RETURN, RETIREMENT_ACK, WSEND_ARRIVAL, WSEND_ACK, WSEND_FAILURE, PATH_DOWN. -/
def Obligations.RemoteSteps : Prop :=
  (∀ (s : State) (p : Packet) (q : Rxq) (st : Nat), look s.rxqs p.prio = some q →
    (st = 0 ∧ q.taken < q.entries ∧ (look (s.asid p.asid).handlers p.handler).isSome = true ∨
      st = 1 ∧ q.entries ≤ q.taken ∧ (look (s.asid p.asid).handlers p.handler).isSome = true ∨ st = 2 ∧ look (s.asid p.asid).handlers p.handler = none) →
    let took := fun (t : State) => look t.rxqs p.prio = some (if st = 0 then { q with waiting := q.waiting ++ [p], taken := q.taken + 1 } else q)
    (∀ c, p.peer = some c → s.ctl.trained = false → exec (.rinvPacketArrival (.peer p)) s = .next s) ∧
    (∀ c, p.peer = some c → s.ctl.trained = true → ∃ t, exec (.rinvPacketArrival (.peer p)) s = .next t ∧ took t ∧
      t.statuses = s.statuses ++ [{ pkt := p, owner := .tree 0, status := some st, time := s.now }] ∧ t.ents = s.ents ∧ t.mem = s.mem) ∧
    (∀ k, s.packets[k]? = some p → packetBehind (s.packets.take k) p = false → sent s (p.ent / 32) p.ent p.serial = true →
      let gone := fun (t : State) => t.packets = s.packets.take k ++ s.packets.drop (k + 1) ∧ t.ents = s.ents ∧ t.mem = s.mem
      let tells := fun (x : Option Nat) => s.statuses ++ [({ pkt := p, owner := ownerOf s p.wave, status := x, time := s.now } : StatusMsg)]
      (p.chip = s.ctl.chipId.toNat → ∃ t, exec (.rinvPacketArrival (.local k)) s = .next t ∧ gone t ∧ took t ∧ t.statuses = tells (some st)) ∧
      (p.chip ≠ s.ctl.chipId.toNat → ∃ t, exec (.rinvPacketArrival (.local k)) s = .next t ∧ gone t ∧ t.rxqs = s.rxqs ∧
        (p.chip ∈ s.pathsDown ∨ s.ctl.trained = false → t.statuses = tells (some 3) ∧ t.fabric = s.fabric) ∧
        (p.chip ∉ s.pathsDown → s.ctl.trained = true → t.statuses = tells none ∧ t.fabric = s.fabric ++ [p])))) ∧
  (∀ (s : State) (k n : Nat) (m : StatusMsg) (v : Wave), s.statuses[k]? = some m → m.pkt.peer = none → look s.waves m.pkt.wave = some v →
    let st := m.status.getD (n % 4)
    (m.status = some 1 → s.now ≤ m.time → exec (.rinvStatusReturn k n) s = .next s) ∧
    (m.status ≠ some 1 ∨ m.time < s.now → ∃ t, exec (.rinvStatusReturn k n) s = .next t ∧ t.statuses = s.statuses.take k ++ s.statuses.drop (k + 1) ∧ t.mem = s.mem ∧
      look t.waves m.pkt.wave = some (v.wV m.pkt.reg (lanesOf (fun i => decide (i = m.pkt.lane))) (fun _ => BitVec.ofNat 32 st)) ∧
      (∀ j, j ≠ m.pkt.wave → look t.waves j = look s.waves j) ∧
      (∀ l x, m.owner = .launch l → look s.launches l = some x → look t.launches l = some (if st = 0 then x else { x with outstanding := x.outstanding - 1 })) ∧
      t.acks = s.acks ++ (if st = 0 ∧ m.pkt.chip ≠ s.ctl.chipId.toNat then
        [{ owner := m.owner, ent := m.pkt.ent, wave := m.pkt.wave, target := m.pkt.target, failed := none, needs := [] }] else []))) ∧
  (∀ (s : State) (k : Nat) (f : Bool) (a : AckMsg) (l : Nat) (x : Launch) (e : Entity), s.acks[k]? = some a → a.owner = .launch l →
    look s.launches l = some x → look s.ents a.ent = some e → e.wave = a.wave → e.park ≠ .exited → (∀ z ks, e.park ≠ .wait z ks) →
    (covers (s.die (a.ent / 32 / 64)).clock a.needs = false → exec (.retirementAck k f) s = .next s) ∧
    (covers (s.die (a.ent / 32 / 64)).clock a.needs = true → ∃ t, exec (.retirementAck k f) s = .next t ∧
      t.acks = s.acks.take k ++ s.acks.drop (k + 1) ∧ look t.launches l = some { x with outstanding := x.outstanding - 1, ackClock := joinClock x.ackClock a.needs } ∧ t.mem = s.mem ∧
      look t.ents a.ent = some (if a.failed.getD f then { e with pending := e.pending ++ [{ cause := 0x40, addr := BitVec.ofNat 64 a.target.toNat }] } else e))) ∧
  (∀ (s : State) (n off : Nat) (data : List Byte) (w : Window), look s.windows n = some w →
    let counted := fun (t : State) (m : Nat) => rdN t.orangery w.arrival 8 = (rdN s.orangery w.arrival 8 + m) % 2 ^ 64 ∧
      ∀ a, a < w.arrival ∨ w.arrival + 8 ≤ a → rd t.orangery a = rd s.orangery a
    (s.ctl.trained = false ∨ w.length < off + data.length → exec (.wsendArrival n off data) s = .next s) ∧
    (s.ctl.trained = true → fixedAt s w.arrival = false → off + data.length ≤ w.length → w.reduce = false → ∃ t, exec (.wsendArrival n off data) s = .next t ∧ counted t 1 ∧ t.windows = s.windows ∧
      rdBytes t.mem (w.base + off) data.length = data ∧ ∀ a, a < w.base + off ∨ w.base + off + data.length ≤ a → rd t.mem a = rd s.mem a) ∧
    (s.ctl.trained = true → fixedAt s w.arrival = false → 4 * w.elements ≤ w.length → w.reduce = true → off = 0 → data.length = 4 * w.elements →
      let now := contribute w data
      let size := if w.format = 0 then 4 else 2
      let fmt := match w.format with | 0 => Fmt.f32 | 1 => Fmt.f16 | _ => Fmt.bf16
      (∀ i m e (neg : Bool), i < w.elements → Fmt.f32.value (leNat ((data.drop (4 * i)).take 4)) = .fin neg m e →
        ∃ q : Nat, now.sums.getD i 0 = w.sums.getD i 0 + (if neg then -(((min q (2 ^ 87 - 1)) : Nat) : Int) else ((min q (2 ^ 87 - 1) : Nat) : Int)) ∧
          (∀ k : Nat, e = w.expo - 86 + k → q = m * 2 ^ k) ∧
          (∀ k : Nat, e + k = w.expo - 86 → 2 * q * 2 ^ k ≤ 2 * m + 2 ^ k ∧ 2 * m ≤ 2 * q * 2 ^ k + 2 ^ k ∧
            (2 * q * 2 ^ k = 2 * m + 2 ^ k ∨ 2 * m = 2 * q * 2 ^ k + 2 ^ k → k ≠ 0 → q % 2 = 0))) ∧
      (w.arrived + 1 ≠ w.contributors → ∃ t, exec (.wsendArrival n off data) s = .next t ∧ t.orangery = s.orangery ∧ t.mem = s.mem ∧
        look t.windows n = some now ∧ now.arrived = w.arrived + 1) ∧
      (w.arrived + 1 = w.contributors → ∃ t w', exec (.wsendArrival n off data) s = .next t ∧ counted t w.contributors ∧ look t.windows n = some w' ∧
        w'.arrived = 0 ∧ w'.sums = [] ∧ (∀ a, a < w.base ∨ w.base + size * w.elements ≤ a → rd t.mem a = rd s.mem a) ∧
        ∀ i < w.elements, rdN t.mem (w.base + size * i) size =
          (if now.nans.getD i false = true ∨ (now.posInf.getD i false = true ∧ now.negInf.getD i false = true) then fmt.canon
          else if now.posInf.getD i false = true then fmt.infCode
          else if now.negInf.getD i false = true then fmt.signBit + fmt.infCode
          else (fmt.round 0 false (.fin (decide (now.sums.getD i 0 < 0)) (now.sums.getD i 0).natAbs (w.expo - 86))).1) % 2 ^ (8 * size)))) ∧
  (∀ (s : State) (k : Nat) (m : Send), s.sends[k]? = some m →
    let gone := fun (t : State) => t.sends = s.sends.take k ++ s.sends.drop (k + 1) ∧ t.mem = s.mem
    (sent s m.core m.ent m.serial = false → exec (.wsendFailure k) s = .next s) ∧
    (sent s m.core m.ent m.serial = true →
      (m.failed = true → exec (.wsendAck k) s = .next s) ∧
      (∀ w, look s.windows m.window = some w → m.failed = false → s.ctl.trained = true → fixedAt s w.origin = false →
        ∃ t, exec (.wsendAck k) s = .next t ∧ gone t ∧
        rdN t.orangery w.origin 8 = (rdN s.orangery w.origin 8 + 1) % 2 ^ 64 ∧
        ∀ a, a < w.origin ∨ w.origin + 8 ≤ a → rd t.orangery a = rd s.orangery a) ∧
      (∀ e, look s.ents m.ent = some e → e.wave = m.wave → e.park ≠ .exited → ∃ t, exec (.wsendFailure k) s = .next t ∧ gone t ∧
        t.orangery = s.orangery ∧ look t.ents m.ent = some { e with pending := e.pending ++ [{ cause := 0x40, addr := BitVec.ofNat 64 m.dest.toNat }] } ∧
        ∀ j, j ≠ m.ent → look t.ents j = look s.ents j))) ∧
  (∀ (s : State) (chip : Nat), ∃ t : State, exec (.pathDown chip) s = .next t ∧ chip ∈ t.pathsDown ∧ (∀ c ∈ s.pathsDown, c ∈ t.pathsDown) ∧
    (∀ c ∈ t.pathsDown, c = chip ∨ c ∈ s.pathsDown) ∧ t.statuses.length = s.statuses.length ∧ { t with pathsDown := s.pathsDown, statuses := s.statuses } = s ∧
    ∀ (k : Nat) (m : StatusMsg), s.statuses[k]? = some m → t.statuses[k]? = some (if m.pkt.chip = chip ∧ m.pkt.peer = none ∧ m.status = none then { m with status := some 3 } else m))

/-- R276 to R288: STRIKE_REPORT, CONTAINMENT, SCRUB, SELF_TEST_START, SELF_TEST_VERDICT. To what state a core comes back, and that readers and grids
come back with it, is the model's reading (assumption 47). What a scrub finds is free (assumption 23); the numbers of the causes that R274 does not
number, and of a granule of registers, are the model's (assumption 83). -/
def Obligations.ErrorSteps : Prop :=
  let counter := fun (s : State) (d k : Nat) => (look (s.die d).counters k).getD 0
  (∀ (s : State) (c : Nat),
    (strikeIdle s c = true ↔ c ∈ s.mgmt.fences ∨ (s.core c).testing = true ∨
      ((∀ e ∈ s.ents, e.1 / 32 ≠ c) ∧ (s.core c).data.held = [] ∧ engineOps (s.core c).data = [] ∧ (s.core c).data.copies = [])) ∧
    (strikeIdle s c = true → ∃ t, exec (.strikeReport c) s = .next t ∧ { t with dies := s.dies } = s ∧
      counter t (c / 64) 32 = min (2 ^ 32 - 1) (counter s (c / 64) 32 + 1)) ∧
    (∀ h, strikeIdle s c = false → s.links = [] → (s.core c).crossed = [] → s.packets = [] → (snapsOf s c).getLast? = some h → nmapWf h.ents = true →
      (∀ e ∈ h.ents, e.1 / 32 = c) → (∀ x ∈ snapsOf s c, ∀ w v, look x.waves w = some v → (look h.waves w).isSome = true) →
      ∃ t, exec (.strikeReport c) s = .next t ∧
        { (t.core c).data with held := [], copies := [] } = { h.data with held := [], copies := [] } ∧
        (t.core c).data.copies.map (fun x => { x with parked := none }) = h.data.copies.map (fun x => { x with parked := none }) ∧
        (∀ b, Poison.scratch c b ∈ t.poison ↔ Poison.scratch c b ∈ h.poison) ∧
        (∀ x, x ∈ (t.core c).data.held ↔ x ∈ (s.core c).data.held ∧ x.serial < h.serial ∧
          (x.time + 256 ≤ s.now ∨ ∃ w, look s.waves x.wave = some w ∧ w.ended = false)) ∧
        (∀ j, j ≠ c → t.core j = s.core j) ∧ t.mem = s.mem ∧ t.orangery = s.orangery ∧
        t.homeQ = s.homeQ.filter (fun o => !(decide (o.core = c) && decide (h.serial ≤ o.serial))) ∧
        t.bankQ = s.bankQ.filter (fun o => !(decide (o.core = c) && decide (h.serial ≤ o.serial))) ∧
        (∀ k e, k / 32 ≠ c → look s.ents k = some e → look t.ents k = some e) ∧
        (∀ k e w v, look h.ents k = some e → look h.waves e.wave = some w → look s.waves e.wave = some v → v.ended = false → e.park ≠ .icinv →
          look t.waves e.wave = some w ∧
          (e.park = .bank → e.boundary = false → look t.ents k = some { e with buf := e.buf.take 1 }) ∧
          (e.park ≠ .bank ∨ e.boundary = true → ∃ y, look t.ents k = some y ∧ y.pc = e.chainPc ∧ y.chain = Chain.empty ∧ y.buf = [] ∧
            y.words = e.words - (e.pc.toNat - e.chainPc.toNat) / 4 ∧
            { y with pc := e.pc, chain := e.chain, buf := e.buf, words := e.words, park := e.park } = e ∧ (y.park = .running ∨ y.park = e.park) ∧
            ((∀ j ks, e.park ≠ .wait j ks) → (∀ j d, e.park ≠ .poll j d) → (∀ p, e.park ≠ .fault p) → y.park = e.park))) ∧
        counter t (c / 64) 32 = min (2 ^ 32 - 1) (counter s (c / 64) 32 + 1) ∧ counter t (c / 64) 33 = min (2 ^ 32 - 1) (counter s (c / 64) 33 + 1)) ∧
    (∀ r n hc hr, strikeIdle s c = false → s.links = [(r, c, n)] → s.now < n + 256 → r ≠ c → (s.core c).crossed = [] → (s.core r).crossed = [] →
      s.packets = [] → (snapsOf s c).getLast? = some hc → (snapsOf s r).getLast? = some hr →
      ∃ t, exec (.strikeReport c) s = .next t ∧ t.mem = s.mem ∧ t.orangery = s.orangery ∧ (∀ j, j ≠ c → j ≠ r → t.core j = s.core j) ∧
        { (t.core c).data with held := [], copies := [] } = { hc.data with held := [], copies := [] } ∧
        { (t.core r).data with held := [], copies := [] } = { hr.data with held := [], copies := [] }) ∧
    (∀ h k e g, strikeIdle s c = false → s.links = [] → (snapsOf s c).getLast? = some h → look s.ents k = some e → k / 32 = c → gangOfWave s e.wave = some g →
      (∃ x ∈ (s.core c).crossed, h.serial ≤ x.serial ∧ sent s c x.ent x.serial = true) →
      (∀ x ∈ (s.core c).crossed, h.serial ≤ x.serial → sent s c x.ent x.serial = true → x.gang = g) →
      ∃ s', { s' with dies := s.dies } = s ∧ counter s' (c / 64) 32 = min (2 ^ 32 - 1) (counter s (c / 64) 32 + 1) ∧
        counter s' (c / 64) 33 = counter s (c / 64) 33 ∧ counter s' (c / 64) 34 = min 65535 (counter s (c / 64) 34 + 1) ∧
        exec (.strikeReport c) s = exec (.containment k 0x60 9 0) s')) ∧
  (∀ (s : State) (k cause unit addr : Nat) (e : Entity), look s.ents k = some e →
    let named := granuleOf k e unit addr
    ((unit = 1 → named = some (.scratch (k / 32) (addr / 8 * 8))) ∧ (unit ∈ [4, 6, 7] → named = some (.memory (addr / 64 * 64))) ∧
      (unit ∈ [5, 8] → named = some (.orangery (addr / 8 * 8)))) ∧
    ((3 < cause ∧ cause ≠ 0x60 ∧ cause ≠ 0x61) ∨ (cause ≠ 1 ∧ cause ≠ 2 ∧ 10 < unit) ∨ (cause = 0 ∧ unit = 9) ∨ (cause = 0x60 ∧ unit = 3) ∨
        (cause = 0x61 ∧ unit ≠ 3) →
      exec (.containment k cause unit addr) s = .next s) ∧
    (cause = 0 → unit ≤ 10 → unit ≠ 9 →
      let again := ∃ n, (unit, addr, n) ∈ (s.core (k / 32)).corrected ∧ s.tick < n + 100000000
      ∃ t, exec (.containment k cause unit addr) s = .next t ∧ { t with dies := s.dies, cores := s.cores } = s ∧
        counter t (k / 2048) unit = min (2 ^ 32 - 1) (counter s (k / 2048) unit + 1) ∧
        (again → (t.core (k / 32)).marked = some ((s.core (k / 32)).marked.getD unit)) ∧ (¬ again → (t.core (k / 32)).marked = (s.core (k / 32)).marked)) ∧
    (cause = 1 → ∀ j ks x, e.park = .wait j (x :: ks) →
      ∃ t, exec (.containment k cause unit addr) s = .next t ∧ { t with ents := s.ents } = s ∧
        look t.ents k = some { e with park := .running, retest := true }) ∧
    (cause = 2 → ∀ v, look s.launches addr = some v → ∃ t, exec (.containment k cause unit addr) s = .next t ∧ { t with launches := s.launches } = s ∧
      look t.launches addr = some { v with status := some (v.status.getD .faulted) }) ∧
    (∀ p, cause = 3 → unit ≤ 10 → named = some p →
      (p ∈ s.poison → exec (.containment k cause unit addr) s = .next s) ∧
      (p ∉ s.poison → ∃ t, exec (.containment k cause unit addr) s = .next t ∧
        { t with dies := s.dies, cores := s.cores, poison := s.poison, hist := s.hist } = s ∧ (∀ x, x ∈ t.poison ↔ x = p ∨ x ∈ s.poison) ∧
        counter t (k / 2048) (16 + unit) = min (2 ^ 32 - 1) (counter s (k / 2048) (16 + unit) + 1) ∧
        (t.core (k / 32)).marked = (if unit ≤ 2 then some ((s.core (k / 32)).marked.getD unit) else (s.core (k / 32)).marked))) ∧
    (∀ g q l v, (cause = 0x60 ∧ unit ≤ 10 ∧ unit ≠ 3 ∨ cause = 0x61 ∧ unit = 3) → s.packets = [] → gangOfWave s e.wave = some g →
      look s.gangs g = some q → q.owner = .launch l → look s.launches l = some v → q.id ≠ 0xFFFFFFFF → nmapWf s.waves = true → nmapWf s.ents = true →
      let mine := fun (w : Nat) => ∃ x, look s.waves w = some x ∧ x.block ∈ q.blocks
      let stopped := fun (t : State) => (∀ j x, look t.ents j = some x → ¬ mine x.wave) ∧
        (∀ j x, look s.ents j = some x → ¬ mine x.wave → look t.ents j = some x) ∧ t.orangery = s.orangery
      let found := cause = 0x60 ∧ unit ≠ 9 ∧ (unit = 10 ∨ ∃ p, named = some p ∧ p ∉ s.poison)
      let place := if cause = 0x61 ∨ unit = 9 then 0 else (named.map Poison.place).getD addr
      let ring := ringOf s 3
      let at' := hostAt + (ring.base + 32 * ring.tail)
      let tells := fun (action : Nat) (t : State) =>
        (ringFull s 3 = false → (ringOf t 3).tail = (ring.tail + 1) % ring.size ∧
          rdN t.mem at' 32 = pack [(208, 48, s.tick), (176, 32, v.record.lid), (144, 32, q.id), (136, 8, cause), (132, 4, unit), (129, 3, k / 2048),
            (123, 6, k / 32 % 64), (120, 3, action), (118, 2, q.relaunch), (117, 1, q.ie.toNat), (116, 1, q.iex.toNat), (0, 64, place)] ∧
          ∀ a, a < at' ∨ at' + 32 ≤ a → rd t.mem a = rd s.mem a) ∧
        (found → counter t (k / 2048) (16 + unit) = min (2 ^ 32 - 1) (counter s (k / 2048) (16 + unit) + 1)) ∧
        (¬ found → counter t (k / 2048) (16 + unit) = counter s (k / 2048) (16 + unit)) ∧
        (∀ p, named = some p → cause = 0x60 → unit ≠ 0 → p ∈ t.poison) ∧
        (cause = 0x61 → counter t (k / 2048) 35 = min (2 ^ 32 - 1) (counter s (k / 2048) 35 + 1) ∧
          counter t (k / 2048) 36 = min 65535 (counter s (k / 2048) 36 + 1)) ∧
        (t.core (k / 32)).marked = (if unit = 9 then (s.core (k / 32)).marked else some ((s.core (k / 32)).marked.getD unit))
      (v.record.anytime = false → q.relaunch < 3 → (q.ie = false ∨ v.record.idempotent = true) →
        ∃ t v', exec (.containment k cause unit addr) s = .next t ∧ stopped t ∧ tells 1 t ∧ look t.gangs g = none ∧ look t.launches l = some v' ∧
          v'.again = v.again ++ [q.id] ∧ v'.counts = put v.counts q.id ((look v.counts q.id).getD 0 + 1) ∧ v'.irrev = (v.irrev || q.iex) ∧
          v'.phase = v.phase ∧ v'.status = v.status) ∧
      ((3 ≤ q.relaunch ∨ (v.record.anytime = false ∧ q.ie = true ∧ v.record.idempotent = false)) →
        ∃ t v', exec (.containment k cause unit addr) s = .next t ∧ stopped t ∧ tells 3 t ∧ look t.gangs g = some { q with stopped := true } ∧
          look t.launches l = some v' ∧ v'.status = some (v.status.getD .lost) ∧ v'.irrev = (v.irrev || q.ie)) ∧
      (v.record.anytime = true → q.relaunch < 3 → v.cutting = none → (∀ j x, look s.ents j = some x → x.level = false) →
        ∃ t v', exec (.containment k cause unit addr) s = .next t ∧ tells 2 t ∧ t.orangery = s.orangery ∧ look t.launches l = some v' ∧
          (∀ j x w, look t.ents j = some x → look s.waves x.wave = some w → w.owner ≠ .launch l) ∧
          (∀ j x, look t.gangs j = some x → x.owner ≠ .launch l) ∧ v'.phase = .dropping ∧ v'.dropped = [] ∧ v'.spillRing = [] ∧ v'.record = v.record ∧
          v'.status = v.status ∧ v'.irrev = (v.irrev || v.exposed || s.gangs.any (fun x => decide (x.2.owner = .launch l) && x.2.iex))))) ∧
  (∀ (s : State) (d : Nat), ∃ t, exec (.scrub d) s = .next t ∧ { t with fresh := s.fresh, poison := s.poison, dies := s.dies } = s ∧
    (∀ p ∈ s.poison, p ∈ t.poison) ∧ (∀ a ∈ Config.scrubLines (s.fresh + 1), homeDie (a / 64 * 64) = some d → Poison.memory (a / 64 * 64) ∈ t.poison) ∧
    (∀ o ∈ Config.scrubOrangery (s.fresh + 1), o / 8 * 8 < 2 ^ 30 → o / 8 * 8 / 2 ^ 21 % 8 = d → Poison.orangery (o / 8 * 8) ∈ t.poison) ∧
    (∀ x, x ≠ d → t.die x = s.die x)) ∧
  (∀ (s : State) (c : Nat),
    ((s.core c).marked.isSome = true → (s.core c).testing = false → coreEmpty s c = true → c ∉ s.mgmt.fences →
      ∃ t, exec (.selfTestStart c) s = .next t ∧ t.core c = { s.core c with testing := true } ∧ { t with cores := s.cores } = s) ∧
    (coreEmpty s c = false → exec (.selfTestStart c) s = .next s) ∧
    ((s.core c).testing = true →
      let clear := { s.core c with testing := false, marked := none }
      let counted := fun (t : State) (k : Nat) => counter t (c / 64) k = min 65535 (counter s (c / 64) k + 1)
      (∃ t, exec (.selfTestVerdict c true) s = .next t ∧ t.core c = clear ∧ t.mgmt = s.mgmt ∧ counted t 37) ∧
      (∃ t, exec (.selfTestVerdict c false) s = .next t ∧ (t.core c).testing = false ∧ (t.core c).marked = none ∧ counted t 38 ∧
        ((∀ n, (s.core c).failTick = some n → n + 24 * 3600 * 100000000 ≤ s.tick) → t.mgmt = s.mgmt ∧ (t.core c).failTick = some s.tick) ∧
        (∀ n, (s.core c).failTick = some n → s.tick < n + 24 * 3600 * 100000000 → t.mgmt.fences = c :: s.mgmt.fences ∧
          counter t (c / 64) 39 = min 255 (counter s (c / 64) 39 + 1)))))

/-- R55, R56, R58, R289, R307: TIME_BUDGET_EXHAUSTED, ENERGY_METER_INTERVAL, PATH_DELAY_MEASURE, PATH_DELAY_MEASUREMENT_END, THERMAL_THROTTLE,
THERMAL_TRIP. The meters' resolution is assumption 31, how the controller notes an idle pavilion is 66, and what a trip does to handler waves is 84. -/
def Obligations.BudgetAndHeatSteps : Prop :=
  let cut := fun (s t : State) (l : Nat) (v : Launch) (st : Status) => (∃ v', look t.launches l = some v' ∧ v'.phase = .stopped ∧
      v'.status = some (v.status.getD st) ∧ v'.spillRing = []) ∧
    ∀ k x w, look t.ents k = some x → look s.waves x.wave = some w → w.owner ≠ .launch l
  let lingers := fun (s : State) (l w : Nat) => ∃ y, look s.waves w = some y ∧ y.owner = .launch l ∧
    ∃ k x, look s.ents k = some x ∧ x.wave = w ∧ x.level = true ∧ x.boundary = false ∧ x.stalled = none ∧ x.park = .running
  (∀ (s : State) (l start : Nat) (v : Launch), look s.launches l = some v → v.startTick = some start → v.phase = .running → v.cutting = none →
    nmapWf s.ents = true → nmapWf s.waves = true →
    (100 * v.record.tbudget ≤ s.tick - start → v.record.tbudget ≠ 0xFFFFFFFF →
      ((∀ w, ¬ lingers s l w) →
        ∃ t, exec (.timeBudgetExhausted l) s = .next t ∧ cut s t l v .cut ∧ t.mem = s.mem ∧ t.orangery = s.orangery) ∧
      ((∃ w, lingers s l w) → ∃ t v', exec (.timeBudgetExhausted l) s = .next t ∧ look t.launches l = some v' ∧ v'.cutting = some .cut ∧
        v'.phase = .running ∧ v'.status = some (v.status.getD .cut) ∧ v'.spillRing = [] ∧ t.mem = s.mem ∧ t.orangery = s.orangery ∧
        (∀ k x, look s.ents k = some x → lingers s l x.wave → look t.ents k = some x) ∧
        ∀ k x w, look t.ents k = some x → look s.waves x.wave = some w → w.owner = .launch l → lingers s l x.wave)) ∧
    (s.tick - start < 100 * v.record.tbudget ∨ v.record.tbudget = 0xFFFFFFFF → exec (.timeBudgetExhausted l) s = .next s)) ∧
  (∀ (s : State) (mj : List Nat), s.tick < s.dispatch.meterAt + 1000 → exec (.energyMeterInterval mj) s = .next s) ∧
  (∀ (s : State) (mj : List Nat), s.dispatch.meterAt + 1000 ≤ s.tick → nmapWf s.launches = true → nmapWf s.ents = true → nmapWf s.waves = true →
    ∃ t, exec (.energyMeterInterval mj) s = .next t ∧ t.mem = s.mem ∧ t.orangery = s.orangery ∧
      t.dispatch = { s.dispatch with meterAt := s.tick } ∧
      ∀ l v, look s.launches l = some v → v.phase = .running → v.cutting = none →
        let n := v.charged + (List.range 32).foldl (fun n p => n + mj.getD p 0 * coresHeld s l p) 0
        (∃ v', look t.launches l = some v' ∧ v'.charged = n) ∧
        (v.record.ebudget ≠ 0xFFFFFFFF → 16 * v.record.ebudget ≤ n → (∀ w, ¬ lingers s l w) → cut s t l v .cut) ∧
        (v.record.ebudget = 0xFFFFFFFF ∨ n < 16 * v.record.ebudget → look t.launches l = some { v with charged := n })) ∧
  (∀ (s : State) (p : Nat), let q := s.pav p
    (q.measuring = false → pavIdle s p = true → q.idleAt ≠ 0 →
      (q.idleAt + 2100000 ≤ s.now → ∃ t, exec (.pathDelayMeasure p) s = .next t ∧ t.pav p = { q with measuring := true } ∧ { t with pavs := s.pavs } = s) ∧
      (s.now < q.idleAt + 2100000 → exec (.pathDelayMeasure p) s = .next s)) ∧
    (q.measuring = false → pavIdle s p = true → q.idleAt = 0 →
      ∃ t, exec (.pathDelayMeasure p) s = .next t ∧ t.pav p = { q with idleAt := max 1 s.now } ∧ { t with pavs := s.pavs } = s) ∧
    (q.measuring = false → pavIdle s p = false →
      ∃ t, exec (.pathDelayMeasure p) s = .next t ∧ t.pav p = { q with idleAt := 0 } ∧ { t with pavs := s.pavs } = s) ∧
    (∀ (m : List Int) (i : Nat), q.measuring = true → 1 ≤ i → i < 9 → 52 ≤ m.getD i 0 → (∀ j < i, m.getD j 0 < 52) →
      ∃ t, exec (.pathDelayMeasurementEnd p m) s = .next t ∧ (t.pav p).measuring = false ∧ (t.pav p).highest = min q.highest (i - 1) ∧
        (t.pav p).point = min q.point (min q.highest (i - 1)) ∧ (t.pav p).margins = (List.range 9).map (fun j => m.getD j 0 / 2 * 2) ∧
        ∀ x, x ≠ p → t.pav x = s.pav x)) ∧
  (∀ (s : State) (ps : List Nat), ∃ t, exec (.thermalThrottle ps) s = .next t ∧ { t with pavs := s.pavs, cores := s.cores } = s ∧
    (∀ p ∈ ps, ∃ since, t.pav p = { s.pav p with point := (s.pav p).lowest, since := since }) ∧ (∀ p, p ∉ ps → t.pav p = s.pav p) ∧
    ∀ c, coreCycles t c = coreCycles s c ∧ { t.core c with cycleAt := (s.core c).cycleAt } = s.core c) ∧
  (∀ (s : State), nmapWf s.launches = true → nmapWf s.ents = true → ∃ t, exec .thermalTrip s = .next t ∧ t.ctl.tripped = true ∧ t.mem = s.mem ∧
    (∀ k x, look t.ents k = some x → look s.waves x.wave = none) ∧
    ∀ l v, look s.launches l = some v → v.phase = .running → ∃ v', look t.launches l = some v' ∧ v'.phase = .stopped ∧
      v'.status = some (v.status.getD .faulted))

/-- R235 to R247, R304: RECORD_TAKE, GANG_PLACE, GANG_RETIRE, LAUNCH_COMPLETE, COMPLETION_POST, SIGNAL. Where the journal's records stand is the
model's choice (assumption 64), and so is that a launch over after a thermal trip waits for no packet (assumption 84). -/
def Obligations.LaunchSteps : Prop :=
  (∀ (s : State) (n : Nat) (q : Queue) (cq : Cq), look s.queues n = some q → serving s = true → (servedBy s n).isSome = true →
    look s.cqs q.cq = some cq →
    (q.upTo = none → n ∉ s.dispatch.kicks → exec (.recordTake n) s = .next s) ∧
    (q.upTo = none → n ∈ s.dispatch.kicks → ∃ t, exec (.recordTake n) s = .next t ∧
      t = { s with queues := put s.queues n { q with upTo := if q.head = q.tail then none else some q.tail }, dispatch := t.dispatch } ∧
      t.dispatch = { s.dispatch with kicks := s.dispatch.kicks.filter (fun k => decide (k ≠ n)) }) ∧
    (∀ tail, q.upTo = some tail →
      let x := dieLoad s 0 (q.base + 128 * q.head) 128
      let head := (q.head + 1) % 2 ^ q.n
      ∃ t v, exec (.recordTake n) s = .next t ∧ look t.queues n = some { q with head := head, upTo := if head = tail then none else some tail } ∧
        (∀ m, m ≠ n → look t.queues m = look s.queues m) ∧ look t.launches (s.fresh + 1) = some v ∧
        v.record.lid = bits x 544 32 ∧ v.record.entry = BitVec.ofNat 64 (bits x 0 64) ∧ v.record.args = BitVec.ofNat 64 (bits x 64 64) ∧
        v.record.gridX = bits x 128 16 ∧ v.record.gridY = bits x 144 16 ∧ v.record.gridZ = bits x 160 16 ∧ v.record.wpb = bits x 176 5 + 1 ∧
        v.record.gsize = bits x 184 4 + 1 ∧ v.record.vregs = 8 * (bits x 192 3 + 1) ∧ v.record.tags = bits x 196 7 ∧ v.record.scratch = bits x 204 10 ∧
        v.record.tbudget = bits x 256 32 ∧ v.record.ebudget = bits x 288 32 ∧ v.record.handler = BitVec.ofNat 64 (bits x 320 64) ∧
        v.record.anytime = x.testBit 220 ∧ v.record.deterministic = x.testBit 221 ∧ v.record.idempotent = x.testBit 222 ∧
        v.record.preemptible = x.testBit 223 ∧ v.record.prio = bits x 216 3 ∧ v.record.cres = bits x 224 3 ∧ v.record.dpav = bits x 236 6 ∧
        v.record.spill = BitVec.ofNat 64 (bits x 384 64) ∧ v.record.spillSize = bits x 448 32 ∧ v.record.ring = bits x 480 32 ∧
        v.record.resume = BitVec.ofNat 32 (bits x 512 32) ∧ v.record.objs.length = min 4 (bits x 228 3) ∧ v.record.deps.length = min 4 (bits x 232 4) ∧
        (∀ i < v.record.objs.length, v.record.objs[i]? = some (bits x (704 + 64 * i) 32, bits x (736 + 64 * i) 16)) ∧
        (∀ i < v.record.deps.length, v.record.deps[i]? = some (bits x (576 + 32 * i) 32)) ∧
        v.nextGang = 0 ∧ v.retired = 0 ∧ v.bound = false ∧ v.startTick = none ∧ v.spillRing = [] ∧ v.outstanding = 0 ∧
        v.phase = .taken ∧ v.queue = n ∧ v.asid = q.asid ∧ v.prio = min (bits x 216 3) q.prio ∧ v.placeable = placeable s q.asid x v.record ∧
        v.status = (if v.placeable then none else some .faulted) ∧ t.ents = s.ents ∧
        (v.placeable = true → rdN t.mem (hostAt + q.headAddr) 8 = head % 2 ^ 64) ∧
        t.dispatch.kicks = s.dispatch.kicks ∧
        ∃ d, t.dispatch.journal = s.dispatch.journal ++ [{ tick := s.tick, gang := 0xFFFFFFFF, lid := bits x 544 32, queue := n, dc := d, kind := 1 }])) ∧
  (∀ (s : State) (l j : Nat) (v : Launch), serving s = true → firstRequest s = some (l, v) → look s.launches l = some v → wantedGang v = some j →
    neverPlaced s v j = none →
    (findPlace s l v j = none → exec .gangPlace s = .next s) ∧
    (∀ cores pavs, findPlace s l v j = some (cores, pavs) →
      ∃ t v' id g, exec .gangPlace s = .next t ∧ look t.launches l = some v' ∧ v'.phase = .running ∧ v'.bound = true ∧
        v'.startTick = some (v.startTick.getD s.tick) ∧ v'.nextGang = (if j ∈ v.again then v.nextGang else v.nextGang + 1) ∧
        look t.gangs id = some g ∧ g.owner = .launch l ∧ g.id = j ∧ g.valid = true ∧ g.cores = cores.map (fun c => c % 16) ∧ g.ie = false ∧
        (∀ a, a < 0x2540BE4000 - 2 ^ 20 ∨ 0x2540BE4000 ≤ a → rd t.mem a = rd s.mem a) ∧
        (∀ k e, look s.ents k = some e → coreOfKey k ∉ cores → look t.ents k = some e) ∧
        (∀ c lin key, cores = [c] → gangBlocks v.record j = [lin] → v.record.wpb = 1 → fetchSlot (usedKeys s) c 0 = some key →
          ∃ e w b, look t.ents key = some e ∧ look t.waves e.wave = some w ∧ look t.blocks w.block = some b ∧ e.pc = v.record.entry ∧ e.mask = BitVec.allOnes 96 ∧
            e.own = BitVec.allOnes 96 ∧ e.park = .running ∧ e.rS 1 = v.record.args.setWidth 32 ∧ e.rS 2 = BitVec.ofNat 32 lin ∧ e.rS 3 = 0 ∧
            e.rS 59 = (v.record.args >>> 32).setWidth 32 ∧ e.rS 4 = 0 ∧ e.level = false ∧ w.vlimit = v.record.vregs ∧ w.passIdx = v.record.resume ∧
            w.handler = v.record.handler ∧ w.vregs = [] ∧ b.core = c ∧ b.x = lin % v.record.gridX ∧ b.y = lin / v.record.gridX % v.record.gridY ∧
            b.tags = BitVec.allOnes 64) ∧
        (∀ o off x, v.bound = false → v.record.objs = [o] → objNamed s v.asid (BitVec.ofNat 32 o.1) = some (off, x) → o.2 < 2 ^ 16 → v.record.lid < 2 ^ 32 → v.queue < 1024 →
          (off + 64 ≤ 0x27000000 ∨ 0x27100000 ≤ off) →
          objGet (objRead t off) .parts = o.2 ∧ objGet (objRead t off) .plid = v.record.lid ∧ objGet (objRead t off) .ldone = 0 ∧
          objGet (objRead t off) .version = objGet x .version))) ∧
  (∀ (s : State) (g l : Nat) (q : Gang) (v : Launch), look s.gangs g = some q → q.owner = .launch l → look s.launches l = some v → q.id ≠ 0xFFFFFFFF →
    (gangOver s q = false → exec (.gangRetire g) s = .next s) ∧
    (v.record.deterministic = true → v.retired ≠ q.position → exec (.gangRetire g) s = .next s) ∧
    (gangOver s q = true → (v.record.deterministic = false ∨ v.retired = q.position) → v.arrivals = [] →
      ∃ t, exec (.gangRetire g) s = .next t ∧ look t.gangs g = none ∧ look t.launches l = some { v with retired := v.retired + 1, exposed := v.exposed || q.iex } ∧
        (∀ b ∈ q.blocks, look t.blocks b = none) ∧ t.mem = s.mem ∧ t.ents = s.ents)) ∧
  (∀ (s : State) (l : Nat) (v : Launch), look s.launches l = some v →
    let ready := servedBy s v.queue ≠ none ∧ ((v.placeable = false ∧ v.phase = .taken) ∨
      (launchOver s l v = true ∧ (v.outstanding = 0 ∨ s.ctl.tripped = true) ∧ (v.bound = false ∨ v.closed.length = v.record.objs.length) ∧ launchQuiet s l = true))
    (¬ ready → exec (.launchComplete l) s = .next s) ∧
    (ready → ∃ t v', exec (.launchComplete l) s = .next t ∧ look t.launches l = some v' ∧ v'.phase = .completed ∧ v'.seq = some s.dispatch.nextSeq ∧
      v'.status = some (v.status.getD .done) ∧ t.dispatch.nextSeq = s.dispatch.nextSeq + 1 ∧
      t.dispatch.toPost = s.dispatch.toPost ++ [{ seq := s.dispatch.nextSeq, launch := l, clock := (List.range 8).map (lastEpoch s) }] ∧
      (∀ a, a < 0x2540BE4000 - 2 ^ 20 ∨ 0x2540BE4000 ≤ a → rd t.mem a = rd s.mem a) ∧ t.ents = s.ents)) ∧
  (∀ (s : State), (∀ c ∈ s.dispatch.toPost, roomFor s c = none) → exec .completionPost s = .next s) ∧
  (∀ (s : State) (c : Completion) (early rest : List Completion) (v : Launch) (q : Queue) (x : Cq) (st : Status),
    s.dispatch.toPost = early ++ c :: rest → (∀ e ∈ early, roomFor s e = none) →
    look s.launches c.launch = some v → look s.queues v.queue = some q → look s.cqs q.cq = some x → v.status = some st → v.record.lid < 2 ^ 32 →
    let held := (∃ b ∈ s.dispatch.signalled, b = true) ∨ ∃ dc, dc < 2 ∧ s.dispatch.rescan.getD dc false = true ∧
      ∃ k ∈ s.queues, k.1 / 512 = dc ∧ k.2.upTo.isSome = true
    (held → exec .completionPost s = .next s) ∧
    (¬ held → (x.tail + 1) % 2 ^ x.n ≠ x.head % 2 ^ x.n → servedBy s v.queue ≠ none → appliedEverywhere s c.clock = true →
      let at' := hostAt + (x.base + 64 * x.tail)
      ∃ t, exec .completionPost s = .next t ∧ rdN t.mem at' 4 = v.record.lid ∧
        rdN t.mem (at' + 4) 1 = (match st with | .done => 1 | .cut => 2 | .faulted => 3 | .lost => 4) ∧ rdBytes t.mem at' 64 = completionEntry v x.phase ∧
        (∀ a, a < at' ∨ at' + 64 ≤ a → a < 0x2540BE4000 - 2 ^ 20 ∨ 0x2540BE4000 ≤ a → rd t.mem a = rd s.mem a) ∧ look t.launches c.launch = none ∧ t.ents = s.ents ∧ q.cq ∈ t.ctl.owed ∧
        look t.cqs q.cq = some { x with tail := (x.tail + 1) % 2 ^ x.n, phase := if (x.tail + 1) % 2 ^ x.n = 0 then !x.phase else x.phase })) ∧
  (∀ (s : State) (r : Nat), r ∈ s.ctl.owed → r < 2 ^ 64 →
    let clock := match look s.ctl.sigClock r with | some c => c | none => (List.range 8).map (lastEpoch s)
    let wrote := fun (t : State) => rdN t.mem (hostAt + s.ctl.sigAddr) 8 = r ∧ r ∉ t.ctl.owed ∧ look t.ctl.lastSig r = some s.tick ∧ t.ents = s.ents ∧
      ∀ a, a < hostAt + s.ctl.sigAddr ∨ hostAt + s.ctl.sigAddr + 8 ≤ a → rd t.mem a = rd s.mem a
    let waits := fun (t : State) => t.mem = s.mem ∧ t.ctl = { s.ctl with sigClock := put s.ctl.sigClock r clock }
    (∀ last, look s.ctl.lastSig r = some last → s.tick < last + 200 → exec (.signal r) s = .next s) ∧
    ((∀ last, look s.ctl.lastSig r = some last → last + 200 ≤ s.tick) →
      (look s.ctl.sigClock r ≠ none ∨ (s.die 0).opened = [] → appliedEverywhere s clock = true → ∃ t, exec (.signal r) s = .next t ∧ wrote t) ∧
      (look s.ctl.sigClock r ≠ none ∨ (s.die 0).opened = [] → appliedEverywhere s clock = false →
        ∃ t, exec (.signal r) s = .next t ∧ waits t ∧ t.dies = s.dies) ∧
      (look s.ctl.sigClock r = none → (s.die 0).opened ≠ [] →
        ∃ t, exec (.signal r) s = .next t ∧ (t.die 0).opened = [] ∧ (wrote t ∨ waits t)))) ∧
  (∀ (s : State) (clock : List Nat), appliedEverywhere s clock = true ↔ ∀ d < 8, covers (s.die d).clock clock = true ∧
    ∀ h ∈ (s.die d).hostOut, clock.getD d 0 < h.stamp.getD d 0)

/-- R243, R244, R271, R272: DISPATCH_CORE_FAILURE, HEARTBEAT, HEARTBEAT_MISS, DISPATCH_TAKEOVER, PREEMPTION, CONTEXT_EVICT, CONTEXT_STAGE_IN,
CONTEXT_RESTORE. How much of an entity a context keeps is assumption 49, and what a takeover with both cores halted does is assumption 61. -/
def Obligations.FailoverAndContextSteps : Prop :=
  (∀ (s : State) (dc : Nat), dc < 2 → s.dispatch.halted.length = 2 → s.dispatch.signalled.length = 2 → s.dispatch.beats.length = 2 →
    s.dispatch.missed.length = 2 → s.dispatch.rescan.length = 2 →
    let d := s.dispatch
    let only := fun (t : State) => { t with dispatch := d } = s
    let fails := fun (t : State) => { t with dispatch := d, queues := s.queues } = s ∧
      (∀ k, look t.queues k = (look s.queues k).map (fun q => if servedBy s k = some dc then { q with upTo := none } else q)) ∧
      t.dispatch.halted.getD dc false = true ∧ t.dispatch.signalled.getD dc false = true ∧
      t.dispatch.halted.getD (1 - dc) false = d.halted.getD (1 - dc) false
    (d.halted.getD dc true = false →
      (∃ t, exec (.dispatchCoreFailure dc) s = .next t ∧ fails t) ∧
      (∃ t, exec (.heartbeat dc) s = .next t ∧ only t ∧ t.dispatch.beats.getD dc 0 = s.tick ∧ t.dispatch.missed.getD dc 1 = 0 ∧ t.dispatch.halted = d.halted) ∧
      (d.halted.getD (1 - dc) true = false →
        let n := d.missed.getD dc 0 + 1
        (s.tick < d.beats.getD dc 0 + 1000 * n → exec (.heartbeatMiss dc) s = .next s) ∧
        (d.beats.getD dc 0 + 1000 * n ≤ s.tick → ∃ t, exec (.heartbeatMiss dc) s = .next t ∧ t.dispatch.missed.getD dc 0 = n ∧
          (n < 3 → only t ∧ t.dispatch.halted = d.halted) ∧ (3 ≤ n → fails t)))) ∧
    (d.halted.getD (1 - dc) true = false →
      (d.signalled.getD dc false = true → ∃ t, exec (.dispatchTakeover dc) s = .next t ∧ t.dispatch.signalled.getD dc true = false ∧
        t.dispatch.rescan.getD dc false = true ∧ { t with dispatch := d, queues := s.queues } = s ∧ (∀ k ∈ d.kicks, k ∈ t.dispatch.kicks) ∧
        (∀ k q, look s.queues k = some q → look t.queues k =
          some (if k / 512 = dc ∧ q.head ≠ q.tail ∧ (look s.cqs q.cq).isSome = true then { q with upTo := some q.tail } else q)) ∧
        (nmapWf s.queues = true → ∀ k q, look s.queues k = some q → k / 512 = dc → q.head ≠ q.tail → look s.cqs q.cq = none → k ∈ t.dispatch.kicks)) ∧
      (d.signalled.getD dc false = false →
        let settled := d.rescan.getD dc false = true ∧ rescanning s dc = false ∧ ∀ c ∈ d.toPost, roomFor s c = none
        (¬ settled → exec (.dispatchTakeover dc) s = .next s) ∧
        (settled → ∃ t, exec (.dispatchTakeover dc) s = .next t ∧ t.dispatch = { d with rescan := t.dispatch.rescan } ∧
          t.dispatch.rescan.getD dc true = false ∧ t.ents = s.ents ∧ t.launches = s.launches ∧ t.queues = s.queues ∧
          (ringFull s 2 = true → t.mem = s.mem) ∧
          (ringFull s 2 = false → rdN t.mem (hostAt + (ringOf s 2).base + 16 * (ringOf s 2).tail) 16 = 8 * 2 ^ 88 + dc * 2 ^ 71))))) ∧
  (∀ (s : State) (p l j : Nat) (v : Launch), serving s = true → firstRequest s = some (l, v) → wantedGang v = some j → neverPlaced s v j = none →
    let wanted := findPlace s l v j = none ∧ chosenVictim s l v j = some p
    (¬ wanted → (s.pav p).halting = false → exec (.preemption p) s = .next s) ∧
    (¬ wanted → (s.pav p).halting = true → ∃ t, exec (.preemption p) s = .next t ∧ { t with pavs := s.pavs, cores := s.cores } = s ∧
      t.pav p = { s.pav p with halting := false } ∧ (∀ x, x ≠ p → t.pav x = s.pav x) ∧
      ∀ c, (c / 16 ≠ p ∨ (s.core c).data.run = none → t.core c = s.core c) ∧
        { t.core c with data := { (t.core c).data with run := none } } = { s.core c with data := { (s.core c).data with run := none } } ∧
        ∀ r, (s.core c).data.run = some r → r.op.kind ≠ .bound → mayEnd s c r.since = true → (t.core c).data.run = some r) ∧
    (wanted → 2 ≤ inShadow s (p / 4) → exec (.preemption p) s = .next s) ∧
    (wanted → inShadow s (p / 4) < 2 → (s.pav p).halting = false →
      exec (.preemption p) s = .next (s.setPav p { s.pav p with halting := true, haltAt := s.now })) ∧
    (wanted → pavCutting s p = true → (s.pav p).halting = true → exec (.preemption p) s = .next s) ∧
    (wanted → (s.pav p).halting = true → pavHalted s p = false → exec (.preemption p) s = .next s) ∧
    (let gangs := (gangsAt s p).map (fun g => g.1)
     let cores := occupied s gangs
     wanted → (s.pav p).halting = true → cores.all (coreHalted s) = true →
     (s.ents.filter (fun e => cores.contains (coreOfKey e.1))).all (fun e => entHalted s e.1 e.2) = true →
     inShadow s (p / 4) < 2 → pavCutting s p = false → nmapWf s.ents = true → nmapWf s.gangs = true →
      ∃ t c, exec (.preemption p) s = .next t ∧ t.contexts = s.contexts ++ [c] ∧ c.pav = p ∧ c.die = p / 4 ∧ c.evicted = false ∧ c.gangs = gangs ∧
        (∀ g q, g ∈ gangs → look s.gangs g = some q → look t.gangs g = some { q with valid := false }) ∧ t.orangery = s.orangery ∧
        ((∀ b ∈ (s.pav p).bins, b.2.children = []) → t.mem = s.mem) ∧ (t.pav p).halting = false ∧
        ∀ k e, look s.ents k = some e →
          (k / 32 ∉ cores → look t.ents k = some e) ∧
          (k / 32 ∈ cores → look t.ents k = none ∧ ∃ e', look c.ents k = some e' ∧ e'.sregs = e.sregs ∧ e'.mask = e.mask ∧ e'.own = e.own ∧
            e'.pc = e.chainPc ∧ e'.pairs = e.pairs ∧ e'.wave = e.wave))) ∧
  (∀ (s : State) (k p : Nat) (c : Context), s.contexts[k]? = some c →
    (c.evicted = false → ∃ t, exec (.contextEvict k) s = .next t ∧ t = { s with contexts := setNth s.contexts k { c with evicted := true } }) ∧
    (c.evicted = true → inShadow s c.die < 2 →
      ∃ t, exec (.contextStageIn k) s = .next t ∧ t = { s with contexts := setNth s.contexts k { c with evicted := false } }) ∧
    (c.evicted = true → exec (.contextRestore k p) s = .next s) ∧
    ((s.pav p).halting = true ∨ contextCutting s c = true → exec (.contextRestore k p) s = .next s) ∧
    (∀ m, c.evicted = false → p < 32 → serving s = true → (s.pav p).measuring = false → (s.pav p).halting = false → covers (s.die (p / 4)).clock c.clock = true →
      coreMap s c p = some m → contextCutting s c = false → c.parks = [] → c.poison = [] → s.poison = [] → nmapWf c.ents = true →
      (∀ a b, (look c.ents a).isSome = true → (look c.ents b).isSome = true → m.key a = m.key b → a = b) →
      ∃ t, exec (.contextRestore k p) s = .next t ∧ t.contexts = s.contexts.take k ++ s.contexts.drop (k + 1) ∧ t.mem = s.mem ∧ t.orangery = s.orangery ∧
        (∀ a e, look c.ents a = some e → ∃ e', look t.ents (m.key a) = some e' ∧ e'.sregs = e.sregs ∧ e'.mask = e.mask ∧ e'.pc = e.pc ∧ e'.wave = e.wave) ∧
        ∀ g q, g ∈ c.gangs → look s.gangs g = some q → ∃ q', look t.gangs g = some q' ∧ q'.valid = true ∧ q'.pav = p ∧ q'.blocks = q.blocks ∧ q'.id = q.id))

/-- R302 with R43, R62, R67, R68, R78, R227, R230, R234, R247, R248, R262, R271, R282: the fifteen commands and TLB_INVAL_COMPLETE. What the
entry's words hold before the status is set, and the first generation of an index, are the model's (assumptions 24 and 48); which ranges a command
checks (assumption 51) and when an invalidation is complete (assumption 52) are its readings. -/
def Obligations.CommandSteps : Prop :=
  (∀ (s : State), cmdReady s = true →
    let done := fun (i : Instr) (st : Nat) (P : State → Prop) => ∃ t, exec i s = .next t ∧ Claim.CommandDone s t st ∧ t.gangs = s.gangs ∧ t.launches = s.launches ∧ P t
    let keeps := fun (t : State) => t.ents = s.ents ∧ t.waves = s.waves
    let badRegs := fun (r : Nat) => r < 8 ∨ 64 < r ∨ r % 8 ≠ 0
    (∀ n a pr k cq b h, n < 2 ^ 16 → a < 2 ^ 16 → pr < 2 ^ 8 → k < 2 ^ 8 → cq < 2 ^ 8 → b < 2 ^ 64 → h < 2 ^ 64 →
      (n < 1024 ∧ a < 512 ∧ pr < 8 ∧ 4 ≤ k ∧ k ≤ 16 → done (.queueSet n a pr k cq b h) 0 (fun t => keeps t ∧
        look t.queues n = some { asid := a, prio := pr, n := k, cq := cq, base := b, headAddr := h, head := 0, tail := 0, upTo := none } ∧
        ∀ j, j ≠ n → look t.queues j = look s.queues j)) ∧
      (¬ (n < 1024 ∧ a < 512 ∧ pr < 8 ∧ 4 ≤ k ∧ k ≤ 16) → done (.queueSet n a pr k cq b h) 1 (fun t => keeps t ∧ t.queues = s.queues))) ∧
    (∀ a f y r, a < 512 → f ≤ 64 → r % 2048 = 0 → r < 2 ^ 52 →
      ((s.asid a).bound = false → done (.asidBind a f y r) 0 (fun t => keeps t ∧
        t.asid a = { s.asid a with bound := true, root := r, fn := f, sys := y } ∧ ∀ j, j ≠ a → t.asid j = s.asid j)) ∧
      ((s.asid a).bound = true → ∃ t, exec (.asidBind a f y r) s = .next t ∧ t.asid a = { s.asid a with bound := true, root := r, fn := f, sys := y } ∧
        t.ctl.inval = some (a, s.fresh) ∧ t.ctl.cmdDone = s.ctl.cmdDone ∧
        (∀ d, ∀ x ∈ (t.die d).tlb, x.asid ≠ a) ∧ ∀ c, ∀ x ∈ (t.core c).tlb, x.asid ≠ a)) ∧
    (∀ a f y r, a < 2 ^ 16 → f < 2 ^ 8 → r < 2 ^ 64 → (512 ≤ a ∨ 64 < f ∨ r % 2048 ≠ 0 ∨ 2 ^ 52 ≤ r) →
      done (.asidBind a f y r) 1 (fun t => keeps t ∧ t.asids = s.asids)) ∧
    (∀ f w x y z, f < 2 ^ 8 → w < 2 ^ 32 → x < 2 ^ 32 → y < 2 ^ 32 → z < 2 ^ 32 →
      (1 ≤ f → f ≤ 64 → done (.vfBounds f w x y z) 0 (fun t => keeps t ∧
        look t.vfs f = some { hbmBase := w, hbmBound := x, tierBase := y, tierBound := z } ∧ ∀ j, j ≠ f → look t.vfs j = look s.vfs j)) ∧
      (f = 0 ∨ 64 < f → done (.vfBounds f w x y z) 1 (fun t => keeps t ∧ t.vfs = s.vfs))) ∧
    (∀ a u c, a < 2 ^ 16 → u < 2 ^ 16 → c < 4 →
      (a < 512 → u < 320 → u ≠ 312 → done (.ounitGrant a u c) 0 (fun t => keeps t ∧ (t.asid a).units = put (s.asid a).units u c ∧
        (c ≠ 3 → (t.asid a).objBase = (s.asid a).objBase) ∧ (∀ j, j ≠ a → t.asid j = s.asid j))) ∧
      (512 ≤ a ∨ 320 ≤ u ∨ u = 312 → done (.ounitGrant a u c) 1 (fun t => keeps t ∧ t.asids = s.asids))) ∧
    (∀ a b n, b < 2 ^ 64 → n < 2 ^ 64 →
      (a < 512 → ∃ t, exec (.tlbInval a b n) s = .next t ∧ t.ctl.inval = some (a, s.fresh) ∧ t.ctl.cmdDone = s.ctl.cmdDone ∧
        ∀ d, (∀ x ∈ (t.die d).tlb, x ∈ (s.die d).tlb ∧ ¬ (x.asid = a ∧ (n = 0 ∨ (x.va < b + n ∧ b < x.va + x.size)))) ∧
          (∀ x ∈ (s.die d).tlb, x.asid ≠ a → x ∈ (t.die d).tlb)) ∧
      (a < 512 → ∃ t, exec (.tlbInval a b n) s = .next t ∧
        ∀ c, ∀ x ∈ (t.core c).tlb, ¬ (x.asid = a ∧ (n = 0 ∨ (x.va < b + n ∧ b < x.va + x.size)))) ∧
      (512 ≤ a → a < 2 ^ 16 → done (.tlbInval a b n) 1 (fun t => keeps t ∧ ∀ d, (t.die d).tlb = (s.die d).tlb))) ∧
    (∀ d p (k : ParkRec) (e : Entity) (v : Wave), d < 8 → p < 2 ^ 16 → (s.die d).parks.find? (fun x => decide (x.id = p)) = some k → k.copy = none →
      look s.ents k.ent = some e → e.park = .fault p → look s.waves e.wave = some v →
      let gone := fun (t : State) => (t.die d).parks = (s.die d).parks.filter (fun x => decide (x.id ≠ p)) ∧ (∀ j, j ≠ k.ent → look t.ents j = look s.ents j)
      done (.faultAnswer d 0 p) 0 (fun t => gone t ∧ look t.ents k.ent = some { e with park := .running }) ∧
      (v.handler ≠ 0 → e.level = false → done (.faultAnswer d 1 p) 0 (fun t => gone t ∧ look t.ents k.ent =
        some (enterHandler e v.handler { cause := 0x10, lane := lowestLane e.fmask, addr := lowestAddr k } false e.chainPc)))) ∧
    (∀ d p c, d < 2 ^ 8 → c < 2 ^ 8 → p < 2 ^ 16 → (8 ≤ d ∨ 2 ≤ c) → done (.faultAnswer d c p) 1 keeps) ∧
    (∀ a i n r hv sz b q off, a < 512 → i < 4096 → 2 ≤ n → n ≤ 8 → r ≤ 2 → 1 ≤ sz → sz < 2 ^ 24 → b % 4096 = 0 → b + n * sz * 4096 ≤ 2 ^ 56 → q < 2 ^ 32 →
      objOff s a i = some off →
      (look (s.asid a).objs i ≠ some true → done (.objCreate a i n r hv sz b q) 0 (fun t => keeps t ∧ ∃ g,
        objNamed t a (BitVec.ofNat 32 (g * 4096 + i)) = some (off, objRead t off) ∧ g < 2 ^ 20 ∧
        (∀ g0, look (s.asid a).gens i = some g0 → g = (g0 + 1) % 2 ^ 20) ∧
        (∀ f ∈ [(ObjField.version, 0), (.quality, q), (.slotBase, b / 4096), (.slotSize, sz), (.cur, 0), (.open', 0), (.seals, 0), (.km1, n - 1), (.rule, r),
          (.hostVis, hv.toNat), (.poison, 0), (.gen, g), (.ldone, 1), (.asid, a)], objGet (objRead t off) f.1 = f.2) ∧
        (∀ j < n, objGet (objRead t off) (.age j) = (j + 1) % n) ∧ (∀ j < 8, objGet (objRead t off) (.pin j) = 0) ∧
        ∀ x, x < off ∨ off + 64 ≤ x → rd t.orangery x = rd s.orangery x)) ∧
      (look (s.asid a).objs i = some true → done (.objCreate a i n r hv sz b q) 2 (fun t => keeps t ∧ t.orangery = s.orangery ∧ t.asids = s.asids))) ∧
    (∀ a i, a < 2 ^ 16 → i < 2 ^ 16 →
      (look (s.asid a).objs i ≠ some true → done (.objDestroy a i) 1 (fun t => keeps t ∧ t.asids = s.asids)) ∧
      (∀ off, look (s.asid a).objs i = some true → objOff s a i = some off →
        (objGet (objRead s off) .ldone = 1 ∧ (∀ j < 8, objGet (objRead s off) (.pin j) = 0) →
          done (.objDestroy a i) 0 (fun t => keeps t ∧ look (t.asid a).objs i = some false ∧ t.orangery = s.orangery)) ∧
        (objGet (objRead s off) .ldone = 0 ∨ (∃ j < 8, objGet (objRead s off) (.pin j) ≠ 0) →
          done (.objDestroy a i) 2 (fun t => keeps t ∧ t.asids = s.asids ∧ t.orangery = s.orangery)))) ∧
    (∀ a i r e h, a < 512 → i < 4096 → 8 ≤ r → r ≤ 64 → r % 8 = 0 → e < 2 ^ 64 → h < 2 ^ 64 → done (.handlerSet a i r e h) 0 (fun t => keeps t ∧
      (t.asid a).handlers = put (s.asid a).handlers i { vregs := r, entry := e, handler := h } ∧ ∀ j, j ≠ a → t.asid j = s.asid j)) ∧
    (∀ p c r pv n ring z b u, p < 4 → c ≤ 4 → 8 ≤ r → r ≤ 64 → r % 8 = 0 → pv < 32 → 1 ≤ n → n ≤ 2 ^ 16 → ring < 2 ^ 32 → z < 2 ^ 32 → b < 2 ^ 60 → u < 2 ^ 60 →
      done (.rxqSet p c r pv n ring z b u) 0 (fun t => keeps t ∧ ∃ q, look t.rxqs p = some q ∧ q.cres = c ∧ q.vregs = r ∧ q.pav = pv ∧ q.entries = n ∧
        q.ring = ring ∧ q.ringAt = 0 ∧ (t.pav pv).idleAt = 0 ∧ q.spillSize = z ∧ q.base = b ∧ q.spill = u ∧ ∀ j, j ≠ p → look t.rxqs j = look s.rxqs j)) ∧
    (∀ w rd' f c b n x y m z, w < 1024 → f ≤ 2 → 1 ≤ c → c ≤ 256 → b < 2 ^ 64 → n < 2 ^ 32 → x % 8 = 0 → x < 2 ^ 30 → y % 8 = 0 → y < 2 ^ 30 → m < 2 ^ 24 →
      -128 ≤ z → z < 128 → done (.windowReg w rd' f c b n x y m z) 0 (fun t => keeps t ∧ ∃ q, look t.windows w = some q ∧ q.reduce = rd' ∧ q.format = f ∧
        q.contributors = c ∧ q.base = b ∧ q.length = n ∧ q.arrival = x ∧ q.origin = y ∧ q.elements = m ∧ q.expo = z ∧ q.arrived = 0)) ∧
    (∀ w, w < 1024 → done (.windowDereg w) 0 (fun t => keeps t ∧ look t.windows w = none ∧
      t.sends = s.sends.map (fun m => if m.window = w then { m with failed := true } else m) ∧ ∀ j, j ≠ w → look t.windows j = look s.windows j)) ∧
    (∀ d c, d < 8 → c < 64 → done (.fenceClear d c) 0 (fun t => keeps t ∧ ∀ x, x ∈ t.mgmt.fences ↔ x ∈ s.mgmt.fences ∧ x ≠ 64 * d + c)) ∧
    (∀ dc, dc < 2 → s.dispatch.halted.length = 2 → done (.dispatchRestore dc) 0 (fun t => keeps t ∧ t.dispatch.halted.getD dc true = false ∧
      t.dispatch.halted.getD (1 - dc) false = s.dispatch.halted.getD (1 - dc) false)) ∧
    (∀ c n b, c < 256 → 4 ≤ n → n ≤ 16 → b % 4096 = 0 → b < 2 ^ 64 → done (.cqSet c n b) 0 (fun t => keeps t ∧
      look t.cqs c = some { n := n, base := b, tail := 0, head := 0, phase := true } ∧ ∀ j, j ≠ c → look t.cqs j = look s.cqs j)) ∧
    (∀ a i n r hv sz b q, a < 2 ^ 16 → i < 2 ^ 16 → n < 2 ^ 8 → r < 2 ^ 8 → sz < 2 ^ 32 → b < 2 ^ 64 → q < 2 ^ 32 →
      (512 ≤ a ∨ 4096 ≤ i ∨ n < 2 ∨ 8 < n ∨ 2 < r ∨ sz = 0 ∨ 2 ^ 24 ≤ sz ∨ b % 4096 ≠ 0 ∨ 2 ^ 56 < b + n * sz * 4096 ∨ objOff s a i = none) →
      done (.objCreate a i n r hv sz b q) 1 (fun t => keeps t ∧ t.orangery = s.orangery ∧ t.asids = s.asids)) ∧
    ((∀ a i r e h, a < 2 ^ 16 → i < 2 ^ 16 → r < 2 ^ 8 → e < 2 ^ 64 → h < 2 ^ 64 → (512 ≤ a ∨ 4096 ≤ i ∨ badRegs r) →
        done (.handlerSet a i r e h) 1 (fun t => keeps t ∧ t.asids = s.asids)) ∧
      (∀ p c r pv n ring z b u, p < 2 ^ 8 → c < 2 ^ 8 → r < 2 ^ 8 → pv < 2 ^ 8 → 1 ≤ n → n ≤ 2 ^ 16 → ring < 2 ^ 32 → z < 2 ^ 32 → b < 2 ^ 60 → u < 2 ^ 60 →
        (4 ≤ p ∨ 4 < c ∨ badRegs r ∨ 32 ≤ pv) → done (.rxqSet p c r pv n ring z b u) 1 (fun t => keeps t ∧ t.rxqs = s.rxqs))) ∧
    (∀ w f c b n x y m z, w < 2 ^ 16 → f ≤ 3 → 1 ≤ c → c ≤ 256 → b < 2 ^ 64 → n < 2 ^ 32 → x < 2 ^ 32 → y < 2 ^ 32 → m < 2 ^ 24 →
      (1024 ≤ w ∨ x % 8 ≠ 0 ∨ 2 ^ 30 ≤ x ∨ y % 8 ≠ 0 ∨ 2 ^ 30 ≤ y ∨ f = 3) →
      done (.windowReg w true f c b n x y m z) 1 (fun t => keeps t ∧ t.windows = s.windows) ∧
      (f ≠ 3 → done (.windowReg w false f c b n x y m z) 1 (fun t => keeps t ∧ t.windows = s.windows))) ∧
    (∀ w, 1024 ≤ w → w < 2 ^ 16 → done (.windowDereg w) 1 (fun t => keeps t ∧ t.windows = s.windows ∧ t.sends = s.sends)) ∧
    (∀ d c, d < 2 ^ 8 → c < 2 ^ 8 → (8 ≤ d ∨ 64 ≤ c) → done (.fenceClear d c) 1 (fun t => keeps t ∧ t.mgmt = s.mgmt)) ∧
    (∀ dc, 2 ≤ dc → dc < 2 ^ 8 → done (.dispatchRestore dc) 1 (fun t => keeps t ∧ t.dispatch = s.dispatch)) ∧
    (∀ c n b, c < 2 ^ 8 → n < 2 ^ 8 → b < 2 ^ 64 → (n < 4 ∨ 16 < n ∨ b % 4096 ≠ 0) →
      done (.cqSet c n b) 1 (fun t => keeps t ∧ t.cqs = s.cqs))) ∧
  (∀ (s : State) (a n : Nat), s.ctl.inval = some (a, n) → (ringOf s 0).size ≠ 0 →
    (accessesDone s a n = false → exec .tlbInvalComplete s = .next s) ∧
    (accessesDone s a n = true → ∃ t, exec .tlbInvalComplete s = .next t ∧ Claim.CommandDone s t 0 ∧ t.ctl.inval = none ∧ t.ents = s.ents))

/-- R300 to R307 with R234, R247, R275, R288: the doorbells and registers, apertures, boot, attestation and board management. The SPDM digests and
signatures and the sensors' readings are free (assumptions 12 and 13); host writes land at once (assumption 6); what a warm reset keeps of
what the model alone holds (its clock, its schedule) is the model's choice (assumption 26), and one step of boot for each POWER_ON_RESET is too
(assumption 43). Indices beyond a ring (assumption 50) and a SIZE that is no power of two (assumption 53) are readings; that an ignored store ends no poison is the
model's choice (assumption 81). -/
def Obligations.HostAndManagementSteps : Prop :=
  let done := fun (s : State) (i : Instr) (P : State → Prop) => ∃ t, exec i s = .next t ∧ P t
  let idle := fun (s : State) (i : Instr) => exec i s = .next s
  (∀ (s : State) (n v : Nat),
    (s.ctl.bootState ≠ 4 ∨ look s.queues n = none → idle s (.doorbell n v)) ∧
    (∀ q, s.ctl.bootState = 4 → look s.queues n = some q → done s (.doorbell n v) (fun t =>
      look t.queues n = some { q with tail := v % 2 ^ q.n } ∧ (∀ j, j ≠ n → look t.queues j = look s.queues j) ∧
      t.dispatch.kicks = (if n ∈ s.dispatch.kicks then s.dispatch.kicks else s.dispatch.kicks ++ [n]) ∧
      { t with queues := s.queues, dispatch := s.dispatch } = s)) ∧
    (look s.cqs n = none → idle s (.cqhead n v)) ∧
    (∀ q, look s.cqs n = some q → done s (.cqhead n v) (fun t => look t.cqs n = some { q with head := v % 2 ^ q.n } ∧
      (∀ j, j ≠ n → look t.cqs j = look s.cqs j) ∧ { t with cqs := s.cqs } = s)) ∧
    (s.ctl.bootState ≠ 3 → idle s (.chipid v)) ∧
    (s.ctl.bootState = 3 → done s (.chipid v) (fun t => t.ctl = { s.ctl with chipId := BitVec.ofNat 12 v, trained := true } ∧
      t.mgmt = { s.mgmt with keptChip := some (BitVec.ofNat 12 v) } ∧ { t with ctl := s.ctl, mgmt := s.mgmt } = s)) ∧
    (done s (.devstatOvfClear v) (fun t => t = { s with ctl := { s.ctl with ovf := t.ctl.ovf } } ∧ t.ctl.ovf.length = s.ctl.ovf.length ∧
      ∀ k < s.ctl.ovf.length, t.ctl.ovf.getD k false = (s.ctl.ovf.getD k false && !v.testBit k))) ∧
    (n < 4 → let keep := fun (t : State) (r : Ring) => look t.ctl.rings n = some r ∧ (∀ j, j ≠ n → look t.ctl.rings j = look s.ctl.rings j) ∧
        { t with ctl := { t.ctl with rings := s.ctl.rings } } = s
      done s (.ringSetupWrite n false v) (fun t => keep t { base := v / 4096 * 4096, size := (ringOf s n).size, head := 0, tail := 0 }) ∧
      ((v = 0 ∨ ∃ m, 4 ≤ m ∧ m ≤ 16 ∧ v = 2 ^ m) → done s (.ringSetupWrite n true v) (fun t =>
        keep t { base := (ringOf s n).base, size := v, head := 0, tail := 0 })) ∧
      (¬ (v = 0 ∨ ∃ m, 4 ≤ m ∧ m ≤ 16 ∧ v = 2 ^ m) → idle s (.ringSetupWrite n true v)) ∧
      (n ≠ 0 → (ringOf s n).size ≠ 0 → done s (.ringHeadWrite n v) (fun t => keep t { ringOf s n with head := v % (ringOf s n).size })) ∧
      (n = 0 ∨ (ringOf s n).size = 0 → idle s (.ringHeadWrite n v))) ∧
    (done s (.registerWrite 0xE0 v) (fun t => t = { s with ctl := { s.ctl with sigAddr := v % 2 ^ 64 } })) ∧
    ((ringOf s 0).size ≠ 0 → done s (.registerWrite 0x38 v) (fun t => look t.ctl.rings 0 = some { ringOf s 0 with tail := v % (ringOf s 0).size } ∧
      (∀ j, j ≠ 0 → look t.ctl.rings j = look s.ctl.rings j) ∧ { t with ctl := { t.ctl with rings := s.ctl.rings } } = s)) ∧
    (n ≠ 0xE0 → n ≠ 0x38 → idle s (.registerWrite n v))) ∧
  (∀ (s : State) (n r : Nat), s.ctl.ovf.length = 3 → s.ctl.bootState < 16 → s.ctl.bootErr < 256 → n < 1024 → 1 ≤ r → r < 4 →
    ctlRead s 0 = 0x0000D909 ∧ ctlRead s 0x10 = s.ctl.chipId.toNat ∧ ctlRead s 0x18 = 0 ∧ ctlRead s 0x40 = s.ctl.cmdDone ∧ ctlRead s 0xE0 = s.ctl.sigAddr ∧
    ctlRead s 0xC0 = 0 ∧ ctlRead s (0x8000 + 8 * n) = 0 ∧ ctlRead s (0x4000 + 8 * n) = 0 ∧ ctlRead s (0x40 + 0x20 * r) = (ringOf s r).base ∧
    ctlRead s (0x48 + 0x20 * r) = (ringOf s r).size ∧ ctlRead s (0x50 + 0x20 * r) = (ringOf s r).head ∧
    ctlRead s (0x58 + 0x20 * r) = (ringOf s r).tail ∧ ctlRead s 0x20 = (ringOf s 0).base ∧ ctlRead s 0x38 = (ringOf s 0).tail ∧
    let x := ctlRead s 0x08
    x % 16 = s.ctl.bootState ∧ x / 128 % 2 = s.ctl.staged.toNat ∧ x / 256 = s.ctl.bootErr ∧
    ∀ k < 3, x / 2 ^ (4 + k) % 2 = (s.ctl.ovf.getD k false).toNat) ∧
  (∀ (s : State), s.ctl.bootState ≠ 0 → done s (.warmReset 1) (fun t =>
    t.mem = s.mem ∧ (∀ p, p ∈ t.poison ↔ p ∈ s.poison ∧ ∃ a, p = .memory a) ∧ t.mgmt = nextImage s ∧ t.mgmt.fences = s.mgmt.fences ∧
    t.ctl = { Ctl.reset with bootState := 2, chipId := s.ctl.chipId } ∧
    t.now = s.now ∧ t.resetAt = s.now ∧
    { t with now := 0, resetAt := 0, sched := [], pace := [], fresh := 0, mem := [], poison := [], mgmt := Mgmt.reset, ctl := Ctl.reset } = State.reset)) ∧
  (∀ (s : State) (w : Nat), w ≠ 1 → s.ctl.tripped = false → idle s (.warmReset w)) ∧
  (∀ (s : State) (off n : Nat) (data : List Byte), s.ctl.bootState ≠ 5 →
    (∀ i ∈ [Instr.dmemAccess (.load off n), .orngAccess (.load off n)], done s i (fun t => ∃ bs, bs.length = n ∧
      t = { s with ctl := { s.ctl with reads := s.ctl.reads ++ [bs] } } ∧
      (i = .dmemAccess (.load off n) → ∀ k < n, off + k < 2 ^ 43 → ∀ d, homeDie (dmemAddr (off + k)) = some d →
        bs.getD k 0 = dieByte s d (dmemAddr (off + k))) ∧
      (i = .dmemAccess (.load off n) → ∀ k < n, target (dmemAddr (off + k)) = .none → bs.getD k 0 = 0xFF) ∧
      (i = .orngAccess (.load off n) → ∀ k < n, off + k < 2 ^ 30 → bs.getD k 0 = rd s.orangery (off + k)))) ∧
    (done s (.dmemAccess (.store off data)) (fun t => (∀ i < data.length, off + i < 2 ^ 43 → target (dmemAddr (off + i)) ≠ .none →
        rd t.mem (dmemAddr (off + i)) = data.getD i 0) ∧
      (∀ a, (∀ i < data.length, a ≠ dmemAddr (off + i)) → rd t.mem a = rd s.mem a) ∧ t.orangery = s.orangery ∧ t.waves = s.waves)) ∧
    (off + data.length ≤ 2 ^ 30 → done s (.orngAccess (.store off data)) (fun t => (∀ i < data.length,
        rd t.orangery (off + i) = if fixedAt s (off + i) = true then rd s.orangery (off + i) else data.getD i 0) ∧
      (∀ a, a < off ∨ off + data.length ≤ a → rd t.orangery a = rd s.orangery a) ∧ t.mem = s.mem ∧ t.waves = s.waves ∧
      (∀ p, p ∈ t.poison ↔ p ∈ s.poison ∧ ¬ ∃ g, p = .orangery g ∧ off ≤ g ∧ g + 8 ≤ off + data.length ∧ fixedAt s g = false))) ∧
    (2 ^ 30 ≤ off → off < 2 ^ 31 → data.length = 16 → ¬ (leNat data % 2 ^ 32 = 2 ∨ leNat data % 2 ^ 32 = 3 ∨ leNat data % 2 ^ 32 = 4) →
      done s (.orngAccess (.store off data)) (fun t => t.orangery = s.orangery ∧
        let h := leNat data / 2 ^ 64 % 2 ^ 64 / 32 * 32
        (∀ i < 28, rd t.mem (hostAt + h + i) = 0) ∧ rdN t.mem (hostAt + h + 28) 4 = 3))) ∧
  (∀ (s : State) (line slot gen host : Nat), s.ctl.bootState ≠ 5 →
    let off := line / 64 * 64
    let at' := hostAt + host / 32 * 32
    let answer := fun (t : State) (status : Nat) => rdN t.mem (at' + 28) 4 = status ∧ (status ≠ 0 → ∀ i < 28, rd t.mem (at' + i) = 0) ∧
      ∀ a, a < at' ∨ at' + 32 ≤ a → rd t.mem a = rd s.mem a
    let group := fun (t : State) (y : Nat) => ∀ k < 7, rdN t.mem (at' + 4 * k) 4 = ((resultGroup y).getD k 0).toNat
    let kept := fun (t : State) => t.orangery = s.orangery
    ((objAtLine s off = none ∨ (∃ x, objAtLine s off = some x ∧ objGet x .gen ≠ gen % 2 ^ 20)) →
      ∀ i ∈ [Instr.orngVget line gen host, .orngVpin line gen host, .orngVrel line slot gen host], done s i (fun t => answer t 1 ∧ kept t)) ∧
    (∀ x, objAtLine s off = some x → objGet x .gen = gen % 2 ^ 20 →
      done s (.orngVget line gen host) (fun t => answer t 0 ∧ kept t ∧ group t x) ∧
      (objGet x (.pin (objGet x .cur)) = 255 → done s (.orngVpin line gen host) (fun t => answer t 2 ∧ kept t)) ∧
      (objGet x (.pin (objGet x .cur)) ≠ 255 → done s (.orngVpin line gen host) (fun t =>
        let y := objSet x (.pin (objGet x .cur)) (objGet x (.pin (objGet x .cur)) + 1)
        answer t 0 ∧ group t y ∧ objRead t off = y % 2 ^ 392 ∧ ∀ a, a < off ∨ off + 64 ≤ a → rd t.orangery a = rd s.orangery a)) ∧
      (objGet x .km1 < slot % 8 ∨ objGet x (.pin (slot % 8)) = 0 → done s (.orngVrel line slot gen host) (fun t => answer t 2 ∧ kept t)) ∧
      (slot % 8 ≤ objGet x .km1 → objGet x (.pin (slot % 8)) ≠ 0 → done s (.orngVrel line slot gen host) (fun t =>
        let y := objSet x (.pin (slot % 8)) (objGet x (.pin (slot % 8)) - 1)
        answer t 0 ∧ group t y ∧ objRead t off = y % 2 ^ 392 ∧ ∀ a, a < off ∨ off + 64 ≤ a → rd t.orangery a = rd s.orangery a)))) ∧
  (∀ (s : State) (slot nonce k : Nat),
    let answers := fun (i : Instr) (r : SpdmReply) => done s i (fun t => t = { s with mgmt := { s.mgmt with spdm := s.mgmt.spdm ++ [r] } })
    (s.ctl.bootState = 4 → answers .getVersion (.version 1 3) ∧ answers .getCapabilities (.capabilities true true true false false) ∧
      answers .negotiateAlgorithms (.algorithms "RSASSA-PSS RSA-4096" "SHA-512") ∧ (∃ x, answers .getDigests (.digest 0 x)) ∧
      (∃ x, answers (.getCertificate 0) (.certificate 0 x)) ∧ (∃ x, answers (.challenge 0 nonce) (.signature x)) ∧
      (slot ≠ 0 → answers (.getCertificate slot) .error ∧ answers (.challenge slot nonce) .error) ∧
      (1 ≤ k → k ≤ 4 → answers (.getMeasurements k) (.measurement k (Config.digest (k :: measured s k)))) ∧
      (4 < k → answers (.getMeasurements k) .error)) ∧
    (s.ctl.bootState = 5 → ∀ i ∈ [Instr.getVersion, .getCapabilities, .negotiateAlgorithms, .getDigests, .getCertificate slot, .challenge slot nonce,
      .getMeasurements k], idle s i)) ∧
  (∀ (s : State) (f : Firmware), s.ctl.bootState = 4 ∨ s.ctl.bootState = 5 → done s (.pldmFirmwareUpdate f) (fun t =>
    let ok : Bool := f.signatureOk && decide (s.mgmt.minVersion ≤ f.version)
    t = { s with mgmt := { s.mgmt with inactive := some f, pldm := s.mgmt.pldm ++ [.update ok] }, ctl := { s.ctl with staged := ok } })) ∧
  (∀ (s : State) (k d c : Nat), s.ctl.bootState ≠ 5 → d < 8 →
    done s (.pldmMonitor k) (fun t => ∃ v, t.mgmt.pldm = s.mgmt.pldm ++ [.sensor k v] ∧ { t with mgmt := s.mgmt } = s) ∧
    (c < 1000 → done s (.counterRead d c) (fun t => t.mgmt.pldm = s.mgmt.pldm ++ [.counter d c ((look (s.die d).counters c).getD 0)] ∧
      look (t.die d).counters c = none ∧ (∀ j, j ≠ c → look (t.die d).counters j = look (s.die d).counters j) ∧ t.mem = s.mem)) ∧
    (1000 ≤ c → done s (.counterRead d c) (fun t => t.mgmt.pldm = s.mgmt.pldm ++ [.counter d c ((look (s.die d).misses (c - 1000)).getD 0)] ∧
      look (t.die d).misses (c - 1000) = none ∧ (t.die d).counters = (s.die d).counters ∧ t.mem = s.mem))) ∧
  (∀ (s : State) (e : Nat) (failed : List Nat),
    let goes := fun (st : Nat) => done s (.powerOnReset e failed) (fun t => t = { s with ctl := { s.ctl with bootState := st } })
    let fails := fun (n : Nat) => done s (.powerOnReset e failed) (fun t => t.ctl.bootState = 5 ∧ t.ctl.bootErr = n ∧ t.mem = s.mem ∧ t.ents = s.ents)
    (s.ctl.bootState = 0 → goes 1) ∧ (s.ctl.bootState = 1 → goes 2) ∧
    (s.ctl.bootState = 2 → (s.mgmt.active.signatureOk = false → fails 1) ∧
      (s.mgmt.active.signatureOk = true → s.mgmt.active.version < s.mgmt.minVersion → fails 2) ∧
      (s.mgmt.active.signatureOk = true → s.mgmt.minVersion ≤ s.mgmt.active.version → goes 3)) ∧
    (s.ctl.bootState = 3 → (e = 3 ∨ e = 4 → fails e) ∧
      (e ≠ 3 → e ≠ 4 → (∀ c < 512, c ∉ s.mgmt.fences → c ∈ failed) → fails 5) ∧
      (e ≠ 3 → e ≠ 4 → (∃ c < 512, c ∉ s.mgmt.fences ∧ c ∉ failed) → done s (.powerOnReset e failed) (fun t => t.ctl.bootState = 4 ∧
        (s.mgmt.keptChip.isSome = true → t.ctl.trained = true) ∧ t.mem = s.mem ∧ t.ents = s.ents))) ∧
    (4 ≤ s.ctl.bootState → done s (.powerOnReset e failed) (fun t => t.ctl.bootState = 1 ∧ t.mem = [] ∧ t.orangery = [] ∧ t.ents = [] ∧
      t.mgmt.fences = s.mgmt.fences)))

/-- R19 to R21, R126, R277, in the model's own terms (assumptions 1, 3 and 4): what `step` adds around `exec`. -/
def Obligations.StepRunsDecoded : Prop :=
  let timed := fun (s : State) => { s with now := s.now + s.pace.headD 1, pace := s.pace.tail }
  (∀ (s : State) (k : Nat) (e : Entity) (w : Word) (r : List Word) (i : Instr), s.sched = [] → s.focus = some k → look s.ents k = some e → e.buf = w :: r →
    e.park = .running → e.boundary = false → heldByGen (timed s) k e = false →
    haltedEnt (timed s) k e = false → (e.stalled = none ∨ (timed s).now % 2 = 1) →
    (decode w = some i ∨ (decode w = none ∧ i = .illegalWord w)) →
    (∀ t, exec i (remember (timed s) (coreOfKey k)) = .next t → step s = .next (afterWord t k (vectorHold (timed s) k w))) ∧
    (∀ f, exec i (remember (timed s) (coreOfKey k)) = .fault f → step s = .fault f) ∧
    (∀ f, exec i (remember (timed s) (coreOfKey k)) = .refused f → step s = .refused f)) ∧
  (∀ (s : State) (c : Nat), let t := remember s c
    { t with hist := s.hist, links := s.links, cores := s.cores } = s ∧ (∀ j, j ≠ c → look t.cores j = look s.cores j) ∧
    (∃ x, t.core c = { s.core c with crossed := x })) ∧
  (∀ (s : State) (k hold : Nat), let t := afterWord s k hold
    { t with focus := s.focus, cores := s.cores } = s ∧ (∀ j, (t.core j).data = (s.core j).data ∧ (t.core j).icache = (s.core j).icache)) ∧
  (∀ (s : State) (d : Instr) (r : List Instr), s.sched = d :: r → isDevice d = true → step s = exec d { timed s with sched := r }) ∧
  (∀ (s : State) (w : Word) (i : Instr), decode w = some i → ∃ u, step (placeWord s w) =
    (match exec i (remember u 0) with | .next t => .next (afterWord t 0 (vectorHold u 0 w)) | .fault f => .fault f | .refused f => .refused f) ∧
    u = timed (placeWord s w) ∧ u.focus = some 0 ∧ (look u.ents 0).map (fun e => e.buf) = some [w])

/-- R118 to R120, R127, R129, R130 and the worked words of the instruction files. -/
def Obligations.DecodeRight : Prop :=
  decode 0x1820C018#32 = some (.popcI64 false 4 6) ∧ decode 0x0228C385#32 = some (.div false 5 6 7) ∧
  decode 0x28404198#32 = some (.vfma false 8 2 3 0) ∧ decode 0x203082A0#32 = some (.vmulhu false 6 4 5 0) ∧
  decode 0x48408125#32 = some (.sld false 8 4 2 true 5) ∧ decode 0x402883E0#32 = some (.vld false 5 4 7 true 4 0) ∧
  decode 0x4A308419#32 = some (.vatom false 6 4 8 1 9) ∧ decode 0x4C21015A#32 = some (.ordx false 4 8 2 10) ∧
  decode 0x502A0A00#32 = some (.cpy false 5 16 20) ∧ decode 0xD2030000#32 = some (.twait true 24) ∧
  decode 0x58EB2802#32 = some (.mloop false 1 3 1 25 16) ∧ decode 0xE0518000#32 = some (.pass true 10 12) ∧
  decode 0x62400490#32 = some (.rinv false 8 0 9) ∧ decode 0x64080004#32 = some (.spawn false 0 8 4) ∧
  decode 0xEE000002#32 = some .ret ∧ decode 0xEE00028A#32 = some (.trap 5) ∧ decode 0xEE000001#32 = some .exit ∧
  decode 0xEE012007#32 = some (.pause true 9) ∧ decode 0xCE000040#32 = some (.gfence true) ∧
  decode 0x1820C098#32 = some (.popcI64 false 4 6) ∧ decode 0x00000000#32 = none ∧ decode 0x7E000000#32 = none

/-- R115 to R131: every instruction word has an encoding, no bit of it is dropped, and no encoding falls under another's. -/
def Obligations.DecodeEncode : Prop := ∀ i : Instr, Laws.RoundTrip.Statement i

/-- R301's reset column and R305's STATE 0; that memory reads 0 is assumption 2, and that every other register and table the spec
leaves open starts at 0, empty or off is assumption 9. -/
def Obligations.ResetState : Prop :=
  State.reset.ctl.bootState = 0 ∧ State.reset.ctl.bootErr = 0 ∧ State.reset.ctl.staged = false ∧ State.reset.ctl.ovf = [false, false, false] ∧
  State.reset.ctl.chipId = 0 ∧ State.reset.ctl.cmdDone = 0 ∧ (∀ r, (ringOf State.reset r).size = 0) ∧
  (∀ k, look State.reset.ents k = none ∧ look State.reset.queues k = none ∧ look State.reset.cqs k = none ∧ look State.reset.windows k = none ∧
    (State.reset.asid k).bound = false ∧ look State.reset.launches k = none) ∧
  Safety.canonical State.reset ∧ ∀ a, rd State.reset.mem a = 0 ∧ rd State.reset.orangery a = 0

/-- The canonical form of the memories (assumption 2): equal contents are equal data, in every state that a step reaches from such a state. -/
def Obligations.StepKeepsCanonical : Prop := ∀ s t : State, Safety.canonical s → step s = .next t → Safety.canonical t
end

