-- ==== Sys2Proof/Laws/Memory.lean ====
section
/-! SUPPORT. Sparse maps and memory: reads after writes, and that every memory operation keeps the canonical form. -/

namespace Sys2Proof.Laws

open Sys2Proof Sys2Proof.Machine

variable {α : Type}

/-! ### Maps -/

theorem look_put_same (m : NMap α) (k : Nat) (v : α) : look (put m k v) k = some v := by
  induction m with
  | nil => simp [put, look]
  | cons e r ih =>
    obtain ⟨j, u⟩ := e
    simp only [put]
    split
    · simp [look]
    · split
      · simp [look]
      · rename_i h1 h2
        simp [look, Ne.symm h2, ih]

theorem look_put_other (m : NMap α) (k j : Nat) (v : α) (h : j ≠ k) : look (put m k v) j = look m j := by
  induction m with
  | nil => simp [put, look, Ne.symm h]
  | cons e r ih =>
    obtain ⟨i, u⟩ := e
    simp only [put]
    split
    · simp [look, Ne.symm h]
    · split
      · rename_i h1 h2
        subst h2
        simp [look, Ne.symm h]
      · simp [look, ih]

theorem look_put (m : NMap α) (k j : Nat) (v : α) : look (put m k v) j = if j = k then some v else look m j := by
  split
  · subst_vars; exact look_put_same _ _ _
  · exact look_put_other _ _ _ _ ‹_›

theorem look_erase (m : NMap α) (k j : Nat) : look (erase m k) j = if j = k then none else look m j := by
  induction m with
  | nil => simp [erase, look]
  | cons e r ih =>
    obtain ⟨i, u⟩ := e
    have step : erase ((i, u) :: r) k = if i = k then erase r k else (i, u) :: erase r k := by
      by_cases hi : i = k <;> simp [erase, hi]
    rw [step]
    by_cases hi : i = k
    · rw [if_pos hi, ih]
      by_cases hj : j = k
      · simp [hj]
      · have : i ≠ j := by omega
        simp [hj, look, this]
    · rw [if_neg hi]
      by_cases hij : i = j
      · subst hij; simp [look, hi]
      · simp [look, hij, ih]

theorem keysAbove_mono {lo hi : Nat} {m : NMap α} (h : lo ≤ hi) (hm : keysAbove hi m = true) : keysAbove lo m = true := by
  cases m with
  | nil => rfl
  | cons e r =>
    simp only [keysAbove, Bool.and_eq_true, decide_eq_true_eq] at hm ⊢
    exact ⟨by omega, hm.2⟩

theorem keysAbove_put {lo k : Nat} {m : NMap α} (v : α) (h : lo < k) (hm : keysAbove lo m = true) : keysAbove lo (put m k v) = true := by
  induction m generalizing lo with
  | nil => simp [put, keysAbove, h]
  | cons e r ih =>
    obtain ⟨j, u⟩ := e
    simp only [keysAbove, Bool.and_eq_true, decide_eq_true_eq] at hm
    simp only [put]
    split
    · simp [keysAbove, hm.2, *]
    · split
      · subst_vars; simp [keysAbove, h, hm.2]
      · simp only [keysAbove, Bool.and_eq_true, decide_eq_true_eq]
        exact ⟨hm.1, ih (by omega) hm.2⟩

theorem nmapWf_put {m : NMap α} (k : Nat) (v : α) (hm : nmapWf m = true) : nmapWf (put m k v) = true := by
  cases m with
  | nil => simp [put, nmapWf, keysAbove]
  | cons e r =>
    obtain ⟨j, u⟩ := e
    simp only [nmapWf] at hm
    simp only [put]
    split
    · simp [nmapWf, keysAbove, *]
    · split
      · subst_vars; simpa [nmapWf] using hm
      · simp only [nmapWf]
        exact keysAbove_put v (by omega) hm

theorem keysAbove_erase {lo : Nat} {m : NMap α} (k : Nat) (hm : keysAbove lo m = true) : keysAbove lo (erase m k) = true := by
  induction m generalizing lo with
  | nil => rfl
  | cons e r ih =>
    obtain ⟨j, u⟩ := e
    simp only [keysAbove, Bool.and_eq_true, decide_eq_true_eq] at hm
    by_cases h : j = k
    · have : erase ((j, u) :: r) k = erase r k := by simp [erase, h]
      rw [this]
      exact keysAbove_mono (Nat.le_of_lt hm.1) (ih hm.2)
    · have : erase ((j, u) :: r) k = (j, u) :: erase r k := by simp [erase, h]
      rw [this]
      simp only [keysAbove, Bool.and_eq_true, decide_eq_true_eq]
      exact ⟨hm.1, ih hm.2⟩

theorem keysAbove_wf {lo : Nat} {m : NMap α} (hm : keysAbove lo m = true) : nmapWf m = true := by
  cases m with
  | nil => rfl
  | cons e r =>
    simp only [keysAbove, Bool.and_eq_true] at hm
    exact hm.2

theorem nmapWf_erase {m : NMap α} (k : Nat) (hm : nmapWf m = true) : nmapWf (erase m k) = true := by
  cases m with
  | nil => rfl
  | cons e r =>
    obtain ⟨j, u⟩ := e
    simp only [nmapWf] at hm
    by_cases h : j = k
    · have : erase ((j, u) :: r) k = erase r k := by simp [erase, h]
      rw [this]
      exact keysAbove_wf (keysAbove_erase k hm)
    · have : erase ((j, u) :: r) k = (j, u) :: erase r k := by simp [erase, h]
      rw [this]
      simp only [nmapWf]
      exact keysAbove_erase k hm

/-! ### Memory -/

theorem all_put {p : Nat × α → Bool} {m : NMap α} {k : Nat} {v : α} (hv : p (k, v) = true) (hm : m.all p = true) : (put m k v).all p = true := by
  induction m with
  | nil => simp [put, hv]
  | cons e r ih =>
    obtain ⟨j, u⟩ := e
    simp only [List.all_cons, Bool.and_eq_true] at hm
    simp only [put]
    split
    · simp only [List.all_cons, Bool.and_eq_true]; exact ⟨hv, hm.1, hm.2⟩
    · split
      · simp only [List.all_cons, Bool.and_eq_true]; exact ⟨hv, hm.2⟩
      · simp only [List.all_cons, Bool.and_eq_true]; exact ⟨hm.1, ih hm.2⟩

/-- Every memory operation keeps the canonical form: one byte written. -/
@[simp] theorem wr_wf {m : Memory} (a : Nat) (b : Byte) (hm : memWf m = true) : memWf (wr m a b) = true := by
  simp only [memWf, Bool.and_eq_true] at hm ⊢
  unfold wr
  split
  · refine ⟨nmapWf_erase a hm.1, ?_⟩
    rw [List.all_eq_true] at *
    exact fun x hx => hm.2 x (List.mem_filter.mp hx).1
  · exact ⟨nmapWf_put a b hm.1, all_put (by simpa using ‹_›) hm.2⟩

/-- Bytes written keep the canonical form. -/
@[simp] theorem wrBytes_wf {m : Memory} (a : Nat) (l : List Byte) (hm : memWf m = true) : memWf (wrBytes m a l) = true := by
  induction l generalizing m a with
  | nil => exact hm
  | cons b r ih => exact ih (a + 1) (wr_wf a b hm)

/-- A value written keeps the canonical form. -/
@[simp] theorem wrN_wf {m : Memory} (a n v : Nat) (hm : memWf m = true) : memWf (wrN m a n v) = true := wrBytes_wf a _ hm

/-- A byte written is read back. -/
theorem rd_wr_same (m : Memory) (a : Nat) (b : Byte) : rd (wr m a b) a = b := by
  unfold rd wr
  split
  · simp [look_erase, *]
  · simp [look_put_same]

/-- A write of one byte leaves every other byte. -/
theorem rd_wr_other (m : Memory) (a x : Nat) (b : Byte) (h : x ≠ a) : rd (wr m a b) x = rd m x := by
  unfold rd wr
  split
  · simp [look_erase, h]
  · simp [look_put_other _ _ _ _ h]

/-- Bytes written leave every byte outside them. -/
theorem rd_wrBytes_out (m : Memory) (a x : Nat) (l : List Byte) (h : x < a ∨ a + l.length ≤ x) : rd (wrBytes m a l) x = rd m x := by
  induction l generalizing m a with
  | nil => rfl
  | cons b r ih =>
    simp only [List.length_cons] at h
    rw [wrBytes, ih _ _ (by omega), rd_wr_other _ _ _ _ (by omega)]

/-- Bytes written are read back. -/
theorem rd_wrBytes_in (m : Memory) (a i : Nat) (l : List Byte) (h : i < l.length) : rd (wrBytes m a l) (a + i) = l[i] := by
  induction l generalizing m a i with
  | nil => simp at h
  | cons b r ih =>
    rw [wrBytes]
    cases i with
    | zero => rw [rd_wrBytes_out _ _ _ _ (by omega)]; simpa using rd_wr_same m a b
    | succ n =>
      have : a + (n + 1) = a + 1 + n := by omega
      rw [this, ih _ _ _ (by simpa using h)]
      rfl

end Sys2Proof.Laws
end

