-- ==== Sys2Proof/Laws/State.lean ====
section
/-! SUPPORT. What each update of the state and of an entity sets and what it leaves: one lemma for each field, so that no proof unfolds a record
update. -/

namespace Sys2Proof.Laws

open Sys2Proof Sys2Proof.Machine

/-! ### Updates of the state -/

@[simp] theorem setEnt_now (s : State) (n : Nat) (x : Entity) : (s.setEnt n x).now = s.now := rfl
@[simp] theorem setEnt_resetAt (s : State) (n : Nat) (x : Entity) : (s.setEnt n x).resetAt = s.resetAt := rfl
@[simp] theorem setEnt_sched (s : State) (n : Nat) (x : Entity) : (s.setEnt n x).sched = s.sched := rfl
@[simp] theorem setEnt_pace (s : State) (n : Nat) (x : Entity) : (s.setEnt n x).pace = s.pace := rfl
@[simp] theorem setEnt_focus (s : State) (n : Nat) (x : Entity) : (s.setEnt n x).focus = s.focus := rfl
@[simp] theorem setEnt_hist (s : State) (n : Nat) (x : Entity) : (s.setEnt n x).hist = s.hist := rfl
@[simp] theorem setEnt_links (s : State) (n : Nat) (x : Entity) : (s.setEnt n x).links = s.links := rfl
@[simp] theorem setEnt_fresh (s : State) (n : Nat) (x : Entity) : (s.setEnt n x).fresh = s.fresh := rfl
@[simp] theorem setEnt_mem (s : State) (n : Nat) (x : Entity) : (s.setEnt n x).mem = s.mem := rfl
@[simp] theorem setEnt_order (s : State) (n : Nat) (x : Entity) : (s.setEnt n x).order = s.order := rfl
@[simp] theorem setEnt_orangery (s : State) (n : Nat) (x : Entity) : (s.setEnt n x).orangery = s.orangery := rfl
@[simp] theorem setEnt_poison (s : State) (n : Nat) (x : Entity) : (s.setEnt n x).poison = s.poison := rfl
@[simp] theorem setEnt_ents (s : State) (n : Nat) (x : Entity) : (s.setEnt n x).ents = put s.ents n x := rfl
@[simp] theorem setEnt_waves (s : State) (n : Nat) (x : Entity) : (s.setEnt n x).waves = s.waves := rfl
@[simp] theorem setEnt_blocks (s : State) (n : Nat) (x : Entity) : (s.setEnt n x).blocks = s.blocks := rfl
@[simp] theorem setEnt_gangs (s : State) (n : Nat) (x : Entity) : (s.setEnt n x).gangs = s.gangs := rfl
@[simp] theorem setEnt_launches (s : State) (n : Nat) (x : Entity) : (s.setEnt n x).launches = s.launches := rfl
@[simp] theorem setEnt_trees (s : State) (n : Nat) (x : Entity) : (s.setEnt n x).trees = s.trees := rfl
@[simp] theorem setEnt_spilled (s : State) (n : Nat) (x : Entity) : (s.setEnt n x).spilled = s.spilled := rfl
@[simp] theorem setEnt_cores (s : State) (n : Nat) (x : Entity) : (s.setEnt n x).cores = s.cores := rfl
@[simp] theorem setEnt_dies (s : State) (n : Nat) (x : Entity) : (s.setEnt n x).dies = s.dies := rfl
@[simp] theorem setEnt_pavs (s : State) (n : Nat) (x : Entity) : (s.setEnt n x).pavs = s.pavs := rfl
@[simp] theorem setEnt_queues (s : State) (n : Nat) (x : Entity) : (s.setEnt n x).queues = s.queues := rfl
@[simp] theorem setEnt_cqs (s : State) (n : Nat) (x : Entity) : (s.setEnt n x).cqs = s.cqs := rfl
@[simp] theorem setEnt_asids (s : State) (n : Nat) (x : Entity) : (s.setEnt n x).asids = s.asids := rfl
@[simp] theorem setEnt_vfs (s : State) (n : Nat) (x : Entity) : (s.setEnt n x).vfs = s.vfs := rfl
@[simp] theorem setEnt_rxqs (s : State) (n : Nat) (x : Entity) : (s.setEnt n x).rxqs = s.rxqs := rfl
@[simp] theorem setEnt_windows (s : State) (n : Nat) (x : Entity) : (s.setEnt n x).windows = s.windows := rfl
@[simp] theorem setEnt_homeQ (s : State) (n : Nat) (x : Entity) : (s.setEnt n x).homeQ = s.homeQ := rfl
@[simp] theorem setEnt_replies (s : State) (n : Nat) (x : Entity) : (s.setEnt n x).replies = s.replies := rfl
@[simp] theorem setEnt_bankQ (s : State) (n : Nat) (x : Entity) : (s.setEnt n x).bankQ = s.bankQ := rfl
@[simp] theorem setEnt_passQ (s : State) (n : Nat) (x : Entity) : (s.setEnt n x).passQ = s.passQ := rfl
@[simp] theorem setEnt_answers (s : State) (n : Nat) (x : Entity) : (s.setEnt n x).answers = s.answers := rfl
@[simp] theorem setEnt_icinvs (s : State) (n : Nat) (x : Entity) : (s.setEnt n x).icinvs = s.icinvs := rfl
@[simp] theorem setEnt_packets (s : State) (n : Nat) (x : Entity) : (s.setEnt n x).packets = s.packets := rfl
@[simp] theorem setEnt_statuses (s : State) (n : Nat) (x : Entity) : (s.setEnt n x).statuses = s.statuses := rfl
@[simp] theorem setEnt_acks (s : State) (n : Nat) (x : Entity) : (s.setEnt n x).acks = s.acks := rfl
@[simp] theorem setEnt_sends (s : State) (n : Nat) (x : Entity) : (s.setEnt n x).sends = s.sends := rfl
@[simp] theorem setEnt_fabric (s : State) (n : Nat) (x : Entity) : (s.setEnt n x).fabric = s.fabric := rfl
@[simp] theorem setEnt_fabricAcks (s : State) (n : Nat) (x : Entity) : (s.setEnt n x).fabricAcks = s.fabricAcks := rfl
@[simp] theorem setEnt_pathsDown (s : State) (n : Nat) (x : Entity) : (s.setEnt n x).pathsDown = s.pathsDown := rfl
@[simp] theorem setEnt_contexts (s : State) (n : Nat) (x : Entity) : (s.setEnt n x).contexts = s.contexts := rfl
@[simp] theorem setEnt_dispatch (s : State) (n : Nat) (x : Entity) : (s.setEnt n x).dispatch = s.dispatch := rfl
@[simp] theorem setEnt_ctl (s : State) (n : Nat) (x : Entity) : (s.setEnt n x).ctl = s.ctl := rfl
@[simp] theorem setEnt_mgmt (s : State) (n : Nat) (x : Entity) : (s.setEnt n x).mgmt = s.mgmt := rfl

@[simp] theorem setWave_now (s : State) (n : Nat) (x : Wave) : (s.setWave n x).now = s.now := rfl
@[simp] theorem setWave_resetAt (s : State) (n : Nat) (x : Wave) : (s.setWave n x).resetAt = s.resetAt := rfl
@[simp] theorem setWave_sched (s : State) (n : Nat) (x : Wave) : (s.setWave n x).sched = s.sched := rfl
@[simp] theorem setWave_pace (s : State) (n : Nat) (x : Wave) : (s.setWave n x).pace = s.pace := rfl
@[simp] theorem setWave_focus (s : State) (n : Nat) (x : Wave) : (s.setWave n x).focus = s.focus := rfl
@[simp] theorem setWave_hist (s : State) (n : Nat) (x : Wave) : (s.setWave n x).hist = s.hist := rfl
@[simp] theorem setWave_links (s : State) (n : Nat) (x : Wave) : (s.setWave n x).links = s.links := rfl
@[simp] theorem setWave_fresh (s : State) (n : Nat) (x : Wave) : (s.setWave n x).fresh = s.fresh := rfl
@[simp] theorem setWave_mem (s : State) (n : Nat) (x : Wave) : (s.setWave n x).mem = s.mem := rfl
@[simp] theorem setWave_order (s : State) (n : Nat) (x : Wave) : (s.setWave n x).order = s.order := rfl
@[simp] theorem setWave_orangery (s : State) (n : Nat) (x : Wave) : (s.setWave n x).orangery = s.orangery := rfl
@[simp] theorem setWave_poison (s : State) (n : Nat) (x : Wave) : (s.setWave n x).poison = s.poison := rfl
@[simp] theorem setWave_ents (s : State) (n : Nat) (x : Wave) : (s.setWave n x).ents = s.ents := rfl
@[simp] theorem setWave_waves (s : State) (n : Nat) (x : Wave) : (s.setWave n x).waves = put s.waves n x := rfl
@[simp] theorem setWave_blocks (s : State) (n : Nat) (x : Wave) : (s.setWave n x).blocks = s.blocks := rfl
@[simp] theorem setWave_gangs (s : State) (n : Nat) (x : Wave) : (s.setWave n x).gangs = s.gangs := rfl
@[simp] theorem setWave_launches (s : State) (n : Nat) (x : Wave) : (s.setWave n x).launches = s.launches := rfl
@[simp] theorem setWave_trees (s : State) (n : Nat) (x : Wave) : (s.setWave n x).trees = s.trees := rfl
@[simp] theorem setWave_spilled (s : State) (n : Nat) (x : Wave) : (s.setWave n x).spilled = s.spilled := rfl
@[simp] theorem setWave_cores (s : State) (n : Nat) (x : Wave) : (s.setWave n x).cores = s.cores := rfl
@[simp] theorem setWave_dies (s : State) (n : Nat) (x : Wave) : (s.setWave n x).dies = s.dies := rfl
@[simp] theorem setWave_pavs (s : State) (n : Nat) (x : Wave) : (s.setWave n x).pavs = s.pavs := rfl
@[simp] theorem setWave_queues (s : State) (n : Nat) (x : Wave) : (s.setWave n x).queues = s.queues := rfl
@[simp] theorem setWave_cqs (s : State) (n : Nat) (x : Wave) : (s.setWave n x).cqs = s.cqs := rfl
@[simp] theorem setWave_asids (s : State) (n : Nat) (x : Wave) : (s.setWave n x).asids = s.asids := rfl
@[simp] theorem setWave_vfs (s : State) (n : Nat) (x : Wave) : (s.setWave n x).vfs = s.vfs := rfl
@[simp] theorem setWave_rxqs (s : State) (n : Nat) (x : Wave) : (s.setWave n x).rxqs = s.rxqs := rfl
@[simp] theorem setWave_windows (s : State) (n : Nat) (x : Wave) : (s.setWave n x).windows = s.windows := rfl
@[simp] theorem setWave_homeQ (s : State) (n : Nat) (x : Wave) : (s.setWave n x).homeQ = s.homeQ := rfl
@[simp] theorem setWave_replies (s : State) (n : Nat) (x : Wave) : (s.setWave n x).replies = s.replies := rfl
@[simp] theorem setWave_bankQ (s : State) (n : Nat) (x : Wave) : (s.setWave n x).bankQ = s.bankQ := rfl
@[simp] theorem setWave_passQ (s : State) (n : Nat) (x : Wave) : (s.setWave n x).passQ = s.passQ := rfl
@[simp] theorem setWave_answers (s : State) (n : Nat) (x : Wave) : (s.setWave n x).answers = s.answers := rfl
@[simp] theorem setWave_icinvs (s : State) (n : Nat) (x : Wave) : (s.setWave n x).icinvs = s.icinvs := rfl
@[simp] theorem setWave_packets (s : State) (n : Nat) (x : Wave) : (s.setWave n x).packets = s.packets := rfl
@[simp] theorem setWave_statuses (s : State) (n : Nat) (x : Wave) : (s.setWave n x).statuses = s.statuses := rfl
@[simp] theorem setWave_acks (s : State) (n : Nat) (x : Wave) : (s.setWave n x).acks = s.acks := rfl
@[simp] theorem setWave_sends (s : State) (n : Nat) (x : Wave) : (s.setWave n x).sends = s.sends := rfl
@[simp] theorem setWave_fabric (s : State) (n : Nat) (x : Wave) : (s.setWave n x).fabric = s.fabric := rfl
@[simp] theorem setWave_fabricAcks (s : State) (n : Nat) (x : Wave) : (s.setWave n x).fabricAcks = s.fabricAcks := rfl
@[simp] theorem setWave_pathsDown (s : State) (n : Nat) (x : Wave) : (s.setWave n x).pathsDown = s.pathsDown := rfl
@[simp] theorem setWave_contexts (s : State) (n : Nat) (x : Wave) : (s.setWave n x).contexts = s.contexts := rfl
@[simp] theorem setWave_dispatch (s : State) (n : Nat) (x : Wave) : (s.setWave n x).dispatch = s.dispatch := rfl
@[simp] theorem setWave_ctl (s : State) (n : Nat) (x : Wave) : (s.setWave n x).ctl = s.ctl := rfl
@[simp] theorem setWave_mgmt (s : State) (n : Nat) (x : Wave) : (s.setWave n x).mgmt = s.mgmt := rfl

@[simp] theorem setBlock_now (s : State) (n : Nat) (x : Block) : (s.setBlock n x).now = s.now := rfl
@[simp] theorem setBlock_resetAt (s : State) (n : Nat) (x : Block) : (s.setBlock n x).resetAt = s.resetAt := rfl
@[simp] theorem setBlock_sched (s : State) (n : Nat) (x : Block) : (s.setBlock n x).sched = s.sched := rfl
@[simp] theorem setBlock_pace (s : State) (n : Nat) (x : Block) : (s.setBlock n x).pace = s.pace := rfl
@[simp] theorem setBlock_focus (s : State) (n : Nat) (x : Block) : (s.setBlock n x).focus = s.focus := rfl
@[simp] theorem setBlock_hist (s : State) (n : Nat) (x : Block) : (s.setBlock n x).hist = s.hist := rfl
@[simp] theorem setBlock_links (s : State) (n : Nat) (x : Block) : (s.setBlock n x).links = s.links := rfl
@[simp] theorem setBlock_fresh (s : State) (n : Nat) (x : Block) : (s.setBlock n x).fresh = s.fresh := rfl
@[simp] theorem setBlock_mem (s : State) (n : Nat) (x : Block) : (s.setBlock n x).mem = s.mem := rfl
@[simp] theorem setBlock_order (s : State) (n : Nat) (x : Block) : (s.setBlock n x).order = s.order := rfl
@[simp] theorem setBlock_orangery (s : State) (n : Nat) (x : Block) : (s.setBlock n x).orangery = s.orangery := rfl
@[simp] theorem setBlock_poison (s : State) (n : Nat) (x : Block) : (s.setBlock n x).poison = s.poison := rfl
@[simp] theorem setBlock_ents (s : State) (n : Nat) (x : Block) : (s.setBlock n x).ents = s.ents := rfl
@[simp] theorem setBlock_waves (s : State) (n : Nat) (x : Block) : (s.setBlock n x).waves = s.waves := rfl
@[simp] theorem setBlock_blocks (s : State) (n : Nat) (x : Block) : (s.setBlock n x).blocks = put s.blocks n x := rfl
@[simp] theorem setBlock_gangs (s : State) (n : Nat) (x : Block) : (s.setBlock n x).gangs = s.gangs := rfl
@[simp] theorem setBlock_launches (s : State) (n : Nat) (x : Block) : (s.setBlock n x).launches = s.launches := rfl
@[simp] theorem setBlock_trees (s : State) (n : Nat) (x : Block) : (s.setBlock n x).trees = s.trees := rfl
@[simp] theorem setBlock_spilled (s : State) (n : Nat) (x : Block) : (s.setBlock n x).spilled = s.spilled := rfl
@[simp] theorem setBlock_cores (s : State) (n : Nat) (x : Block) : (s.setBlock n x).cores = s.cores := rfl
@[simp] theorem setBlock_dies (s : State) (n : Nat) (x : Block) : (s.setBlock n x).dies = s.dies := rfl
@[simp] theorem setBlock_pavs (s : State) (n : Nat) (x : Block) : (s.setBlock n x).pavs = s.pavs := rfl
@[simp] theorem setBlock_queues (s : State) (n : Nat) (x : Block) : (s.setBlock n x).queues = s.queues := rfl
@[simp] theorem setBlock_cqs (s : State) (n : Nat) (x : Block) : (s.setBlock n x).cqs = s.cqs := rfl
@[simp] theorem setBlock_asids (s : State) (n : Nat) (x : Block) : (s.setBlock n x).asids = s.asids := rfl
@[simp] theorem setBlock_vfs (s : State) (n : Nat) (x : Block) : (s.setBlock n x).vfs = s.vfs := rfl
@[simp] theorem setBlock_rxqs (s : State) (n : Nat) (x : Block) : (s.setBlock n x).rxqs = s.rxqs := rfl
@[simp] theorem setBlock_windows (s : State) (n : Nat) (x : Block) : (s.setBlock n x).windows = s.windows := rfl
@[simp] theorem setBlock_homeQ (s : State) (n : Nat) (x : Block) : (s.setBlock n x).homeQ = s.homeQ := rfl
@[simp] theorem setBlock_replies (s : State) (n : Nat) (x : Block) : (s.setBlock n x).replies = s.replies := rfl
@[simp] theorem setBlock_bankQ (s : State) (n : Nat) (x : Block) : (s.setBlock n x).bankQ = s.bankQ := rfl
@[simp] theorem setBlock_passQ (s : State) (n : Nat) (x : Block) : (s.setBlock n x).passQ = s.passQ := rfl
@[simp] theorem setBlock_answers (s : State) (n : Nat) (x : Block) : (s.setBlock n x).answers = s.answers := rfl
@[simp] theorem setBlock_icinvs (s : State) (n : Nat) (x : Block) : (s.setBlock n x).icinvs = s.icinvs := rfl
@[simp] theorem setBlock_packets (s : State) (n : Nat) (x : Block) : (s.setBlock n x).packets = s.packets := rfl
@[simp] theorem setBlock_statuses (s : State) (n : Nat) (x : Block) : (s.setBlock n x).statuses = s.statuses := rfl
@[simp] theorem setBlock_acks (s : State) (n : Nat) (x : Block) : (s.setBlock n x).acks = s.acks := rfl
@[simp] theorem setBlock_sends (s : State) (n : Nat) (x : Block) : (s.setBlock n x).sends = s.sends := rfl
@[simp] theorem setBlock_fabric (s : State) (n : Nat) (x : Block) : (s.setBlock n x).fabric = s.fabric := rfl
@[simp] theorem setBlock_fabricAcks (s : State) (n : Nat) (x : Block) : (s.setBlock n x).fabricAcks = s.fabricAcks := rfl
@[simp] theorem setBlock_pathsDown (s : State) (n : Nat) (x : Block) : (s.setBlock n x).pathsDown = s.pathsDown := rfl
@[simp] theorem setBlock_contexts (s : State) (n : Nat) (x : Block) : (s.setBlock n x).contexts = s.contexts := rfl
@[simp] theorem setBlock_dispatch (s : State) (n : Nat) (x : Block) : (s.setBlock n x).dispatch = s.dispatch := rfl
@[simp] theorem setBlock_ctl (s : State) (n : Nat) (x : Block) : (s.setBlock n x).ctl = s.ctl := rfl
@[simp] theorem setBlock_mgmt (s : State) (n : Nat) (x : Block) : (s.setBlock n x).mgmt = s.mgmt := rfl

@[simp] theorem setGang_now (s : State) (n : Nat) (x : Gang) : (s.setGang n x).now = s.now := rfl
@[simp] theorem setGang_resetAt (s : State) (n : Nat) (x : Gang) : (s.setGang n x).resetAt = s.resetAt := rfl
@[simp] theorem setGang_sched (s : State) (n : Nat) (x : Gang) : (s.setGang n x).sched = s.sched := rfl
@[simp] theorem setGang_pace (s : State) (n : Nat) (x : Gang) : (s.setGang n x).pace = s.pace := rfl
@[simp] theorem setGang_focus (s : State) (n : Nat) (x : Gang) : (s.setGang n x).focus = s.focus := rfl
@[simp] theorem setGang_hist (s : State) (n : Nat) (x : Gang) : (s.setGang n x).hist = s.hist := rfl
@[simp] theorem setGang_links (s : State) (n : Nat) (x : Gang) : (s.setGang n x).links = s.links := rfl
@[simp] theorem setGang_fresh (s : State) (n : Nat) (x : Gang) : (s.setGang n x).fresh = s.fresh := rfl
@[simp] theorem setGang_mem (s : State) (n : Nat) (x : Gang) : (s.setGang n x).mem = s.mem := rfl
@[simp] theorem setGang_order (s : State) (n : Nat) (x : Gang) : (s.setGang n x).order = s.order := rfl
@[simp] theorem setGang_orangery (s : State) (n : Nat) (x : Gang) : (s.setGang n x).orangery = s.orangery := rfl
@[simp] theorem setGang_poison (s : State) (n : Nat) (x : Gang) : (s.setGang n x).poison = s.poison := rfl
@[simp] theorem setGang_ents (s : State) (n : Nat) (x : Gang) : (s.setGang n x).ents = s.ents := rfl
@[simp] theorem setGang_waves (s : State) (n : Nat) (x : Gang) : (s.setGang n x).waves = s.waves := rfl
@[simp] theorem setGang_blocks (s : State) (n : Nat) (x : Gang) : (s.setGang n x).blocks = s.blocks := rfl
@[simp] theorem setGang_gangs (s : State) (n : Nat) (x : Gang) : (s.setGang n x).gangs = put s.gangs n x := rfl
@[simp] theorem setGang_launches (s : State) (n : Nat) (x : Gang) : (s.setGang n x).launches = s.launches := rfl
@[simp] theorem setGang_trees (s : State) (n : Nat) (x : Gang) : (s.setGang n x).trees = s.trees := rfl
@[simp] theorem setGang_spilled (s : State) (n : Nat) (x : Gang) : (s.setGang n x).spilled = s.spilled := rfl
@[simp] theorem setGang_cores (s : State) (n : Nat) (x : Gang) : (s.setGang n x).cores = s.cores := rfl
@[simp] theorem setGang_dies (s : State) (n : Nat) (x : Gang) : (s.setGang n x).dies = s.dies := rfl
@[simp] theorem setGang_pavs (s : State) (n : Nat) (x : Gang) : (s.setGang n x).pavs = s.pavs := rfl
@[simp] theorem setGang_queues (s : State) (n : Nat) (x : Gang) : (s.setGang n x).queues = s.queues := rfl
@[simp] theorem setGang_cqs (s : State) (n : Nat) (x : Gang) : (s.setGang n x).cqs = s.cqs := rfl
@[simp] theorem setGang_asids (s : State) (n : Nat) (x : Gang) : (s.setGang n x).asids = s.asids := rfl
@[simp] theorem setGang_vfs (s : State) (n : Nat) (x : Gang) : (s.setGang n x).vfs = s.vfs := rfl
@[simp] theorem setGang_rxqs (s : State) (n : Nat) (x : Gang) : (s.setGang n x).rxqs = s.rxqs := rfl
@[simp] theorem setGang_windows (s : State) (n : Nat) (x : Gang) : (s.setGang n x).windows = s.windows := rfl
@[simp] theorem setGang_homeQ (s : State) (n : Nat) (x : Gang) : (s.setGang n x).homeQ = s.homeQ := rfl
@[simp] theorem setGang_replies (s : State) (n : Nat) (x : Gang) : (s.setGang n x).replies = s.replies := rfl
@[simp] theorem setGang_bankQ (s : State) (n : Nat) (x : Gang) : (s.setGang n x).bankQ = s.bankQ := rfl
@[simp] theorem setGang_passQ (s : State) (n : Nat) (x : Gang) : (s.setGang n x).passQ = s.passQ := rfl
@[simp] theorem setGang_answers (s : State) (n : Nat) (x : Gang) : (s.setGang n x).answers = s.answers := rfl
@[simp] theorem setGang_icinvs (s : State) (n : Nat) (x : Gang) : (s.setGang n x).icinvs = s.icinvs := rfl
@[simp] theorem setGang_packets (s : State) (n : Nat) (x : Gang) : (s.setGang n x).packets = s.packets := rfl
@[simp] theorem setGang_statuses (s : State) (n : Nat) (x : Gang) : (s.setGang n x).statuses = s.statuses := rfl
@[simp] theorem setGang_acks (s : State) (n : Nat) (x : Gang) : (s.setGang n x).acks = s.acks := rfl
@[simp] theorem setGang_sends (s : State) (n : Nat) (x : Gang) : (s.setGang n x).sends = s.sends := rfl
@[simp] theorem setGang_fabric (s : State) (n : Nat) (x : Gang) : (s.setGang n x).fabric = s.fabric := rfl
@[simp] theorem setGang_fabricAcks (s : State) (n : Nat) (x : Gang) : (s.setGang n x).fabricAcks = s.fabricAcks := rfl
@[simp] theorem setGang_pathsDown (s : State) (n : Nat) (x : Gang) : (s.setGang n x).pathsDown = s.pathsDown := rfl
@[simp] theorem setGang_contexts (s : State) (n : Nat) (x : Gang) : (s.setGang n x).contexts = s.contexts := rfl
@[simp] theorem setGang_dispatch (s : State) (n : Nat) (x : Gang) : (s.setGang n x).dispatch = s.dispatch := rfl
@[simp] theorem setGang_ctl (s : State) (n : Nat) (x : Gang) : (s.setGang n x).ctl = s.ctl := rfl
@[simp] theorem setGang_mgmt (s : State) (n : Nat) (x : Gang) : (s.setGang n x).mgmt = s.mgmt := rfl

@[simp] theorem setLaunch_now (s : State) (n : Nat) (x : Launch) : (s.setLaunch n x).now = s.now := rfl
@[simp] theorem setLaunch_resetAt (s : State) (n : Nat) (x : Launch) : (s.setLaunch n x).resetAt = s.resetAt := rfl
@[simp] theorem setLaunch_sched (s : State) (n : Nat) (x : Launch) : (s.setLaunch n x).sched = s.sched := rfl
@[simp] theorem setLaunch_pace (s : State) (n : Nat) (x : Launch) : (s.setLaunch n x).pace = s.pace := rfl
@[simp] theorem setLaunch_focus (s : State) (n : Nat) (x : Launch) : (s.setLaunch n x).focus = s.focus := rfl
@[simp] theorem setLaunch_hist (s : State) (n : Nat) (x : Launch) : (s.setLaunch n x).hist = s.hist := rfl
@[simp] theorem setLaunch_links (s : State) (n : Nat) (x : Launch) : (s.setLaunch n x).links = s.links := rfl
@[simp] theorem setLaunch_fresh (s : State) (n : Nat) (x : Launch) : (s.setLaunch n x).fresh = s.fresh := rfl
@[simp] theorem setLaunch_mem (s : State) (n : Nat) (x : Launch) : (s.setLaunch n x).mem = s.mem := rfl
@[simp] theorem setLaunch_order (s : State) (n : Nat) (x : Launch) : (s.setLaunch n x).order = s.order := rfl
@[simp] theorem setLaunch_orangery (s : State) (n : Nat) (x : Launch) : (s.setLaunch n x).orangery = s.orangery := rfl
@[simp] theorem setLaunch_poison (s : State) (n : Nat) (x : Launch) : (s.setLaunch n x).poison = s.poison := rfl
@[simp] theorem setLaunch_ents (s : State) (n : Nat) (x : Launch) : (s.setLaunch n x).ents = s.ents := rfl
@[simp] theorem setLaunch_waves (s : State) (n : Nat) (x : Launch) : (s.setLaunch n x).waves = s.waves := rfl
@[simp] theorem setLaunch_blocks (s : State) (n : Nat) (x : Launch) : (s.setLaunch n x).blocks = s.blocks := rfl
@[simp] theorem setLaunch_gangs (s : State) (n : Nat) (x : Launch) : (s.setLaunch n x).gangs = s.gangs := rfl
@[simp] theorem setLaunch_launches (s : State) (n : Nat) (x : Launch) : (s.setLaunch n x).launches = put s.launches n x := rfl
@[simp] theorem setLaunch_trees (s : State) (n : Nat) (x : Launch) : (s.setLaunch n x).trees = s.trees := rfl
@[simp] theorem setLaunch_spilled (s : State) (n : Nat) (x : Launch) : (s.setLaunch n x).spilled = s.spilled := rfl
@[simp] theorem setLaunch_cores (s : State) (n : Nat) (x : Launch) : (s.setLaunch n x).cores = s.cores := rfl
@[simp] theorem setLaunch_dies (s : State) (n : Nat) (x : Launch) : (s.setLaunch n x).dies = s.dies := rfl
@[simp] theorem setLaunch_pavs (s : State) (n : Nat) (x : Launch) : (s.setLaunch n x).pavs = s.pavs := rfl
@[simp] theorem setLaunch_queues (s : State) (n : Nat) (x : Launch) : (s.setLaunch n x).queues = s.queues := rfl
@[simp] theorem setLaunch_cqs (s : State) (n : Nat) (x : Launch) : (s.setLaunch n x).cqs = s.cqs := rfl
@[simp] theorem setLaunch_asids (s : State) (n : Nat) (x : Launch) : (s.setLaunch n x).asids = s.asids := rfl
@[simp] theorem setLaunch_vfs (s : State) (n : Nat) (x : Launch) : (s.setLaunch n x).vfs = s.vfs := rfl
@[simp] theorem setLaunch_rxqs (s : State) (n : Nat) (x : Launch) : (s.setLaunch n x).rxqs = s.rxqs := rfl
@[simp] theorem setLaunch_windows (s : State) (n : Nat) (x : Launch) : (s.setLaunch n x).windows = s.windows := rfl
@[simp] theorem setLaunch_homeQ (s : State) (n : Nat) (x : Launch) : (s.setLaunch n x).homeQ = s.homeQ := rfl
@[simp] theorem setLaunch_replies (s : State) (n : Nat) (x : Launch) : (s.setLaunch n x).replies = s.replies := rfl
@[simp] theorem setLaunch_bankQ (s : State) (n : Nat) (x : Launch) : (s.setLaunch n x).bankQ = s.bankQ := rfl
@[simp] theorem setLaunch_passQ (s : State) (n : Nat) (x : Launch) : (s.setLaunch n x).passQ = s.passQ := rfl
@[simp] theorem setLaunch_answers (s : State) (n : Nat) (x : Launch) : (s.setLaunch n x).answers = s.answers := rfl
@[simp] theorem setLaunch_icinvs (s : State) (n : Nat) (x : Launch) : (s.setLaunch n x).icinvs = s.icinvs := rfl
@[simp] theorem setLaunch_packets (s : State) (n : Nat) (x : Launch) : (s.setLaunch n x).packets = s.packets := rfl
@[simp] theorem setLaunch_statuses (s : State) (n : Nat) (x : Launch) : (s.setLaunch n x).statuses = s.statuses := rfl
@[simp] theorem setLaunch_acks (s : State) (n : Nat) (x : Launch) : (s.setLaunch n x).acks = s.acks := rfl
@[simp] theorem setLaunch_sends (s : State) (n : Nat) (x : Launch) : (s.setLaunch n x).sends = s.sends := rfl
@[simp] theorem setLaunch_fabric (s : State) (n : Nat) (x : Launch) : (s.setLaunch n x).fabric = s.fabric := rfl
@[simp] theorem setLaunch_fabricAcks (s : State) (n : Nat) (x : Launch) : (s.setLaunch n x).fabricAcks = s.fabricAcks := rfl
@[simp] theorem setLaunch_pathsDown (s : State) (n : Nat) (x : Launch) : (s.setLaunch n x).pathsDown = s.pathsDown := rfl
@[simp] theorem setLaunch_contexts (s : State) (n : Nat) (x : Launch) : (s.setLaunch n x).contexts = s.contexts := rfl
@[simp] theorem setLaunch_dispatch (s : State) (n : Nat) (x : Launch) : (s.setLaunch n x).dispatch = s.dispatch := rfl
@[simp] theorem setLaunch_ctl (s : State) (n : Nat) (x : Launch) : (s.setLaunch n x).ctl = s.ctl := rfl
@[simp] theorem setLaunch_mgmt (s : State) (n : Nat) (x : Launch) : (s.setLaunch n x).mgmt = s.mgmt := rfl

@[simp] theorem setTree_now (s : State) (n : Nat) (x : Tree) : (s.setTree n x).now = s.now := rfl
@[simp] theorem setTree_resetAt (s : State) (n : Nat) (x : Tree) : (s.setTree n x).resetAt = s.resetAt := rfl
@[simp] theorem setTree_sched (s : State) (n : Nat) (x : Tree) : (s.setTree n x).sched = s.sched := rfl
@[simp] theorem setTree_pace (s : State) (n : Nat) (x : Tree) : (s.setTree n x).pace = s.pace := rfl
@[simp] theorem setTree_focus (s : State) (n : Nat) (x : Tree) : (s.setTree n x).focus = s.focus := rfl
@[simp] theorem setTree_hist (s : State) (n : Nat) (x : Tree) : (s.setTree n x).hist = s.hist := rfl
@[simp] theorem setTree_links (s : State) (n : Nat) (x : Tree) : (s.setTree n x).links = s.links := rfl
@[simp] theorem setTree_fresh (s : State) (n : Nat) (x : Tree) : (s.setTree n x).fresh = s.fresh := rfl
@[simp] theorem setTree_mem (s : State) (n : Nat) (x : Tree) : (s.setTree n x).mem = s.mem := rfl
@[simp] theorem setTree_order (s : State) (n : Nat) (x : Tree) : (s.setTree n x).order = s.order := rfl
@[simp] theorem setTree_orangery (s : State) (n : Nat) (x : Tree) : (s.setTree n x).orangery = s.orangery := rfl
@[simp] theorem setTree_poison (s : State) (n : Nat) (x : Tree) : (s.setTree n x).poison = s.poison := rfl
@[simp] theorem setTree_ents (s : State) (n : Nat) (x : Tree) : (s.setTree n x).ents = s.ents := rfl
@[simp] theorem setTree_waves (s : State) (n : Nat) (x : Tree) : (s.setTree n x).waves = s.waves := rfl
@[simp] theorem setTree_blocks (s : State) (n : Nat) (x : Tree) : (s.setTree n x).blocks = s.blocks := rfl
@[simp] theorem setTree_gangs (s : State) (n : Nat) (x : Tree) : (s.setTree n x).gangs = s.gangs := rfl
@[simp] theorem setTree_launches (s : State) (n : Nat) (x : Tree) : (s.setTree n x).launches = s.launches := rfl
@[simp] theorem setTree_trees (s : State) (n : Nat) (x : Tree) : (s.setTree n x).trees = put s.trees n x := rfl
@[simp] theorem setTree_spilled (s : State) (n : Nat) (x : Tree) : (s.setTree n x).spilled = s.spilled := rfl
@[simp] theorem setTree_cores (s : State) (n : Nat) (x : Tree) : (s.setTree n x).cores = s.cores := rfl
@[simp] theorem setTree_dies (s : State) (n : Nat) (x : Tree) : (s.setTree n x).dies = s.dies := rfl
@[simp] theorem setTree_pavs (s : State) (n : Nat) (x : Tree) : (s.setTree n x).pavs = s.pavs := rfl
@[simp] theorem setTree_queues (s : State) (n : Nat) (x : Tree) : (s.setTree n x).queues = s.queues := rfl
@[simp] theorem setTree_cqs (s : State) (n : Nat) (x : Tree) : (s.setTree n x).cqs = s.cqs := rfl
@[simp] theorem setTree_asids (s : State) (n : Nat) (x : Tree) : (s.setTree n x).asids = s.asids := rfl
@[simp] theorem setTree_vfs (s : State) (n : Nat) (x : Tree) : (s.setTree n x).vfs = s.vfs := rfl
@[simp] theorem setTree_rxqs (s : State) (n : Nat) (x : Tree) : (s.setTree n x).rxqs = s.rxqs := rfl
@[simp] theorem setTree_windows (s : State) (n : Nat) (x : Tree) : (s.setTree n x).windows = s.windows := rfl
@[simp] theorem setTree_homeQ (s : State) (n : Nat) (x : Tree) : (s.setTree n x).homeQ = s.homeQ := rfl
@[simp] theorem setTree_replies (s : State) (n : Nat) (x : Tree) : (s.setTree n x).replies = s.replies := rfl
@[simp] theorem setTree_bankQ (s : State) (n : Nat) (x : Tree) : (s.setTree n x).bankQ = s.bankQ := rfl
@[simp] theorem setTree_passQ (s : State) (n : Nat) (x : Tree) : (s.setTree n x).passQ = s.passQ := rfl
@[simp] theorem setTree_answers (s : State) (n : Nat) (x : Tree) : (s.setTree n x).answers = s.answers := rfl
@[simp] theorem setTree_icinvs (s : State) (n : Nat) (x : Tree) : (s.setTree n x).icinvs = s.icinvs := rfl
@[simp] theorem setTree_packets (s : State) (n : Nat) (x : Tree) : (s.setTree n x).packets = s.packets := rfl
@[simp] theorem setTree_statuses (s : State) (n : Nat) (x : Tree) : (s.setTree n x).statuses = s.statuses := rfl
@[simp] theorem setTree_acks (s : State) (n : Nat) (x : Tree) : (s.setTree n x).acks = s.acks := rfl
@[simp] theorem setTree_sends (s : State) (n : Nat) (x : Tree) : (s.setTree n x).sends = s.sends := rfl
@[simp] theorem setTree_fabric (s : State) (n : Nat) (x : Tree) : (s.setTree n x).fabric = s.fabric := rfl
@[simp] theorem setTree_fabricAcks (s : State) (n : Nat) (x : Tree) : (s.setTree n x).fabricAcks = s.fabricAcks := rfl
@[simp] theorem setTree_pathsDown (s : State) (n : Nat) (x : Tree) : (s.setTree n x).pathsDown = s.pathsDown := rfl
@[simp] theorem setTree_contexts (s : State) (n : Nat) (x : Tree) : (s.setTree n x).contexts = s.contexts := rfl
@[simp] theorem setTree_dispatch (s : State) (n : Nat) (x : Tree) : (s.setTree n x).dispatch = s.dispatch := rfl
@[simp] theorem setTree_ctl (s : State) (n : Nat) (x : Tree) : (s.setTree n x).ctl = s.ctl := rfl
@[simp] theorem setTree_mgmt (s : State) (n : Nat) (x : Tree) : (s.setTree n x).mgmt = s.mgmt := rfl

@[simp] theorem setCore_now (s : State) (n : Nat) (x : Core) : (s.setCore n x).now = s.now := rfl
@[simp] theorem setCore_resetAt (s : State) (n : Nat) (x : Core) : (s.setCore n x).resetAt = s.resetAt := rfl
@[simp] theorem setCore_sched (s : State) (n : Nat) (x : Core) : (s.setCore n x).sched = s.sched := rfl
@[simp] theorem setCore_pace (s : State) (n : Nat) (x : Core) : (s.setCore n x).pace = s.pace := rfl
@[simp] theorem setCore_focus (s : State) (n : Nat) (x : Core) : (s.setCore n x).focus = s.focus := rfl
@[simp] theorem setCore_hist (s : State) (n : Nat) (x : Core) : (s.setCore n x).hist = s.hist := rfl
@[simp] theorem setCore_links (s : State) (n : Nat) (x : Core) : (s.setCore n x).links = s.links := rfl
@[simp] theorem setCore_fresh (s : State) (n : Nat) (x : Core) : (s.setCore n x).fresh = s.fresh := rfl
@[simp] theorem setCore_mem (s : State) (n : Nat) (x : Core) : (s.setCore n x).mem = s.mem := rfl
@[simp] theorem setCore_order (s : State) (n : Nat) (x : Core) : (s.setCore n x).order = s.order := rfl
@[simp] theorem setCore_orangery (s : State) (n : Nat) (x : Core) : (s.setCore n x).orangery = s.orangery := rfl
@[simp] theorem setCore_poison (s : State) (n : Nat) (x : Core) : (s.setCore n x).poison = s.poison := rfl
@[simp] theorem setCore_ents (s : State) (n : Nat) (x : Core) : (s.setCore n x).ents = s.ents := rfl
@[simp] theorem setCore_waves (s : State) (n : Nat) (x : Core) : (s.setCore n x).waves = s.waves := rfl
@[simp] theorem setCore_blocks (s : State) (n : Nat) (x : Core) : (s.setCore n x).blocks = s.blocks := rfl
@[simp] theorem setCore_gangs (s : State) (n : Nat) (x : Core) : (s.setCore n x).gangs = s.gangs := rfl
@[simp] theorem setCore_launches (s : State) (n : Nat) (x : Core) : (s.setCore n x).launches = s.launches := rfl
@[simp] theorem setCore_trees (s : State) (n : Nat) (x : Core) : (s.setCore n x).trees = s.trees := rfl
@[simp] theorem setCore_spilled (s : State) (n : Nat) (x : Core) : (s.setCore n x).spilled = s.spilled := rfl
@[simp] theorem setCore_cores (s : State) (n : Nat) (x : Core) : (s.setCore n x).cores = put s.cores n x := rfl
@[simp] theorem setCore_dies (s : State) (n : Nat) (x : Core) : (s.setCore n x).dies = s.dies := rfl
@[simp] theorem setCore_pavs (s : State) (n : Nat) (x : Core) : (s.setCore n x).pavs = s.pavs := rfl
@[simp] theorem setCore_queues (s : State) (n : Nat) (x : Core) : (s.setCore n x).queues = s.queues := rfl
@[simp] theorem setCore_cqs (s : State) (n : Nat) (x : Core) : (s.setCore n x).cqs = s.cqs := rfl
@[simp] theorem setCore_asids (s : State) (n : Nat) (x : Core) : (s.setCore n x).asids = s.asids := rfl
@[simp] theorem setCore_vfs (s : State) (n : Nat) (x : Core) : (s.setCore n x).vfs = s.vfs := rfl
@[simp] theorem setCore_rxqs (s : State) (n : Nat) (x : Core) : (s.setCore n x).rxqs = s.rxqs := rfl
@[simp] theorem setCore_windows (s : State) (n : Nat) (x : Core) : (s.setCore n x).windows = s.windows := rfl
@[simp] theorem setCore_homeQ (s : State) (n : Nat) (x : Core) : (s.setCore n x).homeQ = s.homeQ := rfl
@[simp] theorem setCore_replies (s : State) (n : Nat) (x : Core) : (s.setCore n x).replies = s.replies := rfl
@[simp] theorem setCore_bankQ (s : State) (n : Nat) (x : Core) : (s.setCore n x).bankQ = s.bankQ := rfl
@[simp] theorem setCore_passQ (s : State) (n : Nat) (x : Core) : (s.setCore n x).passQ = s.passQ := rfl
@[simp] theorem setCore_answers (s : State) (n : Nat) (x : Core) : (s.setCore n x).answers = s.answers := rfl
@[simp] theorem setCore_icinvs (s : State) (n : Nat) (x : Core) : (s.setCore n x).icinvs = s.icinvs := rfl
@[simp] theorem setCore_packets (s : State) (n : Nat) (x : Core) : (s.setCore n x).packets = s.packets := rfl
@[simp] theorem setCore_statuses (s : State) (n : Nat) (x : Core) : (s.setCore n x).statuses = s.statuses := rfl
@[simp] theorem setCore_acks (s : State) (n : Nat) (x : Core) : (s.setCore n x).acks = s.acks := rfl
@[simp] theorem setCore_sends (s : State) (n : Nat) (x : Core) : (s.setCore n x).sends = s.sends := rfl
@[simp] theorem setCore_fabric (s : State) (n : Nat) (x : Core) : (s.setCore n x).fabric = s.fabric := rfl
@[simp] theorem setCore_fabricAcks (s : State) (n : Nat) (x : Core) : (s.setCore n x).fabricAcks = s.fabricAcks := rfl
@[simp] theorem setCore_pathsDown (s : State) (n : Nat) (x : Core) : (s.setCore n x).pathsDown = s.pathsDown := rfl
@[simp] theorem setCore_contexts (s : State) (n : Nat) (x : Core) : (s.setCore n x).contexts = s.contexts := rfl
@[simp] theorem setCore_dispatch (s : State) (n : Nat) (x : Core) : (s.setCore n x).dispatch = s.dispatch := rfl
@[simp] theorem setCore_ctl (s : State) (n : Nat) (x : Core) : (s.setCore n x).ctl = s.ctl := rfl
@[simp] theorem setCore_mgmt (s : State) (n : Nat) (x : Core) : (s.setCore n x).mgmt = s.mgmt := rfl

@[simp] theorem setDie_now (s : State) (n : Nat) (x : Die) : (s.setDie n x).now = s.now := rfl
@[simp] theorem setDie_resetAt (s : State) (n : Nat) (x : Die) : (s.setDie n x).resetAt = s.resetAt := rfl
@[simp] theorem setDie_sched (s : State) (n : Nat) (x : Die) : (s.setDie n x).sched = s.sched := rfl
@[simp] theorem setDie_pace (s : State) (n : Nat) (x : Die) : (s.setDie n x).pace = s.pace := rfl
@[simp] theorem setDie_focus (s : State) (n : Nat) (x : Die) : (s.setDie n x).focus = s.focus := rfl
@[simp] theorem setDie_hist (s : State) (n : Nat) (x : Die) : (s.setDie n x).hist = s.hist := rfl
@[simp] theorem setDie_links (s : State) (n : Nat) (x : Die) : (s.setDie n x).links = s.links := rfl
@[simp] theorem setDie_fresh (s : State) (n : Nat) (x : Die) : (s.setDie n x).fresh = s.fresh := rfl
@[simp] theorem setDie_mem (s : State) (n : Nat) (x : Die) : (s.setDie n x).mem = s.mem := rfl
@[simp] theorem setDie_order (s : State) (n : Nat) (x : Die) : (s.setDie n x).order = s.order := rfl
@[simp] theorem setDie_orangery (s : State) (n : Nat) (x : Die) : (s.setDie n x).orangery = s.orangery := rfl
@[simp] theorem setDie_poison (s : State) (n : Nat) (x : Die) : (s.setDie n x).poison = s.poison := rfl
@[simp] theorem setDie_ents (s : State) (n : Nat) (x : Die) : (s.setDie n x).ents = s.ents := rfl
@[simp] theorem setDie_waves (s : State) (n : Nat) (x : Die) : (s.setDie n x).waves = s.waves := rfl
@[simp] theorem setDie_blocks (s : State) (n : Nat) (x : Die) : (s.setDie n x).blocks = s.blocks := rfl
@[simp] theorem setDie_gangs (s : State) (n : Nat) (x : Die) : (s.setDie n x).gangs = s.gangs := rfl
@[simp] theorem setDie_launches (s : State) (n : Nat) (x : Die) : (s.setDie n x).launches = s.launches := rfl
@[simp] theorem setDie_trees (s : State) (n : Nat) (x : Die) : (s.setDie n x).trees = s.trees := rfl
@[simp] theorem setDie_spilled (s : State) (n : Nat) (x : Die) : (s.setDie n x).spilled = s.spilled := rfl
@[simp] theorem setDie_cores (s : State) (n : Nat) (x : Die) : (s.setDie n x).cores = s.cores := rfl
@[simp] theorem setDie_dies (s : State) (n : Nat) (x : Die) : (s.setDie n x).dies = put s.dies n x := rfl
@[simp] theorem setDie_pavs (s : State) (n : Nat) (x : Die) : (s.setDie n x).pavs = s.pavs := rfl
@[simp] theorem setDie_queues (s : State) (n : Nat) (x : Die) : (s.setDie n x).queues = s.queues := rfl
@[simp] theorem setDie_cqs (s : State) (n : Nat) (x : Die) : (s.setDie n x).cqs = s.cqs := rfl
@[simp] theorem setDie_asids (s : State) (n : Nat) (x : Die) : (s.setDie n x).asids = s.asids := rfl
@[simp] theorem setDie_vfs (s : State) (n : Nat) (x : Die) : (s.setDie n x).vfs = s.vfs := rfl
@[simp] theorem setDie_rxqs (s : State) (n : Nat) (x : Die) : (s.setDie n x).rxqs = s.rxqs := rfl
@[simp] theorem setDie_windows (s : State) (n : Nat) (x : Die) : (s.setDie n x).windows = s.windows := rfl
@[simp] theorem setDie_homeQ (s : State) (n : Nat) (x : Die) : (s.setDie n x).homeQ = s.homeQ := rfl
@[simp] theorem setDie_replies (s : State) (n : Nat) (x : Die) : (s.setDie n x).replies = s.replies := rfl
@[simp] theorem setDie_bankQ (s : State) (n : Nat) (x : Die) : (s.setDie n x).bankQ = s.bankQ := rfl
@[simp] theorem setDie_passQ (s : State) (n : Nat) (x : Die) : (s.setDie n x).passQ = s.passQ := rfl
@[simp] theorem setDie_answers (s : State) (n : Nat) (x : Die) : (s.setDie n x).answers = s.answers := rfl
@[simp] theorem setDie_icinvs (s : State) (n : Nat) (x : Die) : (s.setDie n x).icinvs = s.icinvs := rfl
@[simp] theorem setDie_packets (s : State) (n : Nat) (x : Die) : (s.setDie n x).packets = s.packets := rfl
@[simp] theorem setDie_statuses (s : State) (n : Nat) (x : Die) : (s.setDie n x).statuses = s.statuses := rfl
@[simp] theorem setDie_acks (s : State) (n : Nat) (x : Die) : (s.setDie n x).acks = s.acks := rfl
@[simp] theorem setDie_sends (s : State) (n : Nat) (x : Die) : (s.setDie n x).sends = s.sends := rfl
@[simp] theorem setDie_fabric (s : State) (n : Nat) (x : Die) : (s.setDie n x).fabric = s.fabric := rfl
@[simp] theorem setDie_fabricAcks (s : State) (n : Nat) (x : Die) : (s.setDie n x).fabricAcks = s.fabricAcks := rfl
@[simp] theorem setDie_pathsDown (s : State) (n : Nat) (x : Die) : (s.setDie n x).pathsDown = s.pathsDown := rfl
@[simp] theorem setDie_contexts (s : State) (n : Nat) (x : Die) : (s.setDie n x).contexts = s.contexts := rfl
@[simp] theorem setDie_dispatch (s : State) (n : Nat) (x : Die) : (s.setDie n x).dispatch = s.dispatch := rfl
@[simp] theorem setDie_ctl (s : State) (n : Nat) (x : Die) : (s.setDie n x).ctl = s.ctl := rfl
@[simp] theorem setDie_mgmt (s : State) (n : Nat) (x : Die) : (s.setDie n x).mgmt = s.mgmt := rfl

@[simp] theorem setPav_now (s : State) (n : Nat) (x : Pavilion) : (s.setPav n x).now = s.now := rfl
@[simp] theorem setPav_resetAt (s : State) (n : Nat) (x : Pavilion) : (s.setPav n x).resetAt = s.resetAt := rfl
@[simp] theorem setPav_sched (s : State) (n : Nat) (x : Pavilion) : (s.setPav n x).sched = s.sched := rfl
@[simp] theorem setPav_pace (s : State) (n : Nat) (x : Pavilion) : (s.setPav n x).pace = s.pace := rfl
@[simp] theorem setPav_focus (s : State) (n : Nat) (x : Pavilion) : (s.setPav n x).focus = s.focus := rfl
@[simp] theorem setPav_hist (s : State) (n : Nat) (x : Pavilion) : (s.setPav n x).hist = s.hist := rfl
@[simp] theorem setPav_links (s : State) (n : Nat) (x : Pavilion) : (s.setPav n x).links = s.links := rfl
@[simp] theorem setPav_fresh (s : State) (n : Nat) (x : Pavilion) : (s.setPav n x).fresh = s.fresh := rfl
@[simp] theorem setPav_mem (s : State) (n : Nat) (x : Pavilion) : (s.setPav n x).mem = s.mem := rfl
@[simp] theorem setPav_order (s : State) (n : Nat) (x : Pavilion) : (s.setPav n x).order = s.order := rfl
@[simp] theorem setPav_orangery (s : State) (n : Nat) (x : Pavilion) : (s.setPav n x).orangery = s.orangery := rfl
@[simp] theorem setPav_poison (s : State) (n : Nat) (x : Pavilion) : (s.setPav n x).poison = s.poison := rfl
@[simp] theorem setPav_ents (s : State) (n : Nat) (x : Pavilion) : (s.setPav n x).ents = s.ents := rfl
@[simp] theorem setPav_waves (s : State) (n : Nat) (x : Pavilion) : (s.setPav n x).waves = s.waves := rfl
@[simp] theorem setPav_blocks (s : State) (n : Nat) (x : Pavilion) : (s.setPav n x).blocks = s.blocks := rfl
@[simp] theorem setPav_gangs (s : State) (n : Nat) (x : Pavilion) : (s.setPav n x).gangs = s.gangs := rfl
@[simp] theorem setPav_launches (s : State) (n : Nat) (x : Pavilion) : (s.setPav n x).launches = s.launches := rfl
@[simp] theorem setPav_trees (s : State) (n : Nat) (x : Pavilion) : (s.setPav n x).trees = s.trees := rfl
@[simp] theorem setPav_spilled (s : State) (n : Nat) (x : Pavilion) : (s.setPav n x).spilled = s.spilled := rfl
@[simp] theorem setPav_cores (s : State) (n : Nat) (x : Pavilion) : (s.setPav n x).cores = s.cores := rfl
@[simp] theorem setPav_dies (s : State) (n : Nat) (x : Pavilion) : (s.setPav n x).dies = s.dies := rfl
@[simp] theorem setPav_pavs (s : State) (n : Nat) (x : Pavilion) : (s.setPav n x).pavs = put s.pavs n x := rfl
@[simp] theorem setPav_queues (s : State) (n : Nat) (x : Pavilion) : (s.setPav n x).queues = s.queues := rfl
@[simp] theorem setPav_cqs (s : State) (n : Nat) (x : Pavilion) : (s.setPav n x).cqs = s.cqs := rfl
@[simp] theorem setPav_asids (s : State) (n : Nat) (x : Pavilion) : (s.setPav n x).asids = s.asids := rfl
@[simp] theorem setPav_vfs (s : State) (n : Nat) (x : Pavilion) : (s.setPav n x).vfs = s.vfs := rfl
@[simp] theorem setPav_rxqs (s : State) (n : Nat) (x : Pavilion) : (s.setPav n x).rxqs = s.rxqs := rfl
@[simp] theorem setPav_windows (s : State) (n : Nat) (x : Pavilion) : (s.setPav n x).windows = s.windows := rfl
@[simp] theorem setPav_homeQ (s : State) (n : Nat) (x : Pavilion) : (s.setPav n x).homeQ = s.homeQ := rfl
@[simp] theorem setPav_replies (s : State) (n : Nat) (x : Pavilion) : (s.setPav n x).replies = s.replies := rfl
@[simp] theorem setPav_bankQ (s : State) (n : Nat) (x : Pavilion) : (s.setPav n x).bankQ = s.bankQ := rfl
@[simp] theorem setPav_passQ (s : State) (n : Nat) (x : Pavilion) : (s.setPav n x).passQ = s.passQ := rfl
@[simp] theorem setPav_answers (s : State) (n : Nat) (x : Pavilion) : (s.setPav n x).answers = s.answers := rfl
@[simp] theorem setPav_icinvs (s : State) (n : Nat) (x : Pavilion) : (s.setPav n x).icinvs = s.icinvs := rfl
@[simp] theorem setPav_packets (s : State) (n : Nat) (x : Pavilion) : (s.setPav n x).packets = s.packets := rfl
@[simp] theorem setPav_statuses (s : State) (n : Nat) (x : Pavilion) : (s.setPav n x).statuses = s.statuses := rfl
@[simp] theorem setPav_acks (s : State) (n : Nat) (x : Pavilion) : (s.setPav n x).acks = s.acks := rfl
@[simp] theorem setPav_sends (s : State) (n : Nat) (x : Pavilion) : (s.setPav n x).sends = s.sends := rfl
@[simp] theorem setPav_fabric (s : State) (n : Nat) (x : Pavilion) : (s.setPav n x).fabric = s.fabric := rfl
@[simp] theorem setPav_fabricAcks (s : State) (n : Nat) (x : Pavilion) : (s.setPav n x).fabricAcks = s.fabricAcks := rfl
@[simp] theorem setPav_pathsDown (s : State) (n : Nat) (x : Pavilion) : (s.setPav n x).pathsDown = s.pathsDown := rfl
@[simp] theorem setPav_contexts (s : State) (n : Nat) (x : Pavilion) : (s.setPav n x).contexts = s.contexts := rfl
@[simp] theorem setPav_dispatch (s : State) (n : Nat) (x : Pavilion) : (s.setPav n x).dispatch = s.dispatch := rfl
@[simp] theorem setPav_ctl (s : State) (n : Nat) (x : Pavilion) : (s.setPav n x).ctl = s.ctl := rfl
@[simp] theorem setPav_mgmt (s : State) (n : Nat) (x : Pavilion) : (s.setPav n x).mgmt = s.mgmt := rfl

@[simp] theorem setAsid_now (s : State) (n : Nat) (x : Asid) : (s.setAsid n x).now = s.now := rfl
@[simp] theorem setAsid_resetAt (s : State) (n : Nat) (x : Asid) : (s.setAsid n x).resetAt = s.resetAt := rfl
@[simp] theorem setAsid_sched (s : State) (n : Nat) (x : Asid) : (s.setAsid n x).sched = s.sched := rfl
@[simp] theorem setAsid_pace (s : State) (n : Nat) (x : Asid) : (s.setAsid n x).pace = s.pace := rfl
@[simp] theorem setAsid_focus (s : State) (n : Nat) (x : Asid) : (s.setAsid n x).focus = s.focus := rfl
@[simp] theorem setAsid_hist (s : State) (n : Nat) (x : Asid) : (s.setAsid n x).hist = s.hist := rfl
@[simp] theorem setAsid_links (s : State) (n : Nat) (x : Asid) : (s.setAsid n x).links = s.links := rfl
@[simp] theorem setAsid_fresh (s : State) (n : Nat) (x : Asid) : (s.setAsid n x).fresh = s.fresh := rfl
@[simp] theorem setAsid_mem (s : State) (n : Nat) (x : Asid) : (s.setAsid n x).mem = s.mem := rfl
@[simp] theorem setAsid_order (s : State) (n : Nat) (x : Asid) : (s.setAsid n x).order = s.order := rfl
@[simp] theorem setAsid_orangery (s : State) (n : Nat) (x : Asid) : (s.setAsid n x).orangery = s.orangery := rfl
@[simp] theorem setAsid_poison (s : State) (n : Nat) (x : Asid) : (s.setAsid n x).poison = s.poison := rfl
@[simp] theorem setAsid_ents (s : State) (n : Nat) (x : Asid) : (s.setAsid n x).ents = s.ents := rfl
@[simp] theorem setAsid_waves (s : State) (n : Nat) (x : Asid) : (s.setAsid n x).waves = s.waves := rfl
@[simp] theorem setAsid_blocks (s : State) (n : Nat) (x : Asid) : (s.setAsid n x).blocks = s.blocks := rfl
@[simp] theorem setAsid_gangs (s : State) (n : Nat) (x : Asid) : (s.setAsid n x).gangs = s.gangs := rfl
@[simp] theorem setAsid_launches (s : State) (n : Nat) (x : Asid) : (s.setAsid n x).launches = s.launches := rfl
@[simp] theorem setAsid_trees (s : State) (n : Nat) (x : Asid) : (s.setAsid n x).trees = s.trees := rfl
@[simp] theorem setAsid_spilled (s : State) (n : Nat) (x : Asid) : (s.setAsid n x).spilled = s.spilled := rfl
@[simp] theorem setAsid_cores (s : State) (n : Nat) (x : Asid) : (s.setAsid n x).cores = s.cores := rfl
@[simp] theorem setAsid_dies (s : State) (n : Nat) (x : Asid) : (s.setAsid n x).dies = s.dies := rfl
@[simp] theorem setAsid_pavs (s : State) (n : Nat) (x : Asid) : (s.setAsid n x).pavs = s.pavs := rfl
@[simp] theorem setAsid_queues (s : State) (n : Nat) (x : Asid) : (s.setAsid n x).queues = s.queues := rfl
@[simp] theorem setAsid_cqs (s : State) (n : Nat) (x : Asid) : (s.setAsid n x).cqs = s.cqs := rfl
@[simp] theorem setAsid_asids (s : State) (n : Nat) (x : Asid) : (s.setAsid n x).asids = put s.asids n x := rfl
@[simp] theorem setAsid_vfs (s : State) (n : Nat) (x : Asid) : (s.setAsid n x).vfs = s.vfs := rfl
@[simp] theorem setAsid_rxqs (s : State) (n : Nat) (x : Asid) : (s.setAsid n x).rxqs = s.rxqs := rfl
@[simp] theorem setAsid_windows (s : State) (n : Nat) (x : Asid) : (s.setAsid n x).windows = s.windows := rfl
@[simp] theorem setAsid_homeQ (s : State) (n : Nat) (x : Asid) : (s.setAsid n x).homeQ = s.homeQ := rfl
@[simp] theorem setAsid_replies (s : State) (n : Nat) (x : Asid) : (s.setAsid n x).replies = s.replies := rfl
@[simp] theorem setAsid_bankQ (s : State) (n : Nat) (x : Asid) : (s.setAsid n x).bankQ = s.bankQ := rfl
@[simp] theorem setAsid_passQ (s : State) (n : Nat) (x : Asid) : (s.setAsid n x).passQ = s.passQ := rfl
@[simp] theorem setAsid_answers (s : State) (n : Nat) (x : Asid) : (s.setAsid n x).answers = s.answers := rfl
@[simp] theorem setAsid_icinvs (s : State) (n : Nat) (x : Asid) : (s.setAsid n x).icinvs = s.icinvs := rfl
@[simp] theorem setAsid_packets (s : State) (n : Nat) (x : Asid) : (s.setAsid n x).packets = s.packets := rfl
@[simp] theorem setAsid_statuses (s : State) (n : Nat) (x : Asid) : (s.setAsid n x).statuses = s.statuses := rfl
@[simp] theorem setAsid_acks (s : State) (n : Nat) (x : Asid) : (s.setAsid n x).acks = s.acks := rfl
@[simp] theorem setAsid_sends (s : State) (n : Nat) (x : Asid) : (s.setAsid n x).sends = s.sends := rfl
@[simp] theorem setAsid_fabric (s : State) (n : Nat) (x : Asid) : (s.setAsid n x).fabric = s.fabric := rfl
@[simp] theorem setAsid_fabricAcks (s : State) (n : Nat) (x : Asid) : (s.setAsid n x).fabricAcks = s.fabricAcks := rfl
@[simp] theorem setAsid_pathsDown (s : State) (n : Nat) (x : Asid) : (s.setAsid n x).pathsDown = s.pathsDown := rfl
@[simp] theorem setAsid_contexts (s : State) (n : Nat) (x : Asid) : (s.setAsid n x).contexts = s.contexts := rfl
@[simp] theorem setAsid_dispatch (s : State) (n : Nat) (x : Asid) : (s.setAsid n x).dispatch = s.dispatch := rfl
@[simp] theorem setAsid_ctl (s : State) (n : Nat) (x : Asid) : (s.setAsid n x).ctl = s.ctl := rfl
@[simp] theorem setAsid_mgmt (s : State) (n : Nat) (x : Asid) : (s.setAsid n x).mgmt = s.mgmt := rfl

@[simp] theorem setData_now (s : State) (n : Nat) (x : CoreData) : (s.setData n x).now = s.now := rfl
@[simp] theorem setData_resetAt (s : State) (n : Nat) (x : CoreData) : (s.setData n x).resetAt = s.resetAt := rfl
@[simp] theorem setData_sched (s : State) (n : Nat) (x : CoreData) : (s.setData n x).sched = s.sched := rfl
@[simp] theorem setData_pace (s : State) (n : Nat) (x : CoreData) : (s.setData n x).pace = s.pace := rfl
@[simp] theorem setData_focus (s : State) (n : Nat) (x : CoreData) : (s.setData n x).focus = s.focus := rfl
@[simp] theorem setData_hist (s : State) (n : Nat) (x : CoreData) : (s.setData n x).hist = s.hist := rfl
@[simp] theorem setData_links (s : State) (n : Nat) (x : CoreData) : (s.setData n x).links = s.links := rfl
@[simp] theorem setData_fresh (s : State) (n : Nat) (x : CoreData) : (s.setData n x).fresh = s.fresh := rfl
@[simp] theorem setData_mem (s : State) (n : Nat) (x : CoreData) : (s.setData n x).mem = s.mem := rfl
@[simp] theorem setData_order (s : State) (n : Nat) (x : CoreData) : (s.setData n x).order = s.order := rfl
@[simp] theorem setData_orangery (s : State) (n : Nat) (x : CoreData) : (s.setData n x).orangery = s.orangery := rfl
@[simp] theorem setData_poison (s : State) (n : Nat) (x : CoreData) : (s.setData n x).poison = s.poison := rfl
@[simp] theorem setData_ents (s : State) (n : Nat) (x : CoreData) : (s.setData n x).ents = s.ents := rfl
@[simp] theorem setData_waves (s : State) (n : Nat) (x : CoreData) : (s.setData n x).waves = s.waves := rfl
@[simp] theorem setData_blocks (s : State) (n : Nat) (x : CoreData) : (s.setData n x).blocks = s.blocks := rfl
@[simp] theorem setData_gangs (s : State) (n : Nat) (x : CoreData) : (s.setData n x).gangs = s.gangs := rfl
@[simp] theorem setData_launches (s : State) (n : Nat) (x : CoreData) : (s.setData n x).launches = s.launches := rfl
@[simp] theorem setData_trees (s : State) (n : Nat) (x : CoreData) : (s.setData n x).trees = s.trees := rfl
@[simp] theorem setData_spilled (s : State) (n : Nat) (x : CoreData) : (s.setData n x).spilled = s.spilled := rfl
@[simp] theorem setData_cores (s : State) (n : Nat) (x : CoreData) : (s.setData n x).cores = put s.cores n { s.core n with data := x } := rfl
@[simp] theorem setData_dies (s : State) (n : Nat) (x : CoreData) : (s.setData n x).dies = s.dies := rfl
@[simp] theorem setData_pavs (s : State) (n : Nat) (x : CoreData) : (s.setData n x).pavs = s.pavs := rfl
@[simp] theorem setData_queues (s : State) (n : Nat) (x : CoreData) : (s.setData n x).queues = s.queues := rfl
@[simp] theorem setData_cqs (s : State) (n : Nat) (x : CoreData) : (s.setData n x).cqs = s.cqs := rfl
@[simp] theorem setData_asids (s : State) (n : Nat) (x : CoreData) : (s.setData n x).asids = s.asids := rfl
@[simp] theorem setData_vfs (s : State) (n : Nat) (x : CoreData) : (s.setData n x).vfs = s.vfs := rfl
@[simp] theorem setData_rxqs (s : State) (n : Nat) (x : CoreData) : (s.setData n x).rxqs = s.rxqs := rfl
@[simp] theorem setData_windows (s : State) (n : Nat) (x : CoreData) : (s.setData n x).windows = s.windows := rfl
@[simp] theorem setData_homeQ (s : State) (n : Nat) (x : CoreData) : (s.setData n x).homeQ = s.homeQ := rfl
@[simp] theorem setData_replies (s : State) (n : Nat) (x : CoreData) : (s.setData n x).replies = s.replies := rfl
@[simp] theorem setData_bankQ (s : State) (n : Nat) (x : CoreData) : (s.setData n x).bankQ = s.bankQ := rfl
@[simp] theorem setData_passQ (s : State) (n : Nat) (x : CoreData) : (s.setData n x).passQ = s.passQ := rfl
@[simp] theorem setData_answers (s : State) (n : Nat) (x : CoreData) : (s.setData n x).answers = s.answers := rfl
@[simp] theorem setData_icinvs (s : State) (n : Nat) (x : CoreData) : (s.setData n x).icinvs = s.icinvs := rfl
@[simp] theorem setData_packets (s : State) (n : Nat) (x : CoreData) : (s.setData n x).packets = s.packets := rfl
@[simp] theorem setData_statuses (s : State) (n : Nat) (x : CoreData) : (s.setData n x).statuses = s.statuses := rfl
@[simp] theorem setData_acks (s : State) (n : Nat) (x : CoreData) : (s.setData n x).acks = s.acks := rfl
@[simp] theorem setData_sends (s : State) (n : Nat) (x : CoreData) : (s.setData n x).sends = s.sends := rfl
@[simp] theorem setData_fabric (s : State) (n : Nat) (x : CoreData) : (s.setData n x).fabric = s.fabric := rfl
@[simp] theorem setData_fabricAcks (s : State) (n : Nat) (x : CoreData) : (s.setData n x).fabricAcks = s.fabricAcks := rfl
@[simp] theorem setData_pathsDown (s : State) (n : Nat) (x : CoreData) : (s.setData n x).pathsDown = s.pathsDown := rfl
@[simp] theorem setData_contexts (s : State) (n : Nat) (x : CoreData) : (s.setData n x).contexts = s.contexts := rfl
@[simp] theorem setData_dispatch (s : State) (n : Nat) (x : CoreData) : (s.setData n x).dispatch = s.dispatch := rfl
@[simp] theorem setData_ctl (s : State) (n : Nat) (x : CoreData) : (s.setData n x).ctl = s.ctl := rfl
@[simp] theorem setData_mgmt (s : State) (n : Nat) (x : CoreData) : (s.setData n x).mgmt = s.mgmt := rfl

/-! ### Updates of an entity -/

@[simp] theorem endRun_wave (e : Entity) : (e.endRun).wave = e.wave := by simp only [Entity.endRun]; split <;> rfl
@[simp] theorem endRun_pc (e : Entity) : (e.endRun).pc = e.pc := by simp only [Entity.endRun]; split <;> rfl
@[simp] theorem endRun_resume (e : Entity) : (e.endRun).resume = e.resume := by simp only [Entity.endRun]; split <;> rfl
@[simp] theorem endRun_boundary (e : Entity) : (e.endRun).boundary = true := by simp only [Entity.endRun]; split <;> simp_all
@[simp] theorem endRun_buf (e : Entity) : (e.endRun).buf = [] := by simp only [Entity.endRun]; split <;> rfl
@[simp] theorem endRun_words (e : Entity) : (e.endRun).words = 0 := by simp only [Entity.endRun]; split <;> rfl
@[simp] theorem endRun_chain (e : Entity) : (e.endRun).chain = e.chain := by simp only [Entity.endRun]; split <;> rfl
@[simp] theorem endRun_park (e : Entity) : (e.endRun).park = e.park := by simp only [Entity.endRun]; split <;> rfl
@[simp] theorem endRun_mask (e : Entity) : (e.endRun).mask = e.mask := by simp only [Entity.endRun]; split <;> rfl
@[simp] theorem endRun_own (e : Entity) : (e.endRun).own = e.own := by simp only [Entity.endRun]; split <;> rfl
@[simp] theorem endRun_sregs (e : Entity) : (e.endRun).sregs = e.sregs := by simp only [Entity.endRun]; split <;> rfl
@[simp] theorem endRun_fpctl (e : Entity) : (e.endRun).fpctl = e.fpctl := by simp only [Entity.endRun]; split <;> rfl
@[simp] theorem endRun_trapCause (e : Entity) : (e.endRun).trapCause = e.trapCause := by simp only [Entity.endRun]; split <;> rfl
@[simp] theorem endRun_trapPc (e : Entity) : (e.endRun).trapPc = e.trapPc := by simp only [Entity.endRun]; split <;> rfl
@[simp] theorem endRun_trapAddr (e : Entity) : (e.endRun).trapAddr = e.trapAddr := by simp only [Entity.endRun]; split <;> rfl
@[simp] theorem endRun_fmask (e : Entity) : (e.endRun).fmask = e.fmask := by simp only [Entity.endRun]; split <;> rfl
@[simp] theorem endRun_hsave (e : Entity) : (e.endRun).hsave = e.hsave := by simp only [Entity.endRun]; split <;> rfl
@[simp] theorem endRun_level (e : Entity) : (e.endRun).level = e.level := by simp only [Entity.endRun]; split <;> rfl
@[simp] theorem endRun_pairs (e : Entity) : (e.endRun).pairs = e.pairs := by simp only [Entity.endRun]; split <;> rfl
@[simp] theorem endRun_replay (e : Entity) : (e.endRun).replay = e.replay := by simp only [Entity.endRun]; split <;> rfl
@[simp] theorem endRun_pending (e : Entity) : (e.endRun).pending = e.pending := by simp only [Entity.endRun]; split <;> rfl
@[simp] theorem endRun_stalled (e : Entity) : (e.endRun).stalled = e.stalled := by simp only [Entity.endRun]; split <;> rfl
@[simp] theorem endRun_seen (e : Entity) : (e.endRun).seen = e.seen := by simp only [Entity.endRun]; split <;> rfl
@[simp] theorem endRun_released (e : Entity) : (e.endRun).released = e.released := by simp only [Entity.endRun]; split <;> rfl
@[simp] theorem endRun_await (e : Entity) : (e.endRun).await = e.await := by simp only [Entity.endRun]; split <;> rfl
@[simp] theorem endRun_parking (e : Entity) : (e.endRun).parking = e.parking := by simp only [Entity.endRun]; split <;> rfl
@[simp] theorem endRun_retest (e : Entity) : (e.endRun).retest = e.retest := by simp only [Entity.endRun]; split <;> rfl

@[simp] theorem jump_wave (e : Entity) (p : Dword) : (e.jump p).wave = e.wave := by simp [Entity.jump]
@[simp] theorem jump_pc (e : Entity) (p : Dword) : (e.jump p).pc = p := by simp [Entity.jump]
@[simp] theorem jump_resume (e : Entity) (p : Dword) : (e.jump p).resume = e.resume := by simp [Entity.jump]
@[simp] theorem jump_boundary (e : Entity) (p : Dword) : (e.jump p).boundary = true := endRun_boundary e
@[simp] theorem jump_buf (e : Entity) (p : Dword) : (e.jump p).buf = [] := endRun_buf e
@[simp] theorem jump_words (e : Entity) (p : Dword) : (e.jump p).words = 0 := endRun_words e
@[simp] theorem jump_chain (e : Entity) (p : Dword) : (e.jump p).chain = Chain.empty := by simp [Entity.jump]
@[simp] theorem jump_park (e : Entity) (p : Dword) : (e.jump p).park = e.park := by simp [Entity.jump]
@[simp] theorem jump_mask (e : Entity) (p : Dword) : (e.jump p).mask = e.mask := by simp [Entity.jump]
@[simp] theorem jump_own (e : Entity) (p : Dword) : (e.jump p).own = e.own := by simp [Entity.jump]
@[simp] theorem jump_sregs (e : Entity) (p : Dword) : (e.jump p).sregs = e.sregs := by simp [Entity.jump]
@[simp] theorem jump_fpctl (e : Entity) (p : Dword) : (e.jump p).fpctl = e.fpctl := by simp [Entity.jump]
@[simp] theorem jump_trapCause (e : Entity) (p : Dword) : (e.jump p).trapCause = e.trapCause := by simp [Entity.jump]
@[simp] theorem jump_trapPc (e : Entity) (p : Dword) : (e.jump p).trapPc = e.trapPc := by simp [Entity.jump]
@[simp] theorem jump_trapAddr (e : Entity) (p : Dword) : (e.jump p).trapAddr = e.trapAddr := by simp [Entity.jump]
@[simp] theorem jump_fmask (e : Entity) (p : Dword) : (e.jump p).fmask = e.fmask := by simp [Entity.jump]
@[simp] theorem jump_hsave (e : Entity) (p : Dword) : (e.jump p).hsave = e.hsave := by simp [Entity.jump]
@[simp] theorem jump_level (e : Entity) (p : Dword) : (e.jump p).level = e.level := by simp [Entity.jump]
@[simp] theorem jump_pairs (e : Entity) (p : Dword) : (e.jump p).pairs = e.pairs := by simp [Entity.jump]
@[simp] theorem jump_replay (e : Entity) (p : Dword) : (e.jump p).replay = false := by simp [Entity.jump]
@[simp] theorem jump_pending (e : Entity) (p : Dword) : (e.jump p).pending = e.pending := by simp [Entity.jump]
@[simp] theorem jump_stalled (e : Entity) (p : Dword) : (e.jump p).stalled = none := by simp [Entity.jump]
@[simp] theorem jump_runs (e : Entity) (p : Dword) : (e.jump p).runs = e.endRun.runs := by simp [Entity.jump]
@[simp] theorem jump_fold (e : Entity) (p : Dword) : (e.jump p).fold = e.endRun.fold := by simp [Entity.jump]
@[simp] theorem jump_lastFold (e : Entity) (p : Dword) : (e.jump p).lastFold = e.endRun.lastFold := by simp [Entity.jump]
@[simp] theorem jump_progress (e : Entity) (p : Dword) : (e.jump p).progress = e.endRun.progress := by simp [Entity.jump]
@[simp] theorem jump_seen (e : Entity) (p : Dword) : (e.jump p).seen = e.seen := by simp [Entity.jump]
@[simp] theorem jump_released (e : Entity) (p : Dword) : (e.jump p).released = e.released := by simp [Entity.jump]
@[simp] theorem jump_await (e : Entity) (p : Dword) : (e.jump p).await = [] := by simp [Entity.jump]
@[simp] theorem jump_parking (e : Entity) (p : Dword) : (e.jump p).parking = false := by simp [Entity.jump]
@[simp] theorem jump_retest (e : Entity) (p : Dword) : (e.jump p).retest = false := by simp [Entity.jump]

@[simp] theorem retire_wave (e : Entity) (b : Bool) : (e.retire b).wave = e.wave := by simp only [Entity.retire]; split <;> simp
@[simp] theorem retire_pc (e : Entity) (b : Bool) : (e.retire b).pc = e.pc + 4 := by simp only [Entity.retire]; split <;> simp
@[simp] theorem retire_resume (e : Entity) (b : Bool) : (e.retire b).resume = e.resume := by simp only [Entity.retire]; split <;> simp
@[simp] theorem retire_chain (e : Entity) (b : Bool) : (e.retire b).chain = Chain.empty := by simp only [Entity.retire]; split <;> simp
@[simp] theorem retire_park (e : Entity) (b : Bool) : (e.retire b).park = e.park := by simp only [Entity.retire]; split <;> simp
@[simp] theorem retire_mask (e : Entity) (b : Bool) : (e.retire b).mask = e.mask := by simp only [Entity.retire]; split <;> simp
@[simp] theorem retire_own (e : Entity) (b : Bool) : (e.retire b).own = e.own := by simp only [Entity.retire]; split <;> simp
@[simp] theorem retire_sregs (e : Entity) (b : Bool) : (e.retire b).sregs = e.sregs := by simp only [Entity.retire]; split <;> simp
@[simp] theorem retire_fpctl (e : Entity) (b : Bool) : (e.retire b).fpctl = e.fpctl := by simp only [Entity.retire]; split <;> simp
@[simp] theorem retire_trapCause (e : Entity) (b : Bool) : (e.retire b).trapCause = e.trapCause := by simp only [Entity.retire]; split <;> simp
@[simp] theorem retire_trapPc (e : Entity) (b : Bool) : (e.retire b).trapPc = e.trapPc := by simp only [Entity.retire]; split <;> simp
@[simp] theorem retire_trapAddr (e : Entity) (b : Bool) : (e.retire b).trapAddr = e.trapAddr := by simp only [Entity.retire]; split <;> simp
@[simp] theorem retire_fmask (e : Entity) (b : Bool) : (e.retire b).fmask = e.fmask := by simp only [Entity.retire]; split <;> simp
@[simp] theorem retire_hsave (e : Entity) (b : Bool) : (e.retire b).hsave = e.hsave := by simp only [Entity.retire]; split <;> simp
@[simp] theorem retire_level (e : Entity) (b : Bool) : (e.retire b).level = e.level := by simp only [Entity.retire]; split <;> simp
@[simp] theorem retire_pairs (e : Entity) (b : Bool) : (e.retire b).pairs = e.pairs := by simp only [Entity.retire]; split <;> simp
@[simp] theorem retire_replay (e : Entity) (b : Bool) : (e.retire b).replay = false := by simp only [Entity.retire]; split <;> simp
@[simp] theorem retire_pending (e : Entity) (b : Bool) : (e.retire b).pending = e.pending := by simp only [Entity.retire]; split <;> simp
@[simp] theorem retire_stalled (e : Entity) (b : Bool) : (e.retire b).stalled = none := by simp only [Entity.retire]; split <;> simp
@[simp] theorem retire_seen (e : Entity) (b : Bool) : (e.retire b).seen = e.seen := by simp only [Entity.retire]; split <;> simp
@[simp] theorem retire_released (e : Entity) (b : Bool) : (e.retire b).released = e.released := by simp only [Entity.retire]; split <;> simp
@[simp] theorem retire_await (e : Entity) (b : Bool) : (e.retire b).await = [] := by simp only [Entity.retire]; split <;> simp
@[simp] theorem retire_parking (e : Entity) (b : Bool) : (e.retire b).parking = false := by simp only [Entity.retire]; split <;> simp
@[simp] theorem retire_retest (e : Entity) (b : Bool) : (e.retire b).retest = false := by simp only [Entity.retire]; split <;> simp

@[simp] theorem leaveHandler_wave (e : Entity) : (e.leaveHandler).wave = e.wave := by simp [Entity.leaveHandler]
@[simp] theorem leaveHandler_pc (e : Entity) : (e.leaveHandler).pc = e.trapPc := by simp [Entity.leaveHandler]
@[simp] theorem leaveHandler_resume (e : Entity) : (e.leaveHandler).resume = e.resume := by simp [Entity.leaveHandler]
@[simp] theorem leaveHandler_boundary (e : Entity) : (e.leaveHandler).boundary = true := by simp [Entity.leaveHandler]
@[simp] theorem leaveHandler_buf (e : Entity) : (e.leaveHandler).buf = [] := by simp [Entity.leaveHandler]
@[simp] theorem leaveHandler_words (e : Entity) : (e.leaveHandler).words = 0 := by simp [Entity.leaveHandler]
@[simp] theorem leaveHandler_chain (e : Entity) : (e.leaveHandler).chain = Chain.empty := by simp [Entity.leaveHandler]
@[simp] theorem leaveHandler_park (e : Entity) : (e.leaveHandler).park = e.park := by simp [Entity.leaveHandler]
@[simp] theorem leaveHandler_mask (e : Entity) : (e.leaveHandler).mask = e.mask := by simp [Entity.leaveHandler]
@[simp] theorem leaveHandler_own (e : Entity) : (e.leaveHandler).own = e.own := by simp [Entity.leaveHandler]
@[simp] theorem leaveHandler_sregs (e : Entity) : (e.leaveHandler).sregs = e.sregs := by simp [Entity.leaveHandler]
@[simp] theorem leaveHandler_fpctl (e : Entity) : (e.leaveHandler).fpctl = e.fpctl := by simp [Entity.leaveHandler]
@[simp] theorem leaveHandler_trapCause (e : Entity) : (e.leaveHandler).trapCause = e.trapCause := by simp [Entity.leaveHandler]
@[simp] theorem leaveHandler_trapPc (e : Entity) : (e.leaveHandler).trapPc = e.trapPc := by simp [Entity.leaveHandler]
@[simp] theorem leaveHandler_trapAddr (e : Entity) : (e.leaveHandler).trapAddr = e.trapAddr := by simp [Entity.leaveHandler]
@[simp] theorem leaveHandler_fmask (e : Entity) : (e.leaveHandler).fmask = e.fmask := by simp [Entity.leaveHandler]
@[simp] theorem leaveHandler_hsave (e : Entity) : (e.leaveHandler).hsave = e.hsave := by simp [Entity.leaveHandler]
@[simp] theorem leaveHandler_level (e : Entity) : (e.leaveHandler).level = false := by simp [Entity.leaveHandler]
@[simp] theorem leaveHandler_pairs (e : Entity) : (e.leaveHandler).pairs = e.pairs := by simp [Entity.leaveHandler]
@[simp] theorem leaveHandler_replay (e : Entity) : (e.leaveHandler).replay = false := by simp [Entity.leaveHandler]
@[simp] theorem leaveHandler_pending (e : Entity) : (e.leaveHandler).pending = e.pending := by simp [Entity.leaveHandler]
@[simp] theorem leaveHandler_stalled (e : Entity) : (e.leaveHandler).stalled = none := by simp [Entity.leaveHandler]
@[simp] theorem leaveHandler_runs (e : Entity) : (e.leaveHandler).runs = e.endRun.runs := by simp [Entity.leaveHandler]
@[simp] theorem leaveHandler_fold (e : Entity) : (e.leaveHandler).fold = e.endRun.fold := by simp [Entity.leaveHandler]
@[simp] theorem leaveHandler_lastFold (e : Entity) : (e.leaveHandler).lastFold = e.endRun.lastFold := by simp [Entity.leaveHandler]
@[simp] theorem leaveHandler_progress (e : Entity) : (e.leaveHandler).progress = e.endRun.progress := by simp [Entity.leaveHandler]
@[simp] theorem leaveHandler_seen (e : Entity) : (e.leaveHandler).seen = e.seen := by simp [Entity.leaveHandler]
@[simp] theorem leaveHandler_released (e : Entity) : (e.leaveHandler).released = e.released := by simp [Entity.leaveHandler]
@[simp] theorem leaveHandler_await (e : Entity) : (e.leaveHandler).await = [] := by simp [Entity.leaveHandler]
@[simp] theorem leaveHandler_parking (e : Entity) : (e.leaveHandler).parking = false := by simp [Entity.leaveHandler]
@[simp] theorem leaveHandler_retest (e : Entity) : (e.leaveHandler).retest = false := by simp [Entity.leaveHandler]

/-! ### Poison -/

@[simp] theorem clean_now (s : State) (hit : Poison → Bool) : (s.clean hit).now = s.now := by unfold State.clean; split <;> rfl
@[simp] theorem clean_resetAt (s : State) (hit : Poison → Bool) : (s.clean hit).resetAt = s.resetAt := by unfold State.clean; split <;> rfl
@[simp] theorem clean_sched (s : State) (hit : Poison → Bool) : (s.clean hit).sched = s.sched := by unfold State.clean; split <;> rfl
@[simp] theorem clean_pace (s : State) (hit : Poison → Bool) : (s.clean hit).pace = s.pace := by unfold State.clean; split <;> rfl
@[simp] theorem clean_focus (s : State) (hit : Poison → Bool) : (s.clean hit).focus = s.focus := by unfold State.clean; split <;> rfl
@[simp] theorem clean_hist (s : State) (hit : Poison → Bool) : (s.clean hit).hist = s.hist := by unfold State.clean; split <;> rfl
@[simp] theorem clean_links (s : State) (hit : Poison → Bool) : (s.clean hit).links = s.links := by unfold State.clean; split <;> rfl
@[simp] theorem clean_fresh (s : State) (hit : Poison → Bool) : (s.clean hit).fresh = s.fresh := by unfold State.clean; split <;> rfl
@[simp] theorem clean_mem (s : State) (hit : Poison → Bool) : (s.clean hit).mem = s.mem := by unfold State.clean; split <;> rfl
@[simp] theorem clean_order (s : State) (hit : Poison → Bool) : (s.clean hit).order = s.order := by unfold State.clean; split <;> rfl
@[simp] theorem clean_orangery (s : State) (hit : Poison → Bool) : (s.clean hit).orangery = s.orangery := by unfold State.clean; split <;> rfl
@[simp] theorem clean_ents (s : State) (hit : Poison → Bool) : (s.clean hit).ents = s.ents := by unfold State.clean; split <;> rfl
@[simp] theorem clean_waves (s : State) (hit : Poison → Bool) : (s.clean hit).waves = s.waves := by unfold State.clean; split <;> rfl
@[simp] theorem clean_blocks (s : State) (hit : Poison → Bool) : (s.clean hit).blocks = s.blocks := by unfold State.clean; split <;> rfl
@[simp] theorem clean_gangs (s : State) (hit : Poison → Bool) : (s.clean hit).gangs = s.gangs := by unfold State.clean; split <;> rfl
@[simp] theorem clean_launches (s : State) (hit : Poison → Bool) : (s.clean hit).launches = s.launches := by unfold State.clean; split <;> rfl
@[simp] theorem clean_trees (s : State) (hit : Poison → Bool) : (s.clean hit).trees = s.trees := by unfold State.clean; split <;> rfl
@[simp] theorem clean_spilled (s : State) (hit : Poison → Bool) : (s.clean hit).spilled = s.spilled := by unfold State.clean; split <;> rfl
@[simp] theorem clean_cores (s : State) (hit : Poison → Bool) : (s.clean hit).cores = s.cores := by unfold State.clean; split <;> rfl
@[simp] theorem clean_dies (s : State) (hit : Poison → Bool) : (s.clean hit).dies = s.dies := by unfold State.clean; split <;> rfl
@[simp] theorem clean_pavs (s : State) (hit : Poison → Bool) : (s.clean hit).pavs = s.pavs := by unfold State.clean; split <;> rfl
@[simp] theorem clean_queues (s : State) (hit : Poison → Bool) : (s.clean hit).queues = s.queues := by unfold State.clean; split <;> rfl
@[simp] theorem clean_cqs (s : State) (hit : Poison → Bool) : (s.clean hit).cqs = s.cqs := by unfold State.clean; split <;> rfl
@[simp] theorem clean_asids (s : State) (hit : Poison → Bool) : (s.clean hit).asids = s.asids := by unfold State.clean; split <;> rfl
@[simp] theorem clean_vfs (s : State) (hit : Poison → Bool) : (s.clean hit).vfs = s.vfs := by unfold State.clean; split <;> rfl
@[simp] theorem clean_rxqs (s : State) (hit : Poison → Bool) : (s.clean hit).rxqs = s.rxqs := by unfold State.clean; split <;> rfl
@[simp] theorem clean_windows (s : State) (hit : Poison → Bool) : (s.clean hit).windows = s.windows := by unfold State.clean; split <;> rfl
@[simp] theorem clean_homeQ (s : State) (hit : Poison → Bool) : (s.clean hit).homeQ = s.homeQ := by unfold State.clean; split <;> rfl
@[simp] theorem clean_replies (s : State) (hit : Poison → Bool) : (s.clean hit).replies = s.replies := by unfold State.clean; split <;> rfl
@[simp] theorem clean_bankQ (s : State) (hit : Poison → Bool) : (s.clean hit).bankQ = s.bankQ := by unfold State.clean; split <;> rfl
@[simp] theorem clean_passQ (s : State) (hit : Poison → Bool) : (s.clean hit).passQ = s.passQ := by unfold State.clean; split <;> rfl
@[simp] theorem clean_answers (s : State) (hit : Poison → Bool) : (s.clean hit).answers = s.answers := by unfold State.clean; split <;> rfl
@[simp] theorem clean_icinvs (s : State) (hit : Poison → Bool) : (s.clean hit).icinvs = s.icinvs := by unfold State.clean; split <;> rfl
@[simp] theorem clean_packets (s : State) (hit : Poison → Bool) : (s.clean hit).packets = s.packets := by unfold State.clean; split <;> rfl
@[simp] theorem clean_statuses (s : State) (hit : Poison → Bool) : (s.clean hit).statuses = s.statuses := by unfold State.clean; split <;> rfl
@[simp] theorem clean_acks (s : State) (hit : Poison → Bool) : (s.clean hit).acks = s.acks := by unfold State.clean; split <;> rfl
@[simp] theorem clean_sends (s : State) (hit : Poison → Bool) : (s.clean hit).sends = s.sends := by unfold State.clean; split <;> rfl
@[simp] theorem clean_fabric (s : State) (hit : Poison → Bool) : (s.clean hit).fabric = s.fabric := by unfold State.clean; split <;> rfl
@[simp] theorem clean_fabricAcks (s : State) (hit : Poison → Bool) : (s.clean hit).fabricAcks = s.fabricAcks := by unfold State.clean; split <;> rfl
@[simp] theorem clean_pathsDown (s : State) (hit : Poison → Bool) : (s.clean hit).pathsDown = s.pathsDown := by unfold State.clean; split <;> rfl
@[simp] theorem clean_contexts (s : State) (hit : Poison → Bool) : (s.clean hit).contexts = s.contexts := by unfold State.clean; split <;> rfl
@[simp] theorem clean_dispatch (s : State) (hit : Poison → Bool) : (s.clean hit).dispatch = s.dispatch := by unfold State.clean; split <;> rfl
@[simp] theorem clean_ctl (s : State) (hit : Poison → Bool) : (s.clean hit).ctl = s.ctl := by unfold State.clean; split <;> rfl
@[simp] theorem clean_mgmt (s : State) (hit : Poison → Bool) : (s.clean hit).mgmt = s.mgmt := by unfold State.clean; split <;> rfl
@[simp] theorem taint_now (s : State) (p : Poison) : (s.taint p).now = s.now := by unfold State.taint; split <;> rfl
@[simp] theorem taint_resetAt (s : State) (p : Poison) : (s.taint p).resetAt = s.resetAt := by unfold State.taint; split <;> rfl
@[simp] theorem taint_sched (s : State) (p : Poison) : (s.taint p).sched = s.sched := by unfold State.taint; split <;> rfl
@[simp] theorem taint_pace (s : State) (p : Poison) : (s.taint p).pace = s.pace := by unfold State.taint; split <;> rfl
@[simp] theorem taint_focus (s : State) (p : Poison) : (s.taint p).focus = s.focus := by unfold State.taint; split <;> rfl
@[simp] theorem taint_hist (s : State) (p : Poison) : (s.taint p).hist = s.hist := by unfold State.taint; split <;> rfl
@[simp] theorem taint_links (s : State) (p : Poison) : (s.taint p).links = s.links := by unfold State.taint; split <;> rfl
@[simp] theorem taint_fresh (s : State) (p : Poison) : (s.taint p).fresh = s.fresh := by unfold State.taint; split <;> rfl
@[simp] theorem taint_mem (s : State) (p : Poison) : (s.taint p).mem = s.mem := by unfold State.taint; split <;> rfl
@[simp] theorem taint_order (s : State) (p : Poison) : (s.taint p).order = s.order := by unfold State.taint; split <;> rfl
@[simp] theorem taint_orangery (s : State) (p : Poison) : (s.taint p).orangery = s.orangery := by unfold State.taint; split <;> rfl
@[simp] theorem taint_ents (s : State) (p : Poison) : (s.taint p).ents = s.ents := by unfold State.taint; split <;> rfl
@[simp] theorem taint_waves (s : State) (p : Poison) : (s.taint p).waves = s.waves := by unfold State.taint; split <;> rfl
@[simp] theorem taint_blocks (s : State) (p : Poison) : (s.taint p).blocks = s.blocks := by unfold State.taint; split <;> rfl
@[simp] theorem taint_gangs (s : State) (p : Poison) : (s.taint p).gangs = s.gangs := by unfold State.taint; split <;> rfl
@[simp] theorem taint_launches (s : State) (p : Poison) : (s.taint p).launches = s.launches := by unfold State.taint; split <;> rfl
@[simp] theorem taint_trees (s : State) (p : Poison) : (s.taint p).trees = s.trees := by unfold State.taint; split <;> rfl
@[simp] theorem taint_spilled (s : State) (p : Poison) : (s.taint p).spilled = s.spilled := by unfold State.taint; split <;> rfl
@[simp] theorem taint_cores (s : State) (p : Poison) : (s.taint p).cores = s.cores := by unfold State.taint; split <;> rfl
@[simp] theorem taint_dies (s : State) (p : Poison) : (s.taint p).dies = s.dies := by unfold State.taint; split <;> rfl
@[simp] theorem taint_pavs (s : State) (p : Poison) : (s.taint p).pavs = s.pavs := by unfold State.taint; split <;> rfl
@[simp] theorem taint_queues (s : State) (p : Poison) : (s.taint p).queues = s.queues := by unfold State.taint; split <;> rfl
@[simp] theorem taint_cqs (s : State) (p : Poison) : (s.taint p).cqs = s.cqs := by unfold State.taint; split <;> rfl
@[simp] theorem taint_asids (s : State) (p : Poison) : (s.taint p).asids = s.asids := by unfold State.taint; split <;> rfl
@[simp] theorem taint_vfs (s : State) (p : Poison) : (s.taint p).vfs = s.vfs := by unfold State.taint; split <;> rfl
@[simp] theorem taint_rxqs (s : State) (p : Poison) : (s.taint p).rxqs = s.rxqs := by unfold State.taint; split <;> rfl
@[simp] theorem taint_windows (s : State) (p : Poison) : (s.taint p).windows = s.windows := by unfold State.taint; split <;> rfl
@[simp] theorem taint_homeQ (s : State) (p : Poison) : (s.taint p).homeQ = s.homeQ := by unfold State.taint; split <;> rfl
@[simp] theorem taint_replies (s : State) (p : Poison) : (s.taint p).replies = s.replies := by unfold State.taint; split <;> rfl
@[simp] theorem taint_bankQ (s : State) (p : Poison) : (s.taint p).bankQ = s.bankQ := by unfold State.taint; split <;> rfl
@[simp] theorem taint_passQ (s : State) (p : Poison) : (s.taint p).passQ = s.passQ := by unfold State.taint; split <;> rfl
@[simp] theorem taint_answers (s : State) (p : Poison) : (s.taint p).answers = s.answers := by unfold State.taint; split <;> rfl
@[simp] theorem taint_icinvs (s : State) (p : Poison) : (s.taint p).icinvs = s.icinvs := by unfold State.taint; split <;> rfl
@[simp] theorem taint_packets (s : State) (p : Poison) : (s.taint p).packets = s.packets := by unfold State.taint; split <;> rfl
@[simp] theorem taint_statuses (s : State) (p : Poison) : (s.taint p).statuses = s.statuses := by unfold State.taint; split <;> rfl
@[simp] theorem taint_acks (s : State) (p : Poison) : (s.taint p).acks = s.acks := by unfold State.taint; split <;> rfl
@[simp] theorem taint_sends (s : State) (p : Poison) : (s.taint p).sends = s.sends := by unfold State.taint; split <;> rfl
@[simp] theorem taint_fabric (s : State) (p : Poison) : (s.taint p).fabric = s.fabric := by unfold State.taint; split <;> rfl
@[simp] theorem taint_fabricAcks (s : State) (p : Poison) : (s.taint p).fabricAcks = s.fabricAcks := by unfold State.taint; split <;> rfl
@[simp] theorem taint_pathsDown (s : State) (p : Poison) : (s.taint p).pathsDown = s.pathsDown := by unfold State.taint; split <;> rfl
@[simp] theorem taint_contexts (s : State) (p : Poison) : (s.taint p).contexts = s.contexts := by unfold State.taint; split <;> rfl
@[simp] theorem taint_dispatch (s : State) (p : Poison) : (s.taint p).dispatch = s.dispatch := by unfold State.taint; split <;> rfl
@[simp] theorem taint_ctl (s : State) (p : Poison) : (s.taint p).ctl = s.ctl := by unfold State.taint; split <;> rfl
@[simp] theorem taint_mgmt (s : State) (p : Poison) : (s.taint p).mgmt = s.mgmt := by unfold State.taint; split <;> rfl

/-- A granule is poisoned after a clean just when it was and does not meet the test (R275). -/
theorem mem_clean (s : State) (hit : Poison → Bool) (p : Poison) : p ∈ (s.clean hit).poison ↔ p ∈ s.poison ∧ hit p = false := by
  unfold State.clean
  split
  · rename_i h
    simp [List.isEmpty_iff.mp h]
  · simp

/-- A granule is poisoned after a taint just when it was or is the one (R274). -/
theorem mem_taint (s : State) (p q : Poison) : q ∈ (s.taint p).poison ↔ q = p ∨ q ∈ s.poison := by
  unfold State.taint
  split
  · rename_i h
    constructor
    · exact .inr
    · rintro (rfl | h')
      · simpa using h
      · exact h'
  · simp

end Sys2Proof.Laws
end

