-- ==== Sys2Proof/Laws/Frames.lean ====
section
/-! SUPPORT. What each operation of the package does to its two memories: it leaves one as it was (`_mem`, `_orangery`), or it writes it and
keeps its canonical form (`_memWf`, `_orangeryWf`). -/

namespace Sys2Proof.Laws

open Sys2Proof Sys2Proof.Machine

theorem foldl_mem {β : Type} (f : State → β → State) (l : List β) (s : State) (h : ∀ s x, (f s x).mem = s.mem) : (l.foldl f s).mem = s.mem := by
  induction l generalizing s with
  | nil => rfl
  | cons x r ih => rw [List.foldl_cons, ih, h]

theorem foldl_orangery {β : Type} (f : State → β → State) (l : List β) (s : State) (h : ∀ s x, (f s x).orangery = s.orangery) :
    (l.foldl f s).orangery = s.orangery := by
  induction l generalizing s with
  | nil => rfl
  | cons x r ih => rw [List.foldl_cons, ih, h]

theorem foldl_keeps {β : Type} {p : State → Prop} (f : State → β → State) (l : List β) (s : State) (h : ∀ s x, p s → p (f s x)) (hs : p s) :
    p (l.foldl f s) := by
  induction l generalizing s with
  | nil => exact hs
  | cons x r ih => exact ih _ (h _ _ hs)


/-! ### The state, memory, rings, the end of waves, traps -/

@[simp] theorem modEnt_mem (s : State) (k : Nat) (f : Entity → Entity) : (s.modEnt k f).mem = s.mem := by
  unfold State.modEnt; split <;> simp
@[simp] theorem modEnt_orangery (s : State) (k : Nat) (f : Entity → Entity) : (s.modEnt k f).orangery = s.orangery := by
  unfold State.modEnt; split <;> simp
@[simp] theorem modWave_mem (s : State) (w : Nat) (f : Wave → Wave) : (s.modWave w f).mem = s.mem := by
  unfold State.modWave; split <;> simp
@[simp] theorem modWave_orangery (s : State) (w : Nat) (f : Wave → Wave) : (s.modWave w f).orangery = s.orangery := by
  unfold State.modWave; split <;> simp
@[simp] theorem modBlock_mem (s : State) (b : Nat) (f : Block → Block) : (s.modBlock b f).mem = s.mem := by
  unfold State.modBlock; split <;> simp
@[simp] theorem modBlock_orangery (s : State) (b : Nat) (f : Block → Block) : (s.modBlock b f).orangery = s.orangery := by
  unfold State.modBlock; split <;> simp
@[simp] theorem modGang_mem (s : State) (g : Nat) (f : Gang → Gang) : (s.modGang g f).mem = s.mem := by
  unfold State.modGang; split <;> simp
@[simp] theorem modGang_orangery (s : State) (g : Nat) (f : Gang → Gang) : (s.modGang g f).orangery = s.orangery := by
  unfold State.modGang; split <;> simp
@[simp] theorem modLaunch_mem (s : State) (l : Nat) (f : Launch → Launch) : (s.modLaunch l f).mem = s.mem := by
  unfold State.modLaunch; split <;> simp
@[simp] theorem modLaunch_orangery (s : State) (l : Nat) (f : Launch → Launch) : (s.modLaunch l f).orangery = s.orangery := by
  unfold State.modLaunch; split <;> simp
@[simp] theorem modTree_mem (s : State) (t : Nat) (f : Tree → Tree) : (s.modTree t f).mem = s.mem := by
  unfold State.modTree; split <;> simp
@[simp] theorem modTree_orangery (s : State) (t : Nat) (f : Tree → Tree) : (s.modTree t f).orangery = s.orangery := by
  unfold State.modTree; split <;> simp
@[simp] theorem dropL1_mem (s : State) (core : Nat) : (dropL1 s core).mem = s.mem := by
  unfold dropL1; split <;> simp
@[simp] theorem dropL1_orangery (s : State) (core : Nat) : (dropL1 s core).orangery = s.orangery := by
  unfold dropL1; split <;> simp
@[simp] theorem dropLines_mem (s : State) (cores : Nat → Bool) (a n : Nat) : (dropLines s cores a n).mem = s.mem := rfl
@[simp] theorem dropLines_orangery (s : State) (cores : Nat → Bool) (a n : Nat) : (dropLines s cores a n).orangery = s.orangery := rfl
@[simp] theorem homeByte_memWf (d stamp : Nat) (s : State) (a : Nat) (b : Byte) (h : memWf s.mem = true) :
    memWf (homeByte d stamp s a b).mem = true := by simp [homeByte, h]
@[simp] theorem homeByte_orangery (d stamp : Nat) (s : State) (a : Nat) (b : Byte) : (homeByte d stamp s a b).orangery = s.orangery := rfl
@[simp] theorem homeBytes_memWf (d stamp : Nat) (s : State) (a : Nat) (l : List Byte) (h : memWf s.mem = true) :
    memWf (homeBytes d stamp s a l).mem = true := by
  induction l generalizing s a with
  | nil => exact h
  | cons b r ih => exact ih _ _ (homeByte_memWf d stamp s a b h)

@[simp] theorem homeBytes_orangery (d stamp : Nat) (s : State) (a : Nat) (l : List Byte) : (homeBytes d stamp s a l).orangery = s.orangery := by
  induction l generalizing s a with
  | nil => rfl
  | cons b r ih => rw [homeBytes, ih, homeByte_orangery]
@[simp] theorem joinEpoch_mem (s : State) (d : Nat) (w : DieWrite) : (joinEpoch s d w).mem = s.mem := rfl
@[simp] theorem joinEpoch_orangery (s : State) (d : Nat) (w : DieWrite) : (joinEpoch s d w).orangery = s.orangery := rfl
@[simp] theorem agentWrite_memWf (s : State) (d k w serial a : Nat) (data : List Byte) (h : memWf s.mem = true) :
    memWf (agentWrite s d k w serial a data).mem = true := by
  unfold agentWrite; split <;> simp [h]
@[simp] theorem agentWrite_orangery (s : State) (d k w serial a : Nat) (data : List Byte) : (agentWrite s d k w serial a data).orangery = s.orangery := by
  unfold agentWrite; split <;> simp
@[simp] theorem closeEpoch_mem (s : State) (d : Nat) : (closeEpoch s d).mem = s.mem :=
  foldl_mem _ _ _ (fun _ _ => by dsimp only; (repeat' split) <;> simp)
@[simp] theorem closeEpoch_orangery (s : State) (d : Nat) : (closeEpoch s d).orangery = s.orangery :=
  foldl_orangery _ _ _ (fun _ _ => by dsimp only; (repeat' split) <;> simp)
@[simp] theorem seeWrite_mem (s : State) (d : Nat) (w : DieWrite) : (seeWrite s d w).mem = s.mem := foldl_mem _ _ _ (fun _ _ => by simp)
@[simp] theorem seeWrite_orangery (s : State) (d : Nat) (w : DieWrite) : (seeWrite s d w).orangery = s.orangery :=
  foldl_orangery _ _ _ (fun _ _ => by simp)
@[simp] theorem applyEpoch_mem (s : State) (d : Nat) (e : Epoch) : (applyEpoch s d e).mem = s.mem := foldl_mem _ _ _ (fun _ _ => by simp)
@[simp] theorem applyEpoch_orangery (s : State) (d : Nat) (e : Epoch) : (applyEpoch s d e).orangery = s.orangery :=
  foldl_orangery _ _ _ (fun _ _ => by simp)
@[simp] theorem hostWrite_memWf (s : State) (a : Nat) (data : List Byte) (h : memWf s.mem = true) : memWf (hostWrite s a data).mem = true :=
  by simp [hostWrite, h]
@[simp] theorem hostWrite_orangery (s : State) (a : Nat) (data : List Byte) : (hostWrite s a data).orangery = s.orangery := rfl
@[simp] theorem toHost_memWf (s : State) (hostAddr : Nat) (data : List Byte) (h : memWf s.mem = true) : memWf (toHost s hostAddr data).mem = true :=
  by simp [toHost, h]
@[simp] theorem toHost_orangery (s : State) (hostAddr : Nat) (data : List Byte) : (toHost s hostAddr data).orangery = s.orangery := rfl
@[simp] theorem ringPush_memWf (s : State) (r : Nat) (rec' : List Byte) (h : memWf s.mem = true) : memWf (ringPush s r rec').mem = true :=
  by simp [ringPush, h]
@[simp] theorem ringPush_orangery (s : State) (r : Nat) (rec' : List Byte) : (ringPush s r rec').orangery = s.orangery := rfl
@[simp] theorem ringOrDrop_memWf (s : State) (r : Nat) (rec' : List Byte) (h : memWf s.mem = true) : memWf (ringOrDrop s r rec').mem = true := by
  unfold ringOrDrop; split <;> simp [h]
@[simp] theorem ringOrDrop_orangery (s : State) (r : Nat) (rec' : List Byte) : (ringOrDrop s r rec').orangery = s.orangery := by
  unfold ringOrDrop; split <;> simp
@[simp] theorem setStatus_mem (s : State) (o : Owner) (st : Status) : (setStatus s o st).mem = s.mem := by
  unfold setStatus; split <;> simp
@[simp] theorem setStatus_orangery (s : State) (o : Owner) (st : Status) : (setStatus s o st).orangery = s.orangery := by
  unfold setStatus; split <;> simp
@[simp] theorem eventRecord_memWf (s : State) (lid kind cause core addr : Nat) (h : memWf s.mem = true) :
    memWf (eventRecord s lid kind cause core addr).mem = true := by simp [eventRecord, h]
@[simp] theorem eventRecord_orangery (s : State) (lid kind cause core addr : Nat) : (eventRecord s lid kind cause core addr).orangery = s.orangery :=
  by simp [eventRecord]
@[simp] theorem wake_mem (s : State) (key : WaitKey) : (wake s key).mem = s.mem := rfl
@[simp] theorem wake_orangery (s : State) (key : WaitKey) : (wake s key).orangery = s.orangery := rfl
@[simp] theorem pruneTrees_mem (s : State) : (pruneTrees s).mem = s.mem := rfl
@[simp] theorem pruneTrees_orangery (s : State) : (pruneTrees s).orangery = s.orangery := rfl
@[simp] theorem countOut_mem (s : State) (o : Owner) (f : Nat → Nat) : (countOut s o f).mem = s.mem := by
  unfold countOut; dsimp only; (repeat' split) <;> simp
@[simp] theorem countOut_orangery (s : State) (o : Owner) (f : Nat → Nat) : (countOut s o f).orangery = s.orangery := by
  unfold countOut; dsimp only; (repeat' split) <;> simp
@[simp] theorem setPoint_mem (s : State) (pav point : Nat) : (setPoint s pav point).mem = s.mem := by
  unfold setPoint
  dsimp only
  split
  · rfl
  · rw [setPav_mem]
    exact foldl_mem _ _ _ (fun s x => setCore_mem s _ _)
@[simp] theorem setPoint_orangery (s : State) (pav point : Nat) : (setPoint s pav point).orangery = s.orangery := by
  unfold setPoint
  dsimp only
  split
  · rfl
  · rw [setPav_orangery]
    exact foldl_orangery _ _ _ (fun s x => setCore_orangery s _ _)
@[simp] theorem restorePoint_mem (l : Nat) (s : State) (pav : Nat) : (restorePoint l s pav).mem = s.mem := by
  unfold restorePoint; split <;> simp
@[simp] theorem restorePoint_orangery (l : Nat) (s : State) (pav : Nat) : (restorePoint l s pav).orangery = s.orangery := by
  unfold restorePoint; split <;> simp
@[simp] theorem stopWaves_mem (s : State) (ws : List Nat) : (stopWaves s ws).mem = s.mem := rfl
@[simp] theorem stopWaves_orangery (s : State) (ws : List Nat) : (stopWaves s ws).orangery = s.orangery := rfl
@[simp] theorem dropPackets_mem (s : State) (gone : Packet → Bool) : (dropPackets s gone).mem = s.mem := foldl_mem _ _ _ (fun _ _ => by simp)
@[simp] theorem dropPackets_orangery (s : State) (gone : Packet → Bool) : (dropPackets s gone).orangery = s.orangery :=
  foldl_orangery _ _ _ (fun _ _ => by simp)
@[simp] theorem dropHeld_mem (s : State) (ws : List Nat) : (dropHeld s ws).mem = s.mem := by simp [dropHeld]
@[simp] theorem dropHeld_orangery (s : State) (ws : List Nat) : (dropHeld s ws).orangery = s.orangery := by simp [dropHeld]
@[simp] theorem dropBlocks_mem (s : State) (bs : List Nat) : (dropBlocks s bs).mem = s.mem := rfl
@[simp] theorem dropBlocks_orangery (s : State) (bs : List Nat) : (dropBlocks s bs).orangery = s.orangery := rfl
@[simp] theorem discardChildren_mem (s : State) (o : Owner) : (discardChildren s o).mem = s.mem := by
  unfold discardChildren; split <;> simp
@[simp] theorem discardChildren_orangery (s : State) (o : Owner) : (discardChildren s o).orangery = s.orangery := by
  unfold discardChildren; split <;> simp
@[simp] theorem stopLaunch_mem (s : State) (l : Nat) : (stopLaunch s l).mem = s.mem := by
  first
  | rfl
  | (unfold stopLaunch; (try dsimp only); (repeat' split) <;> first
    | rfl
    | (simp; done)
    | (refine (foldl_mem _ _ _ ?_).trans ?_ <;> first | rfl | (simp; done) | (intro s x; (try dsimp only); (repeat' split) <;> first | rfl | (simp; done))))
@[simp] theorem stopLaunch_orangery (s : State) (l : Nat) : (stopLaunch s l).orangery = s.orangery := by
  first
  | rfl
  | (unfold stopLaunch; (try dsimp only); (repeat' split) <;> first
    | rfl
    | (simp; done)
    | (refine (foldl_orangery _ _ _ ?_).trans ?_ <;> first | rfl | (simp; done) | (intro s x; (try dsimp only); (repeat' split) <;> first | rfl | (simp; done))))
@[simp] theorem cutBeats_mem (s : State) (dead : Nat → Nat → Bool) : (cutBeats s dead).mem = s.mem := rfl
@[simp] theorem cutBeats_orangery (s : State) (dead : Nat → Nat → Bool) : (cutBeats s dead).orangery = s.orangery := rfl
@[simp] theorem cutDone_mem (s : State) (l : Nat) : (cutDone s l).mem = s.mem := by simp [cutDone]
@[simp] theorem cutDone_orangery (s : State) (l : Nat) : (cutDone s l).orangery = s.orangery := by simp [cutDone]
@[simp] theorem stopGangs_mem (s : State) (l : Nat) (f : Launch → Launch) : (stopGangs s l f).mem = s.mem := by
  unfold stopGangs; dsimp only; split <;> simp
@[simp] theorem stopGangs_orangery (s : State) (l : Nat) (f : Launch → Launch) : (stopGangs s l f).orangery = s.orangery := by
  unfold stopGangs; dsimp only; split <;> simp
@[simp] theorem cutLaunch_mem (s : State) (l : Nat) (st : Status) : (cutLaunch s l st).mem = s.mem := by simp [cutLaunch]
@[simp] theorem cutLaunch_orangery (s : State) (l : Nat) (st : Status) : (cutLaunch s l st).orangery = s.orangery := by simp [cutLaunch]
@[simp] theorem settleCut_mem (s : State) (l : Nat) : (settleCut s l).mem = s.mem := by
  unfold settleCut; (repeat' split) <;> simp
@[simp] theorem settleCut_orangery (s : State) (l : Nat) : (settleCut s l).orangery = s.orangery := by
  unfold settleCut; (repeat' split) <;> simp
@[simp] theorem containmentReport_memWf (s : State) (lid gang cause unit core action rcount : Nat) (ie iex : Bool) (addr : Nat) (h : memWf s.mem = true) :
    memWf (containmentReport s lid gang cause unit core action rcount ie iex addr).mem = true := by simp [containmentReport, h]
@[simp] theorem containmentReport_orangery (s : State) (lid gang cause unit core action rcount : Nat) (ie iex : Bool) (addr : Nat) :
    (containmentReport s lid gang cause unit core action rcount ie iex addr).orangery = s.orangery := by simp [containmentReport]
@[simp] theorem freeEntry_mem (s : State) (prio : Nat) : (freeEntry s prio).mem = s.mem := by
  unfold freeEntry; dsimp only; (repeat' split) <;> rfl
@[simp] theorem freeEntry_orangery (s : State) (prio : Nat) : (freeEntry s prio).orangery = s.orangery := by
  unfold freeEntry; dsimp only; (repeat' split) <;> rfl
@[simp] theorem sendAcks_mem (s : State) (v : Wave) (needs : List Nat) (failed : Bool) : (sendAcks s v needs failed).mem = s.mem :=
  foldl_mem _ _ _ (fun _ _ => by dsimp only; (repeat' split) <;> simp)
@[simp] theorem sendAcks_orangery (s : State) (v : Wave) (needs : List Nat) (failed : Bool) : (sendAcks s v needs failed).orangery = s.orangery :=
  foldl_orangery _ _ _ (fun _ _ => by dsimp only; (repeat' split) <;> simp)
@[simp] theorem endWave_mem (s : State) (w : Nat) (failed : Bool) : (endWave s w failed).mem = s.mem := by
  unfold endWave; (repeat' split) <;> simp
@[simp] theorem endWave_orangery (s : State) (w : Nat) (failed : Bool) : (endWave s w failed).orangery = s.orangery := by
  unfold endWave; (repeat' split) <;> simp
@[simp] theorem loseTreeWave_memWf (s : State) (core w cause addr : Nat) (h : memWf s.mem = true) :
    memWf (loseTreeWave s core w cause addr).mem = true := by simp [loseTreeWave, h]
@[simp] theorem loseTreeWave_orangery (s : State) (core w cause addr : Nat) : (loseTreeWave s core w cause addr).orangery = s.orangery :=
  by simp [loseTreeWave]
@[simp] theorem stopTreeWave_memWf (s : State) (k w report cause addr : Nat) (h : memWf s.mem = true) :
    memWf (stopTreeWave s k w report cause addr).mem = true := by simp [stopTreeWave, h]
@[simp] theorem stopTreeWave_orangery (s : State) (k w report cause addr : Nat) : (stopTreeWave s k w report cause addr).orangery = s.orangery :=
  by simp [stopTreeWave]
@[simp] theorem faultPath_memWf (s : State) (l w core cause : Nat) (h : memWf s.mem = true) : memWf (faultPath s l w core cause).mem = true :=
  by simp [faultPath, h]
@[simp] theorem faultPath_orangery (s : State) (l w core cause : Nat) : (faultPath s l w core cause).orangery = s.orangery := by simp [faultPath]
@[simp] theorem faultStop_memWf (s : State) (k : Nat) (e : Entity) (v : Wave) (t : Trap) (h : memWf s.mem = true) :
    memWf (faultStop s k e v t).mem = true := by
  unfold faultStop; split <;> simp [h]
@[simp] theorem faultStop_orangery (s : State) (k : Nat) (e : Entity) (v : Wave) (t : Trap) : (faultStop s k e v t).orangery = s.orangery := by
  unfold faultStop; split <;> simp
@[simp] theorem raise_memWf (s : State) (k : Nat) (t : Trap) (async : Bool) (pc : Dword) (h : memWf s.mem = true) :
    memWf (raise s k t async pc).mem = true := by
  unfold raise; (repeat' split) <;> simp [h]
@[simp] theorem raise_orangery (s : State) (k : Nat) (t : Trap) (async : Bool) (pc : Dword) : (raise s k t async pc).orangery = s.orangery := by
  unfold raise; (repeat' split) <;> simp

/-! ### Containment -/

@[simp] theorem countUp_mem (s : State) (die k : Nat) : (countUp s die k).mem = s.mem := rfl
@[simp] theorem countUp_orangery (s : State) (die k : Nat) : (countUp s die k).orangery = s.orangery := rfl
@[simp] theorem markCore_mem (s : State) (core unit : Nat) : (markCore s core unit).mem = s.mem := rfl
@[simp] theorem markCore_orangery (s : State) (core unit : Nat) : (markCore s core unit).orangery = s.orangery := rfl
@[simp] theorem restartLaunch_mem (s : State) (l : Nat) : (restartLaunch s l).mem = s.mem := by simp [restartLaunch]
@[simp] theorem restartLaunch_orangery (s : State) (l : Nat) : (restartLaunch s l).orangery = s.orangery := by simp [restartLaunch]
@[simp] theorem relaunchAll_mem (s : State) (l : Nat) : (relaunchAll s l).mem = s.mem := by simp [relaunchAll]
@[simp] theorem relaunchAll_orangery (s : State) (l : Nat) : (relaunchAll s l).orangery = s.orangery := by simp [relaunchAll]
@[simp] theorem rerunWave_mem (s : State) (pav : Nat) (v : Wave) (n : Nat) : (rerunWave s pav v n).mem = s.mem := by
  unfold rerunWave; split <;> simp
@[simp] theorem rerunWave_orangery (s : State) (pav : Nat) (v : Wave) (n : Nat) : (rerunWave s pav v n).orangery = s.orangery := by
  unfold rerunWave; split <;> simp
@[simp] theorem containGang_memWf (s : State) (g core cause unit addr : Nat) (h : memWf s.mem = true) :
    memWf (containGang s g core cause unit addr).mem = true := by
  unfold containGang
  dsimp only
  (repeat' split) <;> first
    | (simp [h]; done)
    | exact foldl_keeps (p := fun t => memWf t.mem = true) _ _ _ (fun _ _ h => by simp [h]) (by simp [h])
@[simp] theorem containGang_orangery (s : State) (g core cause unit addr : Nat) : (containGang s g core cause unit addr).orangery = s.orangery := by
  unfold containGang
  dsimp only
  (repeat' split) <;> first
    | (simp; done)
    | exact (foldl_orangery _ _ _ (fun _ _ => by simp)).trans (by simp)
@[simp] theorem containWave_memWf (s : State) (w core cause unit addr : Nat) (h : memWf s.mem = true) :
    memWf (containWave s w core cause unit addr).mem = true := by
  unfold containWave; split <;> simp [h]
@[simp] theorem containWave_orangery (s : State) (w core cause unit addr : Nat) : (containWave s w core cause unit addr).orangery = s.orangery := by
  unfold containWave; split <;> simp
@[simp] theorem consume_memWf (s : State) (w core unit addr : Nat) (h : memWf s.mem = true) : memWf (consume s w core unit addr).mem = true :=
  by simp [consume, h]
@[simp] theorem consume_orangery (s : State) (w core unit addr : Nat) : (consume s w core unit addr).orangery = s.orangery := by simp [consume]
@[simp] theorem engineFault_memWf (s : State) (w core addr : Nat) (h : memWf s.mem = true) : memWf (engineFault s w core addr).mem = true := by
  unfold engineFault; dsimp only; split <;> simp [h]
@[simp] theorem engineFault_orangery (s : State) (w core addr : Nat) : (engineFault s w core addr).orangery = s.orangery := by
  unfold engineFault; dsimp only; split <;> simp

/-! ### Translation and parks -/

@[simp] theorem fillTlb_mem (s : State) (core : Nat) (es : List TlbEntry) : (fillTlb s core es).mem = s.mem := by
  unfold fillTlb; dsimp only; (repeat' split) <;> simp
@[simp] theorem fillTlb_orangery (s : State) (core : Nat) (es : List TlbEntry) : (fillTlb s core es).orangery = s.orangery := by
  unfold fillTlb; dsimp only; (repeat' split) <;> simp
@[simp] theorem openPark_mem (s : State) (core ent asid : Nat) (copy : Option (Nat × Nat)) (addrs : List (Nat × Nat)) :
    (openPark s core ent asid copy addrs).1.mem = s.mem := rfl
@[simp] theorem openPark_orangery (s : State) (core ent asid : Nat) (copy : Option (Nat × Nat)) (addrs : List (Nat × Nat)) :
    (openPark s core ent asid copy addrs).1.orangery = s.orangery := rfl
@[simp] theorem parkOn_mem (s : State) (k asid : Nat) (lanes : Lanes) (addrs : List (Nat × Nat)) : (parkOn s k asid lanes addrs).mem = s.mem :=
  by simp [parkOn]
@[simp] theorem parkOn_orangery (s : State) (k asid : Nat) (lanes : Lanes) (addrs : List (Nat × Nat)) :
    (parkOn s k asid lanes addrs).orangery = s.orangery := by simp [parkOn]
@[simp] theorem parkEntity_mem (s : State) (k asid : Nat) (n : Need) (lanes : Lanes) (addrs : List Nat) :
    (parkEntity s k asid n lanes addrs).mem = s.mem := by simp [parkEntity]
@[simp] theorem parkEntity_orangery (s : State) (k asid : Nat) (n : Need) (lanes : Lanes) (addrs : List Nat) :
    (parkEntity s k asid n lanes addrs).orangery = s.orangery := by simp [parkEntity]

/-! ### Words -/

@[simp] theorem noteStall_mem (s : State) (k : Nat) : (noteStall s k).mem = s.mem := by simp [noteStall]
@[simp] theorem noteStall_orangery (s : State) (k : Nat) : (noteStall s k).orangery = s.orangery := by simp [noteStall]
@[simp] theorem cleans_mem (sh : Shape) (c : Ctx) (s : State) : (sh.cleans c s).mem = s.mem := by simp [Shape.cleans]
@[simp] theorem cleans_orangery (sh : Shape) (c : Ctx) (s : State) : (sh.cleans c s).orangery = s.orangery := by simp [Shape.cleans]
@[simp] theorem goOn_mem (sh : Shape) (s : State) (k : Nat) : (goOn sh s k).mem = s.mem := by simp [goOn]
@[simp] theorem goOn_orangery (sh : Shape) (s : State) (k : Nat) : (goOn sh s k).orangery = s.orangery := by simp [goOn]
@[simp] theorem ctx_goTo_mem (c : Ctx) (pc : Dword) : (c.goTo pc).mem = c.s.mem := rfl
@[simp] theorem ctx_goTo_orangery (c : Ctx) (pc : Dword) : (c.goTo pc).orangery = c.s.orangery := rfl
@[simp] theorem ctx_park_mem (c : Ctx) (p : Park) : (c.park p).mem = c.s.mem := rfl
@[simp] theorem ctx_park_orangery (c : Ctx) (p : Park) : (c.park p).orangery = c.s.orangery := rfl
@[simp] theorem ctx_parkPast_mem (c : Ctx) (p : Park) : (c.parkPast p).mem = c.s.mem := rfl
@[simp] theorem ctx_parkPast_orangery (c : Ctx) (p : Park) : (c.parkPast p).orangery = c.s.orangery := rfl

/-! ### Accesses -/

@[simp] theorem observe_mem (s : State) (k w : Nat) (new : List Nat) : (observe s k w new).mem = s.mem := by
  unfold observe; split <;> simp
@[simp] theorem observe_orangery (s : State) (k w : Nat) (new : List Nat) : (observe s k w new).orangery = s.orangery := by
  unfold observe; split <;> simp
@[simp] theorem markSent_mem (s : State) (core : Nat) : (markSent s core).mem = s.mem := foldl_mem _ _ _ (fun _ _ => by split <;> simp)
@[simp] theorem markSent_orangery (s : State) (core : Nat) : (markSent s core).orangery = s.orangery :=
  foldl_orangery _ _ _ (fun _ _ => by split <;> simp)
@[simp] theorem committed_mem (c : Ctx) (s : State) (ie iex : Bool) : (committed c s ie iex).mem = s.mem := by simp [committed]
@[simp] theorem committed_orangery (c : Ctx) (s : State) (ie iex : Bool) : (committed c s ie iex).orangery = s.orangery := by simp [committed]
@[simp] theorem cleanScratch_mem (s : State) (core byte n : Nat) : (cleanScratch s core byte n).mem = s.mem := by simp [cleanScratch]
@[simp] theorem cleanScratch_orangery (s : State) (core byte n : Nat) : (cleanScratch s core byte n).orangery = s.orangery := by simp [cleanScratch]
@[simp] theorem cleanOrng_mem (s : State) (off n : Nat) : (cleanOrng s off n).mem = s.mem := by simp [cleanOrng]
@[simp] theorem cleanOrng_orangery (s : State) (off n : Nat) : (cleanOrng s off n).orangery = s.orangery := by simp [cleanOrng]
@[simp] theorem cleanAccess_mem (s : State) (core : Nat) (as : List Nat) (w : Nat) : (cleanAccess s core as w).mem = s.mem := by simp [cleanAccess]
@[simp] theorem cleanAccess_orangery (s : State) (core : Nat) (as : List Nat) (w : Nat) : (cleanAccess s core as w).orangery = s.orangery :=
  by simp [cleanAccess]
@[simp] theorem spadWrite_mem (s : State) (core byte : Nat) (data : List Byte) : (spadWrite s core byte data).mem = s.mem :=
  cleanScratch_mem ..
@[simp] theorem spadWrite_orangery (s : State) (core byte : Nat) (data : List Byte) : (spadWrite s core byte data).orangery = s.orangery :=
  cleanScratch_orangery ..
@[simp] theorem bump_mem (s : State) : (s.bump ).mem = s.mem := rfl
@[simp] theorem bump_orangery (s : State) : (s.bump ).orangery = s.orangery := rfl
@[simp] theorem holdAt_mem (s : State) (core ent w : Nat) (lanes : Lanes) (dst : HeldAt) (data : List Byte) (bad : Bool) :
    (holdAt s core ent w lanes dst data bad).mem = s.mem := rfl
@[simp] theorem holdAt_orangery (s : State) (core ent w : Nat) (lanes : Lanes) (dst : HeldAt) (data : List Byte) (bad : Bool) :
    (holdAt s core ent w lanes dst data bad).orangery = s.orangery := rfl
@[simp] theorem noteYoung_mem (s : State) (k w lane : Nat) (p : SpadAt) (n : Nat) : (noteYoung s k w lane p n).mem = s.mem := rfl
@[simp] theorem noteYoung_orangery (s : State) (k w lane : Nat) (p : SpadAt) (n : Nat) : (noteYoung s k w lane p n).orangery = s.orangery := rfl
@[simp] theorem holdFor_mem (s : State) (core ent w : Nat) (lanes : Lanes) (dst : HeldAt) (data : List Byte) :
    (holdFor s core ent w lanes dst data).mem = s.mem := rfl
@[simp] theorem holdFor_orangery (s : State) (core ent w : Nat) (lanes : Lanes) (dst : HeldAt) (data : List Byte) :
    (holdFor s core ent w lanes dst data).orangery = s.orangery := rfl
@[simp] theorem holdWrite_mem (s : State) (k w lane : Nat) (dst : HeldAt) (data : List Byte) : (holdWrite s k w lane dst data).mem = s.mem := rfl
@[simp] theorem holdWrite_orangery (s : State) (k w lane : Nat) (dst : HeldAt) (data : List Byte) :
    (holdWrite s k w lane dst data).orangery = s.orangery := rfl
@[simp] theorem threadStore_mem (s : State) (k w lane : Nat) (p : SpadAt) (data : List Byte) : (threadStore s k w lane p data).mem = s.mem := by
  unfold threadStore; split <;> simp
@[simp] theorem threadStore_orangery (s : State) (k w lane : Nat) (p : SpadAt) (data : List Byte) :
    (threadStore s k w lane p data).orangery = s.orangery := by
  unfold threadStore; split <;> simp
@[simp] theorem noteLink_mem (s : State) (reader core byte n : Nat) : (noteLink s reader core byte n).mem = s.mem := by
  unfold noteLink; split <;> simp
@[simp] theorem noteLink_orangery (s : State) (reader core byte n : Nat) : (noteLink s reader core byte n).orangery = s.orangery := by
  unfold noteLink; split <;> simp
@[simp] theorem prune_mem (s : State) (core : Nat) : (prune s core).mem = s.mem := by
  unfold prune; dsimp only; split <;> simp
@[simp] theorem prune_orangery (s : State) (core : Nat) : (prune s core).orangery = s.orangery := by
  unfold prune; dsimp only; split <;> simp
@[simp] theorem remember_mem (s : State) (core : Nat) : (remember s core).mem = s.mem := by simp [remember]
@[simp] theorem remember_orangery (s : State) (core : Nat) : (remember s core).orangery = s.orangery := by simp [remember]
@[simp] theorem rememberAll_mem (s : State) (cores : List Nat) : (rememberAll s cores).mem = s.mem := foldl_mem _ _ _ (fun _ _ => by simp)
@[simp] theorem rememberAll_orangery (s : State) (cores : List Nat) : (rememberAll s cores).orangery = s.orangery :=
  foldl_orangery _ _ _ (fun _ _ => by simp)
@[simp] theorem forget_mem (s : State) (k : Nat) : (forget s k).mem = s.mem := rfl
@[simp] theorem forget_orangery (s : State) (k : Nat) : (forget s k).orangery = s.orangery := rfl
@[simp] theorem lineRequest_mem (c : Ctx) (t : Nat) (acq : Bool) (d : Nat) (as : List (LaneAcc × Nat)) (s : State) (line : Nat) :
    (lineRequest c t acq d as s line).mem = s.mem := rfl
@[simp] theorem lineRequest_orangery (c : Ctx) (t : Nat) (acq : Bool) (d : Nat) (as : List (LaneAcc × Nat)) (s : State) (line : Nat) :
    (lineRequest c t acq d as s line).orangery = s.orangery := rfl
@[simp] theorem loadRequest_mem (c : Ctx) (t : Nat) (acq : Bool) (d : Nat) (s : State) (as : List (LaneAcc × Nat)) :
    (loadRequest c t acq d s as).mem = s.mem := foldl_mem _ _ _ (fun _ _ => by simp)
@[simp] theorem loadRequest_orangery (c : Ctx) (t : Nat) (acq : Bool) (d : Nat) (s : State) (as : List (LaneAcc × Nat)) :
    (loadRequest c t acq d s as).orangery = s.orangery := foldl_orangery _ _ _ (fun _ _ => by simp)
@[simp] theorem storeHeld_mem (c : Ctx) (t : Nat) (value : LaneAcc → Nat) (s : State) (a : LaneAcc) (pa : Nat) :
    (storeHeld c t value s a pa).mem = s.mem := rfl
@[simp] theorem storeHeld_orangery (c : Ctx) (t : Nat) (value : LaneAcc → Nat) (s : State) (a : LaneAcc) (pa : Nat) :
    (storeHeld c t value s a pa).orangery = s.orangery := rfl

/-! ### Divergence, barriers, EXIT -/

@[simp] theorem cleanScalars_mem (s : State) (w k : Nat) : (cleanScalars s w k).mem = s.mem := by simp [cleanScalars]
@[simp] theorem cleanScalars_orangery (s : State) (w k : Nat) : (cleanScalars s w k).orangery = s.orangery := by simp [cleanScalars]
@[simp] theorem copyScalarPoison_mem (s : State) (w k f : Nat) : (copyScalarPoison s w k f).mem = s.mem :=
  (foldl_mem _ _ _ (fun _ _ => by simp)).trans (by simp)
@[simp] theorem copyScalarPoison_orangery (s : State) (w k f : Nat) : (copyScalarPoison s w k f).orangery = s.orangery :=
  (foldl_orangery _ _ _ (fun _ _ => by simp)).trans (by simp)
@[simp] theorem diverge_mem (c : Ctx) (taken other : Lanes) (target fall token : Dword) :
    (diverge c taken other target fall token).mem = c.s.mem := by
  unfold diverge; split <;> simp
@[simp] theorem diverge_orangery (c : Ctx) (taken other : Lanes) (target fall token : Dword) :
    (diverge c taken other target fall token).orangery = c.s.orangery := by
  unfold diverge; split <;> simp
@[simp] theorem rekey_mem (s : State) (f : Nat → Nat → Nat) : (rekey s f).mem = s.mem := rfl
@[simp] theorem rekey_orangery (s : State) (f : Nat → Nat → Nat) : (rekey s f).orangery = s.orangery := rfl
@[simp] theorem adoptAll_mem (s : State) (core w : Nat) (ren : Nat → Nat) : (adoptAll s core w ren).mem = s.mem := rfl
@[simp] theorem adoptAll_orangery (s : State) (core w : Nat) (ren : Nat → Nat) : (adoptAll s core w ren).orangery = s.orangery := rfl
@[simp] theorem adopt_mem (s : State) (core w f t : Nat) : (adopt s core w f t).mem = s.mem := rfl
@[simp] theorem adopt_orangery (s : State) (core w f t : Nat) : (adopt s core w f t).orangery = s.orangery := rfl
@[simp] theorem mergePair_mem (s : State) (k : Nat) (e : Entity) (f : Nat) (g : Entity) (after : Dword) : (mergePair s k e f g after).mem = s.mem := by
  unfold mergePair; dsimp only; rw [adopt_mem, setEnt_mem, cleanScalars_mem]
@[simp] theorem mergePair_orangery (s : State) (k : Nat) (e : Entity) (f : Nat) (g : Entity) (after : Dword) :
    (mergePair s k e f g after).orangery = s.orangery := by
  unfold mergePair; dsimp only; rw [adopt_orangery, setEnt_orangery, cleanScalars_orangery]
@[simp] theorem releaseAll_mem (s : State) (p : Park) (bs : List Nat) : (releaseAll s p bs).mem = s.mem := rfl
@[simp] theorem releaseAll_orangery (s : State) (p : Park) (bs : List Nat) : (releaseAll s p bs).orangery = s.orangery := rfl
@[simp] theorem balance_mem (s : State) (first last : Nat) : (balance s first last).mem = s.mem := by
  unfold balance; dsimp only; (repeat' split) <;> simp
@[simp] theorem balance_orangery (s : State) (first last : Nat) : (balance s first last).orangery = s.orangery := by
  unfold balance; dsimp only; (repeat' split) <;> simp
@[simp] theorem balanceRelease_mem (s : State) (l k : Nat) : (balanceRelease s l k).mem = s.mem := by
  unfold balanceRelease; dsimp only; (repeat' split) <;> simp
@[simp] theorem balanceRelease_orangery (s : State) (l k : Nat) : (balanceRelease s l k).orangery = s.orangery := by
  unfold balanceRelease; dsimp only; (repeat' split) <;> simp
@[simp] theorem noteRelease_mem (s : State) (g : Nat) : (noteRelease s g).mem = s.mem := by
  unfold noteRelease; (repeat' split) <;> simp
@[simp] theorem noteRelease_orangery (s : State) (g : Nat) : (noteRelease s g).orangery = s.orangery := by
  unfold noteRelease; (repeat' split) <;> simp
@[simp] theorem gangRelease_mem (s : State) (gang : Nat) (g : Gang) : (gangRelease s gang g).mem = s.mem := by
  unfold gangRelease
  dsimp only
  split
  · rw [setGang_mem]
    exact foldl_mem _ _ _ (fun s x => dropL1_mem ..)
  · rw [noteRelease_mem, setGang_mem]
    exact foldl_mem _ _ _ (fun s x => dropL1_mem ..)
@[simp] theorem gangRelease_orangery (s : State) (gang : Nat) (g : Gang) : (gangRelease s gang g).orangery = s.orangery := by
  unfold gangRelease
  dsimp only
  split
  · rw [setGang_orangery]
    exact foldl_orangery _ _ _ (fun s x => dropL1_orangery ..)
  · rw [noteRelease_orangery, setGang_orangery]
    exact foldl_orangery _ _ _ (fun s x => dropL1_orangery ..)
@[simp] theorem passReleased_mem (s : State) (g : Gang) : (passReleased s g).mem = s.mem :=
  foldl_mem _ _ _ (fun _ _ => by dsimp only; (repeat' split) <;> simp)
@[simp] theorem passReleased_orangery (s : State) (g : Gang) : (passReleased s g).orangery = s.orangery :=
  foldl_orangery _ _ _ (fun _ _ => by dsimp only; (repeat' split) <;> simp)
@[simp] theorem checkBarriers_mem (s : State) (block : Nat) : (checkBarriers s block).mem = s.mem := by
  unfold checkBarriers; dsimp only; (repeat' split) <;> simp
@[simp] theorem checkBarriers_orangery (s : State) (block : Nat) : (checkBarriers s block).orangery = s.orangery := by
  unfold checkBarriers; dsimp only; (repeat' split) <;> simp
@[simp] theorem closePair_mem (s : State) (k partner : Nat) (outer : List Pair) (gone : List Nat) : (closePair s k partner outer gone).mem = s.mem :=
  rfl
@[simp] theorem closePair_orangery (s : State) (k partner : Nat) (outer : List Pair) (gone : List Nat) :
    (closePair s k partner outer gone).orangery = s.orangery := rfl
@[simp] theorem exitPairs_mem (s : State) (k : Nat) (e : Entity) : (exitPairs s k e).mem = s.mem := by
  unfold exitPairs; (repeat' split) <;> simp
@[simp] theorem exitPairs_orangery (s : State) (k : Nat) (e : Entity) : (exitPairs s k e).orangery = s.orangery := by
  unfold exitPairs; (repeat' split) <;> simp
@[simp] theorem sprWrite_mem (c : Ctx) (i : Nat) (v : Dword) : (sprWrite c i v).mem = c.s.mem := by
  unfold sprWrite; split <;> simp
@[simp] theorem sprWrite_orangery (c : Ctx) (i : Nat) (v : Dword) : (sprWrite c i v).orangery = c.s.orangery := by
  unfold sprWrite; split <;> simp

/-! ### Scratchpads -/

@[simp] theorem linkAll_mem (c : Ctx) (gang : Bool) (w : Nat) (as : List SpadAcc) (s : State) : (linkAll c gang w as s).mem = s.mem :=
  foldl_mem _ _ _ (fun _ _ => by split <;> simp)
@[simp] theorem linkAll_orangery (c : Ctx) (gang : Bool) (w : Nat) (as : List SpadAcc) (s : State) : (linkAll c gang w as s).orangery = s.orangery :=
  foldl_orangery _ _ _ (fun _ _ => by split <;> simp)
@[simp] theorem cleanBeats_mem (c : Ctx) (gang : Bool) (w : Nat) (as : List SpadAcc) (s : State) : (cleanBeats c gang w as s).mem = s.mem := by
  unfold cleanBeats
  split
  · rfl
  · exact foldl_mem _ _ _ (fun _ _ => foldl_mem _ _ _ (fun _ _ => by split <;> simp))
@[simp] theorem cleanBeats_orangery (c : Ctx) (gang : Bool) (w : Nat) (as : List SpadAcc) (s : State) :
    (cleanBeats c gang w as s).orangery = s.orangery := by
  unfold cleanBeats
  split
  · rfl
  · exact foldl_orangery _ _ _ (fun _ _ => foldl_orangery _ _ _ (fun _ _ => by split <;> simp))
@[simp] theorem spadStores_mem (c : Ctx) (gang : Bool) (w : Nat) (value : Nat → Nat) (as : List SpadAcc) (s : State) :
    (spadStores c gang w value as s).mem = s.mem :=
  (cleanBeats_mem ..).trans (foldl_mem _ _ _ (fun _ _ => by split <;> simp))
@[simp] theorem spadStores_orangery (c : Ctx) (gang : Bool) (w : Nat) (value : Nat → Nat) (as : List SpadAcc) (s : State) :
    (spadStores c gang w value as s).orangery = s.orangery :=
  (cleanBeats_orangery ..).trans (foldl_orangery _ _ _ (fun _ _ => by split <;> simp))

/-! ### Atomics and bank operations -/

@[simp] theorem sendAtomic_mem (c : Ctx) (d : Reg) (op : Nat) (acq : Bool) (s : State) (a : LaneAcc) (pa : Nat) :
    (sendAtomic c d op acq s a pa).mem = s.mem := by simp [sendAtomic]
@[simp] theorem sendAtomic_orangery (c : Ctx) (d : Reg) (op : Nat) (acq : Bool) (s : State) (a : LaneAcc) (pa : Nat) :
    (sendAtomic c d op acq s a pa).orangery = s.orangery := by simp [sendAtomic]
@[simp] theorem sendBank_mem (c : Ctx) (s : State) (lanes : Lanes) (off : Nat) (kind : BankKind) (reg : Option (Nat × Option Nat)) (wide acq : Bool) :
    (sendBank c s lanes off kind reg wide acq).mem = s.mem := rfl
@[simp] theorem sendBank_orangery (c : Ctx) (s : State) (lanes : Lanes) (off : Nat) (kind : BankKind) (reg : Option (Nat × Option Nat)) (wide acq : Bool) :
    (sendBank c s lanes off kind reg wide acq).orangery = s.orangery := rfl
@[simp] theorem afterAcquire_mem (s : State) (core scope : Nat) : (afterAcquire s core scope).mem = s.mem := by
  unfold afterAcquire; split <;> simp
@[simp] theorem afterAcquire_orangery (s : State) (core scope : Nat) : (afterAcquire s core scope).orangery = s.orangery := by
  unfold afterAcquire; split <;> simp

/-! ### Result objects -/

@[simp] theorem objWrite_mem (s : State) (off x : Nat) : (objWrite s off x).mem = s.mem := rfl
@[simp] theorem objWrite_orangeryWf (s : State) (off x : Nat) (h : memWf s.orangery = true) : memWf (objWrite s off x).orangery = true :=
  by simp [objWrite, h]
@[simp] theorem orngPut_mem (s : State) (off : Nat) (m : Memory) : (orngPut s off m).mem = s.mem := rfl
@[simp] theorem ctx_waitOn_mem (c : Ctx) (keys : List WaitKey) : (c.waitOn keys).mem = c.s.mem := rfl
@[simp] theorem ctx_waitOn_orangery (c : Ctx) (keys : List WaitKey) : (c.waitOn keys).orangery = c.s.orangery := rfl
@[simp] theorem wakeLine_mem (s : State) (off : Nat) : (wakeLine s off).mem = s.mem := rfl
@[simp] theorem wakeLine_orangery (s : State) (off : Nat) : (wakeLine s off).orangery = s.orangery := rfl
@[simp] theorem sendPass_mem (c : Ctx) (s : State) (handle : Word) (kind : PassKind) (dep : List Nat) : (sendPass c s handle kind dep).mem = s.mem :=
  rfl
@[simp] theorem sendPass_orangery (c : Ctx) (s : State) (handle : Word) (kind : PassKind) (dep : List Nat) :
    (sendPass c s handle kind dep).orangery = s.orangery := rfl
@[simp] theorem ctx_hold_mem (c : Ctx) (s : State) : (c.hold s).mem = s.mem := by simp [Ctx.hold]
@[simp] theorem ctx_hold_orangery (c : Ctx) (s : State) : (c.hold s).orangery = s.orangery := by simp [Ctx.hold]
@[simp] theorem answer_mem (s : State) (m : PassMsg) (off : Nat) (kind : AnswerKind) : (answer s m off kind).mem = s.mem := rfl
@[simp] theorem answer_orangery (s : State) (m : PassMsg) (off : Nat) (kind : AnswerKind) : (answer s m off kind).orangery = s.orangery := rfl
@[simp] theorem passAt_memWf (s : State) (m : PassMsg) (off obj reg : Nat) (h : memWf s.mem = true) :
    memWf (passAt s m off obj reg).mem = true := by
  unfold passAt; (repeat' split) <;> simp [h]
@[simp] theorem passAt_orangeryWf (s : State) (m : PassMsg) (off obj reg : Nat) (h : memWf s.orangery = true) :
    memWf (passAt s m off obj reg).orangery = true := by
  unfold passAt; (repeat' split) <;> simp [h]
@[simp] theorem sealAt_memWf (s : State) (m : PassMsg) (off : Nat) (q : Word) (h : memWf s.mem = true) :
    memWf (sealAt s m off q).mem = true := by
  unfold sealAt; dsimp only; (repeat' split) <;> simp [h]
@[simp] theorem sealAt_orangeryWf (s : State) (m : PassMsg) (off : Nat) (q : Word) (h : memWf s.orangery = true) :
    memWf (sealAt s m off q).orangery = true := by
  unfold sealAt; dsimp only; (repeat' split) <;> simp [h]
@[simp] theorem orngPut_orangeryWf (s : State) (off : Nat) (m : Memory) (h : memWf s.orangery = true) (hm : memWf m = true) :
    memWf (orngPut s off m).orangery = true := by
  unfold orngPut; dsimp only; split <;> assumption
@[simp] theorem vgetAt_memWf (s : State) (m : PassMsg) (off reg : Nat) (h : memWf s.mem = true) : memWf (vgetAt s m off reg).mem = true := by
  unfold vgetAt; split <;> simp [h]
@[simp] theorem vgetAt_orangery (s : State) (m : PassMsg) (off reg : Nat) : (vgetAt s m off reg).orangery = s.orangery := by
  unfold vgetAt; split <;> simp
@[simp] theorem vpinAt_memWf (s : State) (m : PassMsg) (off reg : Nat) (h : memWf s.mem = true) : memWf (vpinAt s m off reg).mem = true := by
  unfold vpinAt; (repeat' split) <;> simp [h]
@[simp] theorem vpinAt_orangeryWf (s : State) (m : PassMsg) (off reg : Nat) (h : memWf s.orangery = true) :
    memWf (vpinAt s m off reg).orangery = true := by
  unfold vpinAt; (repeat' split) <;> simp [h]
@[simp] theorem vrelAt_memWf (s : State) (m : PassMsg) (off slot : Nat) (h : memWf s.mem = true) :
    memWf (vrelAt s m off slot).mem = true := by
  unfold vrelAt; (repeat' split) <;> simp [h]
@[simp] theorem vrelAt_orangeryWf (s : State) (m : PassMsg) (off slot : Nat) (h : memWf s.orangery = true) :
    memWf (vrelAt s m off slot).orangery = true := by
  unfold vrelAt; (repeat' split) <;> simp [h]
@[simp] theorem slotAnswer_mem (s : State) (a : Answer) (e : Entity) (obj reg : Nat) (addr : Dword) (pass : Word) :
    (slotAnswer s a e obj reg addr pass).mem = s.mem := by simp [slotAnswer]
@[simp] theorem slotAnswer_orangery (s : State) (a : Answer) (e : Entity) (obj reg : Nat) (addr : Dword) (pass : Word) :
    (slotAnswer s a e obj reg addr pass).orangery = s.orangery := by simp [slotAnswer]
@[simp] theorem passWait_mem (s : State) (a : Answer) (e : Entity) (obj : Nat) : (passWait s a e obj).mem = s.mem := rfl
@[simp] theorem passWait_orangery (s : State) (a : Answer) (e : Entity) (obj : Nat) : (passWait s a e obj).orangery = s.orangery := rfl

/-! ### Copies -/

@[simp] theorem copyWrite_mem (s : State) (core : Nat) (x : Copy) (q j : Nat) (data : List Byte) (bad : Bool) :
    (copyWrite s core x q j data bad).mem = s.mem := by
  unfold copyWrite; dsimp only; (repeat' split) <;> simp
@[simp] theorem copyWrite_orangery (s : State) (core : Nat) (x : Copy) (q j : Nat) (data : List Byte) (bad : Bool) :
    (copyWrite s core x q j data bad).orangery = s.orangery := by
  unfold copyWrite; dsimp only; (repeat' split) <;> simp
@[simp] theorem copyRow_mem (s : State) (core : Nat) (x : Copy) (q : Nat) : (copyRow s core x q).mem = s.mem :=
  (bump_mem _).trans (foldl_mem _ _ _ (fun _ _ => by simp))
@[simp] theorem copyRow_orangery (s : State) (core : Nat) (x : Copy) (q : Nat) : (copyRow s core x q).orangery = s.orangery :=
  (bump_orangery _).trans (foldl_orangery _ _ _ (fun _ _ => by simp))
@[simp] theorem wakeTags_mem (s : State) (block : Nat) : (wakeTags s block).mem = s.mem := by
  unfold wakeTags; split <;> simp
@[simp] theorem wakeTags_orangery (s : State) (block : Nat) : (wakeTags s block).orangery = s.orangery := by
  unfold wakeTags; split <;> simp
@[simp] theorem finishCopy_mem (s : State) (core : Nat) (x : Copy) : (finishCopy s core x).mem = s.mem := by simp [finishCopy]
@[simp] theorem finishCopy_orangery (s : State) (core : Nat) (x : Copy) : (finishCopy s core x).orangery = s.orangery := by simp [finishCopy]
@[simp] theorem settleCopy_mem (s : State) (core k : Nat) (x : Copy) : (settleCopy s core k x).mem = s.mem := by
  unfold settleCopy; split <;> simp
@[simp] theorem settleCopy_orangery (s : State) (core k : Nat) (x : Copy) : (settleCopy s core k x).orangery = s.orangery := by
  unfold settleCopy; split <;> simp

/-! ### The matrix engine -/

@[simp] theorem wakeTile_mem (s : State) (core z : Nat) : (wakeTile s core z).mem = s.mem := rfl
@[simp] theorem wakeTile_orangery (s : State) (core z : Nat) : (wakeTile s core z).orangery = s.orangery := rfl
@[simp] theorem raiseAsn_mem (o : EngineOp) (s : State) (core : Nat) : (raiseAsn o s core).mem = s.mem := rfl
@[simp] theorem raiseAsn_orangery (o : EngineOp) (s : State) (core : Nat) : (raiseAsn o s core).orangery = s.orangery := rfl
@[simp] theorem linkGrid_mem (s : State) (o : EngineOp) : (linkGrid s o).mem = s.mem := by
  first
  | rfl
  | (unfold linkGrid; (try dsimp only); (repeat' split) <;> first
    | rfl
    | (simp; done)
    | (refine (foldl_mem _ _ _ ?_).trans ?_ <;> first | rfl | (simp; done) | (intro s x; (try dsimp only); (repeat' split) <;> first | rfl | (simp; done))))
@[simp] theorem linkGrid_orangery (s : State) (o : EngineOp) : (linkGrid s o).orangery = s.orangery := by
  first
  | rfl
  | (unfold linkGrid; (try dsimp only); (repeat' split) <;> first
    | rfl
    | (simp; done)
    | (refine (foldl_orangery _ _ _ ?_).trans ?_ <;> first | rfl | (simp; done) | (intro s x; (try dsimp only); (repeat' split) <;> first | rfl | (simp; done))))
@[simp] theorem completeOp_mem (s : State) (o : EngineOp) : (completeOp s o).mem = s.mem := by
  first
  | rfl
  | (unfold completeOp; (try dsimp only); (repeat' split) <;> first
    | rfl
    | (simp; done)
    | (refine (foldl_mem _ _ _ ?_).trans ?_ <;> first | rfl | (simp; done) | (intro s x; (try dsimp only); (repeat' split) <;> first | rfl | (simp; done))))
@[simp] theorem completeOp_orangery (s : State) (o : EngineOp) : (completeOp s o).orangery = s.orangery := by
  first
  | rfl
  | (unfold completeOp; (try dsimp only); (repeat' split) <;> first
    | rfl
    | (simp; done)
    | (refine (foldl_orangery _ _ _ ?_).trans ?_ <;> first | rfl | (simp; done) | (intro s x; (try dsimp only); (repeat' split) <;> first | rfl | (simp; done))))
@[simp] theorem finishPart_mem (s : State) (core : Nat) (o : EngineOp) : (finishPart s core o).mem = s.mem := by
  unfold finishPart; dsimp only; split <;> simp
@[simp] theorem finishPart_orangery (s : State) (core : Nat) (o : EngineOp) : (finishPart s core o).orangery = s.orangery := by
  unfold finishPart; dsimp only; split <;> simp
@[simp] theorem startRun_mem (s : State) (core : Nat) (o : EngineOp) : (startRun s core o).mem = s.mem := by
  unfold startRun; split <;> simp
@[simp] theorem startRun_orangery (s : State) (core : Nat) (o : EngineOp) : (startRun s core o).orangery = s.orangery := by
  unfold startRun; split <;> simp
@[simp] theorem handOver_mem (s : State) (core : Nat) : (handOver s core).mem = s.mem := by
  unfold handOver; (repeat' split) <;> simp
@[simp] theorem handOver_orangery (s : State) (core : Nat) : (handOver s core).orangery = s.orangery := by
  unfold handOver; (repeat' split) <;> simp
@[simp] theorem mapRuns_mem (s : State) (o : EngineOp) (f : EngineRun → EngineRun) : (mapRuns s o f).mem = s.mem :=
  foldl_mem _ _ _ (fun _ _ => by simp)
@[simp] theorem mapRuns_orangery (s : State) (o : EngineOp) (f : EngineRun → EngineRun) : (mapRuns s o f).orangery = s.orangery :=
  foldl_orangery _ _ _ (fun _ _ => by simp)
@[simp] theorem stepEffect_mem (s : State) (r : EngineRun) (pieces : List (Nat → Nat → Word)) : (stepEffect s r pieces).mem = s.mem := by
  unfold stepEffect
  dsimp only
  rw [foldl_mem _ _ _ (fun s x => handOver_mem s x), mapRuns_mem, linkGrid_mem, foldl_mem]
  intro s x; rfl
@[simp] theorem stepEffect_orangery (s : State) (r : EngineRun) (pieces : List (Nat → Nat → Word)) :
    (stepEffect s r pieces).orangery = s.orangery := by
  unfold stepEffect
  dsimp only
  rw [foldl_orangery _ _ _ (fun s x => handOver_orangery s x), mapRuns_orangery, linkGrid_orangery, foldl_orangery]
  intro s x; rfl
@[simp] theorem cleanTile_mem (s : State) (core z : Nat) : (cleanTile s core z).mem = s.mem := by simp [cleanTile]
@[simp] theorem cleanTile_orangery (s : State) (core z : Nat) : (cleanTile s core z).orangery = s.orangery := by simp [cleanTile]
@[simp] theorem plainEffect_mem (s : State) (o : EngineOp) : (plainEffect s o).mem = s.mem := by
  unfold plainEffect
  split
  · exact foldl_mem _ _ _ (fun _ _ => by simp)
  all_goals simp
@[simp] theorem plainEffect_orangery (s : State) (o : EngineOp) : (plainEffect s o).orangery = s.orangery := by
  unfold plainEffect
  split
  · exact foldl_orangery _ _ _ (fun _ _ => by simp)
  all_goals simp
theorem holdCause_same {s t : State} {k w : Nat} {c : AsyncCause} (h : holdCause s k w c = some t) : t.mem = s.mem ∧ t.orangery = s.orangery := by
  unfold holdCause at h
  dsimp only at h
  repeat' split at h
  all_goals first | (cases h; done) | (cases h; simp) | (cases h; exact ⟨rfl, rfl⟩)

/-- A cause that is held, or what is done where no entity can hold it. -/
theorem holdCause_keeps {p : State → Prop} {s u : State} {k w : Nat} {c : AsyncCause} (hu : p u) (ht : ∀ t, holdCause s k w c = some t → p t) :
    p ((holdCause s k w c).getD u) := by
  cases h : holdCause s k w c with
  | none => exact hu
  | some t => exact ht t h
@[simp] theorem hangOrRecord_memWf (s : State) (k w lid core : Nat) (h : memWf s.mem = true) : memWf (hangOrRecord s k w lid core).mem = true := by
  unfold hangOrRecord
  exact holdCause_keeps (p := fun t => memWf t.mem = true) (by simp [h]) (fun t ht => by rw [(holdCause_same ht).1]; exact h)
@[simp] theorem hangOrRecord_orangery (s : State) (k w lid core : Nat) : (hangOrRecord s k w lid core).orangery = s.orangery := by
  unfold hangOrRecord
  exact holdCause_keeps (p := fun t => t.orangery = s.orangery) (by simp) (fun t ht => (holdCause_same ht).2)

/-! ### Futures and generators -/

@[simp] theorem dueBins_mem (s : State) (off : Nat) : (dueBins s off).mem = s.mem := rfl
@[simp] theorem dueBins_orangery (s : State) (off : Nat) : (dueBins s off).orangery = s.orangery := rfl
@[simp] theorem futureValues_mem (c : Ctx) (d : Reg) (ok : List (LaneAcc × Nat)) : (futureValues c d ok).mem = c.s.mem := by simp [futureValues]
@[simp] theorem futureValues_orangery (c : Ctx) (d : Reg) (ok : List (LaneAcc × Nat)) : (futureValues c d ok).orangery = c.s.orangery :=
  by simp [futureValues]
@[simp] theorem futureWait_mem (c : Ctx) (empty : List Nat) : (futureWait c empty).mem = c.s.mem := rfl
@[simp] theorem futureWait_orangery (c : Ctx) (empty : List Nat) : (futureWait c empty).orangery = c.s.orangery := rfl
@[simp] theorem sendFill_mem (c : Ctx) (d : Reg) (s : State) (a : LaneAcc) (pa : Nat) : (sendFill c d s a pa).mem = s.mem := by simp [sendFill]
@[simp] theorem sendFill_orangery (c : Ctx) (d : Reg) (s : State) (a : LaneAcc) (pa : Nat) : (sendFill c d s a pa).orangery = s.orangery :=
  by simp [sendFill]
@[simp] theorem pleatSet_mem (c : Ctx) (buf : Nat) (s : State) (fs : List (Nat × Nat × Nat)) : (pleatSet c buf s fs).mem = s.mem :=
  foldl_mem _ _ _ (fun _ _ => by simp)
@[simp] theorem pleatSet_orangery (c : Ctx) (buf : Nat) (s : State) (fs : List (Nat × Nat × Nat)) : (pleatSet c buf s fs).orangery = s.orangery :=
  foldl_orangery _ _ _ (fun _ _ => by simp)
@[simp] theorem commitGroup_mem (c : Ctx) (g : Gen) : (commitGroup c g).mem = c.s.mem := by simp [commitGroup]
@[simp] theorem commitGroup_orangery (c : Ctx) (g : Gen) : (commitGroup c g).orangery = c.s.orangery := by simp [commitGroup]
@[simp] theorem loadConsumer_memWf (c : Ctx) (g : Gen) (e : Entity) (v : Wave) (h : memWf c.s.mem = true) : memWf (loadConsumer c g e v).mem = true := by
  unfold loadConsumer; dsimp only; split <;> simp [h]
@[simp] theorem loadConsumer_orangery (c : Ctx) (g : Gen) (e : Entity) (v : Wave) : (loadConsumer c g e v).orangery = c.s.orangery := by
  unfold loadConsumer; dsimp only; split <;> simp
@[simp] theorem generatorSwitch_memWf (c : Ctx) (g : Gen) (pc : Dword) (h : memWf c.s.mem = true) : memWf (generatorSwitch c g pc).mem = true := by
  unfold generatorSwitch
  refine loadConsumer_memWf _ _ _ _ ?_
  rw [show ∀ s, (c.withState s).s = s from fun _ => rfl, pleatSet_mem]
  exact h
@[simp] theorem generatorSwitch_orangery (c : Ctx) (g : Gen) (pc : Dword) : (generatorSwitch c g pc).orangery = c.s.orangery := by
  unfold generatorSwitch
  rw [loadConsumer_orangery]
  exact pleatSet_orangery ..
@[simp] theorem generatorResume_memWf (c : Ctx) (g : Gen) (done : Bool) (h : memWf c.s.mem = true) : memWf (generatorResume c g done).mem = true := by
  unfold generatorResume; dsimp only; split <;> simp [h]
@[simp] theorem generatorResume_orangery (c : Ctx) (g : Gen) (done : Bool) : (generatorResume c g done).orangery = c.s.orangery := by
  unfold generatorResume; dsimp only; split <;> simp

/-! ### The Bobbin -/

@[simp] theorem clearTiles_mem (s : State) (core : Nat) : (clearTiles s core).mem = s.mem := by
  unfold clearTiles; split <;> simp
@[simp] theorem clearTiles_orangery (s : State) (core : Nat) : (clearTiles s core).orangery = s.orangery := by
  unfold clearTiles; split <;> simp
@[simp] theorem usePav_mem (s : State) (pav : Nat) : (usePav s pav).mem = s.mem := rfl
@[simp] theorem usePav_orangery (s : State) (pav : Nat) : (usePav s pav).orangery = s.orangery := rfl
@[simp] theorem startSingle_mem (s : State) (core key : Nat) (v : Wave) (e : Entity) (frames ntags relaunch : Nat) :
    (startSingle s core key v e frames ntags relaunch).mem = s.mem := by simp [startSingle]
@[simp] theorem startSingle_orangery (s : State) (core key : Nat) (v : Wave) (e : Entity) (frames ntags relaunch : Nat) :
    (startSingle s core key v e frames ntags relaunch).orangery = s.orangery := by simp [startSingle]
theorem deliverAll_keeps {p : State → Prop} {f : State → Child → Option State} (hf : ∀ s c t, p s → f s c = some t → p t) (l : List (Nat × Child))
    (s : State) (h : p s) : p (deliverAll f s l).1 := by
  induction l generalizing s with
  | nil => exact h
  | cons x r ih =>
    simp only [deliverAll]
    split
    · exact ih _ (hf _ _ _ h ‹_›)
    · exact h
@[simp] theorem binWave_mem (s : State) (b : Bin) (core key : Nat) (reserved : Bool) :
    (binWave s b core key reserved).mem = s.mem := by
  unfold binWave
  dsimp only
  split
  · rw [startSingle_mem]; split <;> simp
  · rw [startSingle_mem, setTree_mem]
@[simp] theorem binWave_orangery (s : State) (b : Bin) (core key : Nat) (reserved : Bool) :
    (binWave s b core key reserved).orangery = s.orangery := by
  unfold binWave
  dsimp only
  split
  · rw [startSingle_orangery]; split <;> simp
  · rw [startSingle_orangery, setTree_orangery]
@[simp] theorem countStarve_mem (s : State) (prio : Nat) : (countStarve s prio).mem = s.mem := rfl
@[simp] theorem countStarve_orangery (s : State) (prio : Nat) : (countStarve s prio).orangery = s.orangery := rfl
@[simp] theorem setSpillRing_mem (s : State) (o : Owner) (r : List Child) : (setSpillRing s o r).mem = s.mem := by
  unfold setSpillRing; (repeat' split) <;> simp
@[simp] theorem setSpillRing_orangery (s : State) (o : Owner) (r : List Child) : (setSpillRing s o r).orangery = s.orangery := by
  unfold setSpillRing; (repeat' split) <;> simp
@[simp] theorem spillWrite_memWf (s : State) (die : Nat) (o : Owner) (off : Nat) (data : List Byte) (h : memWf s.mem = true) :
    memWf (spillWrite s die o off data).mem = true := by
  unfold spillWrite; split <;> simp [h]
@[simp] theorem spillWrite_orangery (s : State) (die : Nat) (o : Owner) (off : Nat) (data : List Byte) :
    (spillWrite s die o off data).orangery = s.orangery := by
  unfold spillWrite; split <;> simp
@[simp] theorem countRing_mem (s : State) (o : Owner) : (countRing s o).mem = s.mem := by
  unfold countRing; (repeat' split) <;> simp
@[simp] theorem countRing_orangery (s : State) (o : Owner) : (countRing s o).orangery = s.orangery := by
  unfold countRing; (repeat' split) <;> simp

/-! ### Packets and windows -/

@[simp] theorem acceptPacket_mem (s : State) (p : Packet) : (acceptPacket s p).1.mem = s.mem := by
  unfold acceptPacket; (repeat' split) <;> rfl
@[simp] theorem acceptPacket_orangery (s : State) (p : Packet) : (acceptPacket s p).1.orangery = s.orangery := by
  unfold acceptPacket; (repeat' split) <;> rfl
@[simp] theorem packetLeaves_mem (s : State) (k : Nat) (p : Packet) : (packetLeaves s k p).mem = s.mem := by
  unfold packetLeaves; (repeat' split) <;> simp
@[simp] theorem packetLeaves_orangery (s : State) (k : Nat) (p : Packet) : (packetLeaves s k p).orangery = s.orangery := by
  unfold packetLeaves; (repeat' split) <;> simp
@[simp] theorem statusBack_mem (s : State) (m : StatusMsg) (st : Nat) : (statusBack s m st).mem = s.mem := by
  unfold statusBack; dsimp only; (repeat' split) <;> simp
@[simp] theorem statusBack_orangery (s : State) (m : StatusMsg) (st : Nat) : (statusBack s m st).orangery = s.orangery := by
  unfold statusBack; dsimp only; (repeat' split) <;> simp
@[simp] theorem remoteFault_memWf (s : State) (ent wave : Nat) (o : Owner) (addr : Nat) (h : memWf s.mem = true) :
    memWf (remoteFault s ent wave o addr).mem = true := by
  unfold remoteFault
  exact holdCause_keeps (p := fun t => memWf t.mem = true) (by simp [h]) (fun t ht => by rw [(holdCause_same ht).1]; exact h)
@[simp] theorem remoteFault_orangery (s : State) (ent wave : Nat) (o : Owner) (addr : Nat) :
    (remoteFault s ent wave o addr).orangery = s.orangery := by
  unfold remoteFault
  exact holdCause_keeps (p := fun t => t.orangery = s.orangery) (by simp) (fun t ht => (holdCause_same ht).2)
@[simp] theorem countWord_mem (s : State) (off n : Nat) : (countWord s off n).mem = s.mem := rfl
@[simp] theorem countWord_orangeryWf (s : State) (off n : Nat) (h : memWf s.orangery = true) : memWf (countWord s off n).orangery = true :=
  by simp [countWord, h]
@[simp] theorem reduceDone_memWf (s : State) (win : Nat) (w : Window) (h : memWf s.mem = true) : memWf (reduceDone s win w).mem = true :=
  by simp [reduceDone, h]
@[simp] theorem reduceDone_orangeryWf (s : State) (win : Nat) (w : Window) (h : memWf s.orangery = true) :
    memWf (reduceDone s win w).orangery = true := by simp [reduceDone, h]

/-! ### Banks and homes -/

@[simp] theorem decrementAt_memWf (s : State) (o : BankOp) (owner : Owner) (count : Nat) (h : memWf s.mem = true) :
    memWf (decrementAt s o owner count).mem = true := by
  have hf := foldl_keeps (p := fun t => memWf t.mem = true) (fun s (_ : Nat) => eventRecord s (lidOf s owner) 1 0x31 o.core o.off)
    (List.range (count - rdN s.orangery o.off 4)) (orngPut s o.off (wrN s.orangery o.off 4 (rdN s.orangery o.off 4 - count)))
    (fun _ _ h => by simp [h]) (by simp [h])
  unfold decrementAt
  dsimp only
  split
  · rw [wakeLine_mem]; exact hf
  · exact hf
@[simp] theorem decrementAt_orangeryWf (s : State) (o : BankOp) (owner : Owner) (count : Nat) (h : memWf s.orangery = true) :
    memWf (decrementAt s o owner count).orangery = true := by
  have hf := foldl_keeps (p := fun t => memWf t.orangery = true) (fun s (_ : Nat) => eventRecord s (lidOf s owner) 1 0x31 o.core o.off)
    (List.range (count - rdN s.orangery o.off 4)) (orngPut s o.off (wrN s.orangery o.off 4 (rdN s.orangery o.off 4 - count)))
    (fun _ _ h => by simp [h]) (by simp [h])
  unfold decrementAt
  dsimp only
  split
  · rw [wakeLine_orangery]; exact hf
  · exact hf
@[simp] theorem bankReply_mem (s : State) (o : BankOp) (v : Option Dword) : (bankReply s o v).mem = s.mem := by
  unfold bankReply; (repeat' split) <;> simp
@[simp] theorem bankReply_orangery (s : State) (o : BankOp) (v : Option Dword) : (bankReply s o v).orangery = s.orangery := by
  unfold bankReply; (repeat' split) <;> simp
@[simp] theorem ordxAt_wf (m : Memory) (line op k : Nat) (v : Dword) (h : memWf m = true) : memWf (ordxAt m line op k v) = true := by
  unfold ordxAt
  dsimp only
  split
  · exact h
  · split
    · exact wrN_wf _ _ _ (wrN_wf _ _ _ (wrN_wf _ _ _ h))
    · exact wrN_wf _ _ _ (wrN_wf _ _ _ h)
@[simp] theorem bankEffect_memWf (s : State) (o : BankOp) (h : memWf s.mem = true) : memWf (bankEffect s o).mem = true := by
  unfold bankEffect; dsimp only; (repeat' split) <;> simp [h]
@[simp] theorem bankEffect_orangeryWf (s : State) (o : BankOp) (h : memWf s.orangery = true) : memWf (bankEffect s o).orangery = true := by
  unfold bankEffect; dsimp only; (repeat' split) <;> simp [h]
@[simp] theorem BankOp.cleans_mem (s : State) (o : BankOp) : (BankOp.cleans s o).mem = s.mem := by
  unfold BankOp.cleans; (repeat' split) <;> simp
@[simp] theorem BankOp.cleans_orangery (s : State) (o : BankOp) : (BankOp.cleans s o).orangery = s.orangery := by
  unfold BankOp.cleans; (repeat' split) <;> simp
@[simp] theorem homePoison_mem (s : State) (ops : List HomeOp) : (homePoison s ops).mem = s.mem := by
  unfold homePoison; dsimp only; (repeat' split) <;> simp
@[simp] theorem homePoison_orangery (s : State) (ops : List HomeOp) : (homePoison s ops).orangery = s.orangery := by
  unfold homePoison; dsimp only; (repeat' split) <;> simp
@[simp] theorem homeEffect_memWf (s : State) (o : HomeOp) (h : memWf s.mem = true) : memWf (homeEffect s o).mem = true := by
  unfold homeEffect; split <;> simp [h]
@[simp] theorem homeEffect_orangery (s : State) (o : HomeOp) : (homeEffect s o).orangery = s.orangery := by
  unfold homeEffect; split <;> simp
@[simp] theorem deliverReply_mem (s : State) (r : Reply) (vs : NMap Dword) : (deliverReply s r vs).mem = s.mem := by simp [deliverReply]
@[simp] theorem deliverReply_orangery (s : State) (r : Reply) (vs : NMap Dword) : (deliverReply s r vs).orangery = s.orangery :=
  by simp [deliverReply]
@[simp] theorem countMiss_mem (s : State) (a : Nat) : (countMiss s a).mem = s.mem := by
  unfold countMiss; (repeat' split) <;> simp
@[simp] theorem countMiss_orangery (s : State) (a : Nat) : (countMiss s a).orangery = s.orangery := by
  unfold countMiss; (repeat' split) <;> simp
@[simp] theorem fillL1_mem (s : State) (core a n : Nat) : (fillL1 s core a n).mem = s.mem := rfl
@[simp] theorem fillL1_orangery (s : State) (core a n : Nat) : (fillL1 s core a n).orangery = s.orangery := rfl
@[simp] theorem l2Load_mem (s : State) (d a n : Nat) (cacheable : Bool) : (l2Load s d a n cacheable).mem = s.mem := by
  unfold l2Load; dsimp only; (repeat' split) <;> simp
@[simp] theorem l2Load_orangery (s : State) (d a n : Nat) (cacheable : Bool) : (l2Load s d a n cacheable).orangery = s.orangery := by
  unfold l2Load; dsimp only; (repeat' split) <;> simp
@[simp] theorem loadFills_mem (s : State) (r : Reply) (used : Bool) : (loadFills s r used).mem = s.mem := by
  unfold loadFills; dsimp only; (repeat' split) <;> simp
@[simp] theorem loadFills_orangery (s : State) (r : Reply) (used : Bool) : (loadFills s r used).orangery = s.orangery := by
  unfold loadFills; dsimp only; (repeat' split) <;> simp
@[simp] theorem sendHeld_mem (s : State) (core : Nat) (h : HeldWrite) : (sendHeld s core h).mem = s.mem := by
  unfold sendHeld; dsimp only; (repeat' split) <;> simp
@[simp] theorem sendHeld_orangery (s : State) (core : Nat) (h : HeldWrite) : (sendHeld s core h).orangery = s.orangery := by
  unfold sendHeld; dsimp only; (repeat' split) <;> simp
@[simp] theorem cleanSent_mem (s : State) (hs : List HeldWrite) : (cleanSent s hs).mem = s.mem := by
  unfold cleanSent
  split
  · rfl
  · exact foldl_mem _ _ _ (fun _ _ => foldl_mem _ _ _ (fun _ _ => by simp))
@[simp] theorem cleanSent_orangery (s : State) (hs : List HeldWrite) : (cleanSent s hs).orangery = s.orangery := by
  unfold cleanSent
  split
  · rfl
  · exact foldl_orangery _ _ _ (fun _ _ => foldl_orangery _ _ _ (fun _ _ => by simp))
@[simp] theorem answerHist_mem (s : State) (k w block : Nat) : (answerHist s k w block).mem = s.mem := rfl
@[simp] theorem answerHist_orangery (s : State) (k w block : Nat) : (answerHist s k w block).orangery = s.orangery := rfl
theorem binChild_same {s t : State} {c : Child} (h : binChild s c = some t) : t.mem = s.mem ∧ t.orangery = s.orangery := by
  unfold binChild at h
  simp only [Option.map_eq_some_iff] at h
  obtain ⟨m, -, rfl⟩ := h
  exact ⟨rfl, rfl⟩

theorem launchBin_same {s t : State} {pav key : Nat} (h : launchBin s pav key = some t) : t.mem = s.mem ∧ t.orangery = s.orangery := by
  unfold launchBin at h
  simp only [Option.bind_eq_some_iff, Option.map_eq_some_iff] at h
  obtain ⟨b, -, r, -, key, -, rfl⟩ := h
  constructor <;> (split <;> simp)

theorem startFull_same {s t : State} {c : Child} (h : startFull s c = some t) : t.mem = s.mem ∧ t.orangery = s.orangery := by
  unfold startFull at h
  obtain ⟨b, -, hb⟩ := Option.bind_eq_some_iff.mp h
  exact launchBin_same hb

theorem toRing_memWf {s t : State} {c : Child} (h : toRing s c = some t) (hs : memWf s.mem = true) : memWf t.mem = true := by
  unfold toRing at h
  dsimp only at h
  split at h
  · cases h; simp [hs]
  · cases h

theorem toRing_orangery {s t : State} {c : Child} (h : toRing s c = some t) : t.orangery = s.orangery := by
  unfold toRing at h
  dsimp only at h
  split at h
  · cases h; simp
  · cases h

theorem deliverChild_memWf {s t : State} {c : Child} (h : deliverChild s c = some t) (hs : memWf s.mem = true) : memWf t.mem = true := by
  unfold deliverChild at h
  repeat' split at h
  · exact toRing_memWf h hs
  · cases h; rw [(binChild_same ‹_›).1]; exact hs
  · cases h
    rename_i hb
    obtain ⟨u, hu, hv⟩ := Option.bind_eq_some_iff.mp hb
    rw [(binChild_same hv).1, (startFull_same hu).1]; exact hs
  · exact toRing_memWf h hs

theorem deliverChild_orangery {s t : State} {c : Child} (h : deliverChild s c = some t) : t.orangery = s.orangery := by
  unfold deliverChild at h
  repeat' split at h
  · exact toRing_orangery h
  · cases h; exact (binChild_same ‹_›).2
  · cases h
    rename_i hb
    obtain ⟨u, hu, hv⟩ := Option.bind_eq_some_iff.mp hb
    rw [(binChild_same hv).2, (startFull_same hu).2]
  · exact toRing_orangery h

@[simp] theorem deliverChildren_memWf (s : State) (l : List (Nat × Child)) (h : memWf s.mem = true) :
    memWf (deliverAll deliverChild s l).1.mem = true :=
  deliverAll_keeps (p := fun t => memWf t.mem = true) (fun _ _ _ ht h => deliverChild_memWf h ht) l s h
@[simp] theorem deliverChildren_orangery (s : State) (l : List (Nat × Child)) : (deliverAll deliverChild s l).1.orangery = s.orangery :=
  deliverAll_keeps (p := fun t => t.orangery = s.orangery) (fun _ _ _ ht h => (deliverChild_orangery h).trans ht) l s rfl
@[simp] theorem takeAnswer_memWf (s : State) (a : Answer) (e : Entity) (h : memWf s.mem = true) : memWf (takeAnswer s a e).mem = true := by
  have hd := fun l => deliverChildren_memWf s l h
  unfold takeAnswer
  dsimp only
  split <;> (try dsimp only) <;> (try split) <;> simp [h, hd]
@[simp] theorem takeAnswer_orangery (s : State) (a : Answer) (e : Entity) : (takeAnswer s a e).orangery = s.orangery := by
  unfold takeAnswer; dsimp only; (repeat' split) <;> simp
@[simp] theorem closeObject_memWf (s : State) (l : Nat) (v : Launch) (k : Nat) (h : memWf s.mem = true) : memWf (closeObject s l v k).mem = true := by
  unfold closeObject
  dsimp only
  split
  · exact h
  · rw [setLaunch_mem, wakeLine_mem, objWrite_mem]; exact h
@[simp] theorem closeObject_orangeryWf (s : State) (l : Nat) (v : Launch) (k : Nat) (h : memWf s.orangery = true) :
    memWf (closeObject s l v k).orangery = true := by
  unfold closeObject; dsimp only; split <;> simp [h]
@[simp] theorem journal_memWf (s : State) (kind lid queue gang : Nat) (h : memWf s.mem = true) :
    memWf (journal s kind lid queue gang).mem = true := by
  unfold journal; dsimp only; exact hostWrite_memWf _ _ _ h
@[simp] theorem journal_orangeryWf (s : State) (kind lid queue gang : Nat) (h : memWf s.orangery = true) :
    memWf (journal s kind lid queue gang).orangery = true := by
  unfold journal; dsimp only; exact wrN_wf _ _ _ h
@[simp] theorem noteComplete_memWf (s : State) (v : Launch) (h : memWf s.mem = true) : memWf (noteComplete s v).mem = true := by
  unfold noteComplete; (repeat' split) <;> simp [h]
@[simp] theorem noteComplete_orangeryWf (s : State) (v : Launch) (h : memWf s.orangery = true) : memWf (noteComplete s v).orangery = true := by
  unfold noteComplete; split <;> simp [h]
@[simp] theorem dropCode_mem (s : State) (asid base len : Nat) (all : Bool) : (dropCode s asid base len all).mem = s.mem := rfl
@[simp] theorem dropCode_orangery (s : State) (asid base len : Nat) (all : Bool) : (dropCode s asid base len all).orangery = s.orangery := rfl
@[simp] theorem releaseIfence_mem (s : State) (ent wave : Nat) : (releaseIfence s ent wave).mem = s.mem := by
  unfold releaseIfence; split <;> simp
@[simp] theorem releaseIfence_orangery (s : State) (ent wave : Nat) : (releaseIfence s ent wave).orangery = s.orangery := by
  unfold releaseIfence; split <;> simp

/-! ### Issue -/

@[simp] theorem startHolder_mem (s : State) (core slot k : Nat) : (startHolder s core slot k).mem = s.mem := by simp [startHolder]
@[simp] theorem startHolder_orangery (s : State) (core slot k : Nat) : (startHolder s core slot k).orangery = s.orangery := by simp [startHolder]
@[simp] theorem afterWord_mem (s : State) (k hold : Nat) : (afterWord s k hold).mem = s.mem := by
  unfold afterWord; dsimp only; (repeat' split) <;> simp
@[simp] theorem afterWord_orangery (s : State) (k hold : Nat) : (afterWord s k hold).orangery = s.orangery := by
  unfold afterWord; dsimp only; (repeat' split) <;> simp
@[simp] theorem reportPending_memWf (s : State) (k w : Nat) (cs : List AsyncCause) (h : memWf s.mem = true) :
    memWf (reportPending s k w cs).mem = true := foldl_keeps (p := fun t => memWf t.mem = true) _ _ _ (fun _ _ h => by split <;> simp [h]) h
@[simp] theorem reportPending_orangery (s : State) (k w : Nat) (cs : List AsyncCause) : (reportPending s k w cs).orangery = s.orangery :=
  foldl_orangery _ _ _ (fun _ _ => by split <;> simp)
@[simp] theorem dropPassOf_mem (s : State) (k w : Nat) : (dropPassOf s k w).mem = s.mem := rfl
@[simp] theorem dropPassOf_orangery (s : State) (k w : Nat) : (dropPassOf s k w).orangery = s.orangery := rfl
@[simp] theorem mapParks_mem (s : State) (die : Nat) (f : List ParkRec → List ParkRec) : (mapParks s die f).mem = s.mem := rfl
@[simp] theorem mapParks_orangery (s : State) (die : Nat) (f : List ParkRec → List ParkRec) : (mapParks s die f).orangery = s.orangery := rfl
@[simp] theorem spillFull_memWf (s : State) (k : Nat) (e : Entity) (v : Wave) (h : memWf s.mem = true) : memWf (spillFull s k e v).mem = true := by
  unfold spillFull; split <;> simp [h]
@[simp] theorem spillFull_orangery (s : State) (k : Nat) (e : Entity) (v : Wave) : (spillFull s k e v).orangery = s.orangery := by
  unfold spillFull; split <;> simp
@[simp] theorem withoutParent_mem (s : State) (w pav place : Nat) : (withoutParent s w pav place).mem = s.mem := foldl_mem _ _ _ (fun _ _ => by simp)
@[simp] theorem withoutParent_orangery (s : State) (w pav place : Nat) : (withoutParent s w pav place).orangery = s.orangery :=
  foldl_orangery _ _ _ (fun _ _ => by simp)
@[simp] theorem writeParent_memWf (s : State) (die : Nat) (o : Owner) (place : Nat) (h : memWf s.mem = true) :
    memWf (writeParent s die o place).mem = true := foldl_keeps (p := fun t => memWf t.mem = true) _ _ _ (fun _ _ h => spillWrite_memWf _ _ _ _ _ h) h
@[simp] theorem writeParent_orangery (s : State) (die : Nat) (o : Owner) (place : Nat) : (writeParent s die o place).orangery = s.orangery :=
  foldl_orangery _ _ _ (fun _ _ => spillWrite_orangery ..)
@[simp] theorem bringBack_mem (s : State) (p : Spilled) (b : Block) (core : Nat) (reserved : Bool) (keys : List Nat) :
    (bringBack s p b core reserved keys).mem = s.mem := by
  unfold bringBack
  dsimp only
  split
  · rw [modWave_mem, adoptAll_mem]
  · cases look s.waves p.waveId <;> simp only [Option.elim, dropL1_mem, modGang_mem, modBlock_mem, modWave_mem, adoptAll_mem, clearTiles_mem]
@[simp] theorem bringBack_orangery (s : State) (p : Spilled) (b : Block) (core : Nat) (reserved : Bool) (keys : List Nat) :
    (bringBack s p b core reserved keys).orangery = s.orangery := by
  unfold bringBack
  dsimp only
  split
  · rw [modWave_orangery, adoptAll_orangery]
  · cases look s.waves p.waveId <;> simp only [Option.elim, dropL1_orangery, modGang_orangery, modBlock_orangery, modWave_orangery, adoptAll_orangery, clearTiles_orangery]

/-! ### Strikes -/

@[simp] theorem unsend_mem (s : State) (core serial : Nat) : (unsend s core serial).mem = s.mem := foldl_mem _ _ _ (fun _ _ => by simp)
@[simp] theorem unsend_orangery (s : State) (core serial : Nat) : (unsend s core serial).orangery = s.orangery :=
  foldl_orangery _ _ _ (fun _ _ => by simp)
@[simp] theorem withdrawParks_mem (s : State) (core : Nat) : (withdrawParks s core).mem = s.mem := rfl
@[simp] theorem withdrawParks_orangery (s : State) (core : Nat) : (withdrawParks s core).orangery = s.orangery := rfl
@[simp] theorem rollbackCore_mem (s : State) (core : Nat) : (rollbackCore s core).mem = s.mem := by
  first
  | rfl
  | (unfold rollbackCore; (try dsimp only); (repeat' split) <;> first
    | rfl
    | (simp; done)
    | (refine (foldl_mem _ _ _ ?_).trans ?_ <;> first | rfl | (simp; done) | (intro s x; (try dsimp only); (repeat' split) <;> first | rfl | (simp; done))))
@[simp] theorem rollbackCore_orangery (s : State) (core : Nat) : (rollbackCore s core).orangery = s.orangery := by
  first
  | rfl
  | (unfold rollbackCore; (try dsimp only); (repeat' split) <;> first
    | rfl
    | (simp; done)
    | (refine (foldl_orangery _ _ _ ?_).trans ?_ <;> first | rfl | (simp; done) | (intro s x; (try dsimp only); (repeat' split) <;> first | rfl | (simp; done))))
@[simp] theorem correctedError_mem (s : State) (core unit addr : Nat) : (correctedError s core unit addr).mem = s.mem := by
  unfold correctedError; dsimp only; split <;> simp
@[simp] theorem correctedError_orangery (s : State) (core unit addr : Nat) : (correctedError s core unit addr).orangery = s.orangery := by
  unfold correctedError; dsimp only; split <;> simp
@[simp] theorem countBy_mem (s : State) (die k n : Nat) : (countBy s die k n).mem = s.mem := rfl
@[simp] theorem countBy_orangery (s : State) (die k n : Nat) : (countBy s die k n).orangery = s.orangery := rfl
@[simp] theorem testFailed_mem (s : State) (core : Nat) : (testFailed s core).mem = s.mem := by
  unfold testFailed; dsimp only; (repeat' split) <;> simp
@[simp] theorem testFailed_orangery (s : State) (core : Nat) : (testFailed s core).orangery = s.orangery := by
  unfold testFailed; dsimp only; (repeat' split) <;> simp

/-! ### The dispatch cores -/

@[simp] theorem takeRecord_memWf (s : State) (queue : Nat) (q : Queue) (h : memWf s.mem = true) : memWf (takeRecord s queue q).mem = true := by
  have hj := fun a b c d => journal_memWf { s with fresh := s.fresh + 1 } a b c d h
  unfold takeRecord
  dsimp only
  split
  · exact toHost_memWf _ _ _ (hj ..)
  · rw [setStatus_mem]; exact eventRecord_memWf _ _ _ _ _ _ (toHost_memWf _ _ _ (hj ..))
@[simp] theorem takeRecord_orangeryWf (s : State) (queue : Nat) (q : Queue) (h : memWf s.orangery = true) :
    memWf (takeRecord s queue q).orangery = true := by
  unfold takeRecord; dsimp only; split <;> simp [h]
@[simp] theorem readTail_mem (s : State) (queue : Nat) (q : Queue) : (readTail s queue q).mem = s.mem := rfl
@[simp] theorem readTail_orangery (s : State) (queue : Nat) (q : Queue) : (readTail s queue q).orangery = s.orangery := rfl
@[simp] theorem bindObjects_mem (s : State) (v : Launch) : (bindObjects s v).mem = s.mem := by
  unfold bindObjects
  rw [foldl_mem]
  intro s x
  split
  · rw [objWrite_mem]
  · rfl
@[simp] theorem bindObjects_orangeryWf (s : State) (v : Launch) (h : memWf s.orangery = true) :
    memWf (bindObjects s v).orangery = true := foldl_keeps (p := fun t => memWf t.orangery = true) _ _ _ (fun _ _ h => by split <;> simp [h]) h
@[simp] theorem startWaves_mem (v : Launch) (l block lin : Nat) (s : State) (x : List (Nat × Nat)) : (startWaves v l block lin s x).mem = s.mem := by
  induction x generalizing s with
  | nil => rfl
  | cons a r ih => obtain ⟨k, j⟩ := a; simp only [startWaves, ih]; rfl
@[simp] theorem startWaves_orangery (v : Launch) (l block lin : Nat) (s : State) (x : List (Nat × Nat)) :
    (startWaves v l block lin s x).orangery = s.orangery := by
  induction x generalizing s with
  | nil => rfl
  | cons a r ih => obtain ⟨k, j⟩ := a; simp only [startWaves, ih]; rfl
@[simp] theorem startBlock_mem (v : Launch) (l gang : Nat) (s : State) (core lin rank : Nat) :
    (startBlock v l gang s core lin rank).1.mem = s.mem := by
  simp [startBlock]
@[simp] theorem startBlock_orangery (v : Launch) (l gang : Nat) (s : State) (core lin rank : Nat) :
    (startBlock v l gang s core lin rank).1.orangery = s.orangery := by simp [startBlock]
@[simp] theorem startBlocks_mem (v : Launch) (l gang : Nat) (s : State) (x : List (Nat × Nat × Nat)) : (startBlocks v l gang s x).1.mem = s.mem := by
  induction x generalizing s with
  | nil => rfl
  | cons a r ih => obtain ⟨c, j, k⟩ := a; simp only [startBlocks, ih, startBlock_mem]
@[simp] theorem startBlocks_orangery (v : Launch) (l gang : Nat) (s : State) (x : List (Nat × Nat × Nat)) :
    (startBlocks v l gang s x).1.orangery = s.orangery := by
  induction x generalizing s with
  | nil => rfl
  | cons a r ih => obtain ⟨c, j, k⟩ := a; simp only [startBlocks, ih, startBlock_orangery]
@[simp] theorem placeGang_memWf (s : State) (l : Nat) (v : Launch) (j : Nat) (cores pavs : List Nat) (h : memWf s.mem = true) :
    memWf (placeGang s l v j cores pavs).mem = true := by
  have hj := fun k l q g => journal_memWf s k l q g h
  unfold placeGang
  dsimp only
  rw [setLaunch_mem, setGang_mem, startBlocks_mem, setGang_mem]
  dsimp only
  split
  · rw [usePav_mem]; exact hj ..
  · rw [bindObjects_mem, usePav_mem]; exact hj ..
@[simp] theorem placeGang_orangeryWf (s : State) (l : Nat) (v : Launch) (j : Nat) (cores pavs : List Nat) (h : memWf s.orangery = true) :
    memWf (placeGang s l v j cores pavs).orangery = true := by
  have hj := fun k l q g => journal_orangeryWf s k l q g h
  unfold placeGang
  dsimp only
  rw [setLaunch_orangery, setGang_orangery, startBlocks_orangery, setGang_orangery]
  dsimp only
  split
  · rw [usePav_orangery]; exact hj ..
  · refine bindObjects_orangeryWf _ _ ?_
    rw [usePav_orangery]; exact hj ..
@[simp] theorem loseGang_mem (s : State) (l : Nat) (v : Launch) (j : Nat) : (loseGang s l v j).mem = s.mem := by simp [loseGang]
@[simp] theorem loseGang_orangery (s : State) (l : Nat) (v : Launch) (j : Nat) : (loseGang s l v j).orangery = s.orangery := by simp [loseGang]
@[simp] theorem chargeLaunch_mem (s : State) (mj : List Nat) (t : State) (x : Nat × Launch) : (chargeLaunch s mj t x).mem = t.mem := by
  unfold chargeLaunch; dsimp only; split <;> simp
@[simp] theorem chargeLaunch_orangery (s : State) (mj : List Nat) (t : State) (x : Nat × Launch) : (chargeLaunch s mj t x).orangery = t.orangery := by
  unfold chargeLaunch; dsimp only; split <;> simp
@[simp] theorem completeLaunch_memWf (s : State) (l : Nat) (v : Launch) (h : memWf s.mem = true) :
    memWf (completeLaunch s l v).mem = true := by
  have hj : memWf (if v.record.objs.isEmpty = true ∨ v.bound = false then journal s 3 v.record.lid v.queue 0xFFFFFFFF else s).mem = true := by
    split
    · exact journal_memWf _ _ _ _ _ h
    · exact h
  unfold completeLaunch
  generalize (if v.record.objs.isEmpty = true ∨ v.bound = false then journal s 3 v.record.lid v.queue 0xFFFFFFFF else s) = s1 at hj ⊢
  dsimp only
  (repeat' split) <;> (first | rw [closeEpoch_mem, setLaunch_mem] | rw [setLaunch_mem]) <;> exact hj
@[simp] theorem completeLaunch_orangeryWf (s : State) (l : Nat) (v : Launch) (h : memWf s.orangery = true) :
    memWf (completeLaunch s l v).orangery = true := by
  have hj : memWf (if v.record.objs.isEmpty = true ∨ v.bound = false then journal s 3 v.record.lid v.queue 0xFFFFFFFF else s).orangery = true := by
    split
    · exact journal_orangeryWf _ _ _ _ _ h
    · exact h
  unfold completeLaunch
  generalize (if v.record.objs.isEmpty = true ∨ v.bound = false then journal s 3 v.record.lid v.queue 0xFFFFFFFF else s) = s1 at hj ⊢
  dsimp only
  (repeat' split) <;> (first | rw [closeEpoch_orangery, setLaunch_orangery] | rw [setLaunch_orangery]) <;> exact hj
@[simp] theorem oweSignal_mem (s : State) (ring : Nat) : (oweSignal s ring).mem = s.mem := by
  unfold oweSignal; split <;> simp
@[simp] theorem oweSignal_orangery (s : State) (ring : Nat) : (oweSignal s ring).orangery = s.orangery := by
  unfold oweSignal; split <;> simp
@[simp] theorem postEntry_memWf (s : State) (c : Completion) (v : Launch) (cq : Nat) (x : Cq) (h : memWf s.mem = true) :
    memWf (postEntry s c v cq x).mem = true := by simp [postEntry, h]
@[simp] theorem postEntry_orangeryWf (s : State) (c : Completion) (v : Launch) (cq : Nat) (x : Cq) (h : memWf s.orangery = true) :
    memWf (postEntry s c v cq x).orangery = true := by simp [postEntry, h]
@[simp] theorem haltCore_mem (s : State) (dc : Nat) : (haltCore s dc).mem = s.mem := rfl
@[simp] theorem haltCore_orangery (s : State) (dc : Nat) : (haltCore s dc).orangery = s.orangery := rfl
@[simp] theorem rescan_mem (s : State) (dc : Nat) : (rescan s dc).mem = s.mem := rfl
@[simp] theorem rescan_orangery (s : State) (dc : Nat) : (rescan s dc).orangery = s.orangery := rfl

/-! ### Pavilion contexts -/

@[simp] theorem answerPark_memWf (s : State) (p : ParkRec) (retry : Bool) (h : memWf s.mem = true) : memWf (answerPark s p retry).mem = true := by
  unfold answerPark; dsimp only; (repeat' split) <;> simp [h]
@[simp] theorem answerPark_orangery (s : State) (p : ParkRec) (retry : Bool) : (answerPark s p retry).orangery = s.orangery := by
  unfold answerPark; dsimp only; (repeat' split) <;> simp
@[simp] theorem emptiedPav_mem (s : State) (pav : Nat) : (emptiedPav s pav).mem = s.mem := rfl
@[simp] theorem emptiedPav_orangery (s : State) (pav : Nat) : (emptiedPav s pav).orangery = s.orangery := rfl
@[simp] theorem binsToRings_memWf (s : State) (pav : Nat) (owners : List Owner) (h : memWf s.mem = true) :
    memWf (binsToRings s pav owners).mem = true := by
  have hf : ∀ (l : List Child) (x : State × List Child), memWf x.1.mem = true → memWf (l.foldl (fun (r : State × List Child) c =>
      match toRing r.1 c with | some t => (t, r.2) | none => (r.1, r.2 ++ [c])) x).1.mem = true := by
    intro l
    induction l with
    | nil => exact fun _ h => h
    | cons c r ih =>
      intro x hx
      refine ih _ ?_
      cases hc : toRing x.1 c with
      | none => simpa [hc] using hx
      | some t => simpa [hc] using toRing_memWf hc hx
  unfold binsToRings
  dsimp only
  rw [setPav_mem]
  exact hf _ _ h
@[simp] theorem binsToRings_orangery (s : State) (pav : Nat) (owners : List Owner) : (binsToRings s pav owners).orangery = s.orangery := by
  have hf : ∀ (l : List Child) (x : State × List Child), (l.foldl (fun (r : State × List Child) c =>
      match toRing r.1 c with | some t => (t, r.2) | none => (r.1, r.2 ++ [c])) x).1.orangery = x.1.orangery := by
    intro l
    induction l with
    | nil => exact fun _ => rfl
    | cons c r ih =>
      intro x
      refine (ih _).trans ?_
      cases hc : toRing x.1 c with
      | none => simp [hc]
      | some t => simpa [hc] using toRing_orangery hc
  unfold binsToRings
  dsimp only
  rw [setPav_orangery]
  exact hf _ _
@[simp] theorem saveContext_memWf (s : State) (pav : Nat) (h : memWf s.mem = true) : memWf (saveContext s pav).mem = true := by
  unfold saveContext
  dsimp only
  rw [foldl_mem _ _ _ (fun s x => restorePoint_mem _ s _), setPav_mem]
  dsimp only
  rw [foldl_mem _ _ _ (fun s x => setCore_mem s _ _), setDie_mem, foldl_mem, closeEpoch_mem]
  · exact binsToRings_memWf _ _ _ h
  · intro s x; split <;> simp
@[simp] theorem saveContext_orangery (s : State) (pav : Nat) : (saveContext s pav).orangery = s.orangery := by
  unfold saveContext
  dsimp only
  rw [foldl_orangery _ _ _ (fun s x => restorePoint_orangery _ s _), setPav_orangery]
  dsimp only
  rw [foldl_orangery _ _ _ (fun s x => setCore_orangery s _ _), setDie_orangery, foldl_orangery, closeEpoch_orangery, binsToRings_orangery]
  intro s x; split <;> simp
@[simp] theorem setContext_mem (s : State) (k : Nat) (c : Context) : (setContext s k c).mem = s.mem := rfl
@[simp] theorem setContext_orangery (s : State) (k : Nat) (c : Context) : (setContext s k c).orangery = s.orangery := rfl
@[simp] theorem resumePark_memWf (m : CoreMap) (answers : List (Nat × Nat)) (s : State) (p : ParkRec) (h : memWf s.mem = true) :
    memWf (resumePark m answers s p).mem = true := by simp [resumePark, h]
@[simp] theorem resumePark_orangery (m : CoreMap) (answers : List (Nat × Nat)) (s : State) (p : ParkRec) :
    (resumePark m answers s p).orangery = s.orangery := by simp [resumePark]
@[simp] theorem movePoison_mem (m : CoreMap) (ps : List Poison) (s : State) : (movePoison m ps s).mem = s.mem :=
  (foldl_mem _ _ _ (fun _ _ => by simp)).trans (by simp)
@[simp] theorem movePoison_orangery (m : CoreMap) (ps : List Poison) (s : State) : (movePoison m ps s).orangery = s.orangery :=
  (foldl_orangery _ _ _ (fun _ _ => by simp)).trans (by simp)
@[simp] theorem consumeShadow_memWf (s : State) (p : Poison) (h : memWf s.mem = true) : memWf (consumeShadow s p).mem = true := by
  unfold consumeShadow; dsimp only; (repeat' split) <;> simp [h]
@[simp] theorem consumeShadow_orangery (s : State) (p : Poison) : (consumeShadow s p).orangery = s.orangery := by
  unfold consumeShadow; dsimp only; (repeat' split) <;> simp
@[simp] theorem restoreContext_memWf (s : State) (c : Context) (pav : Nat) (m : CoreMap) (h : memWf s.mem = true) :
    memWf (restoreContext s c pav m).mem = true := by
  unfold restoreContext
  dsimp only
  refine foldl_keeps (p := fun t => memWf t.mem = true) _ _ _ (fun t x ht => consumeShadow_memWf t _ ht) ?_
  rw [movePoison_mem]
  refine foldl_keeps (p := fun t => memWf t.mem = true) _ _ _ (fun t x ht => resumePark_memWf _ _ t _ ht) ?_
  rw [foldl_mem _ _ _ (fun s x => setCore_mem s _ _), foldl_mem _ _ _ (fun s x => setData_mem s _ _)]
  dsimp only
  rw [foldl_mem _ _ _ (fun s x => setEnt_mem s _ _), usePav_mem, rekey_mem]
  exact h
@[simp] theorem restoreContext_orangery (s : State) (c : Context) (pav : Nat) (m : CoreMap) : (restoreContext s c pav m).orangery = s.orangery := by
  unfold restoreContext
  dsimp only
  rw [foldl_orangery _ _ _ (fun t x => consumeShadow_orangery t _), movePoison_orangery, foldl_orangery _ _ _ (fun t x => resumePark_orangery _ _ t _),
    foldl_orangery _ _ _ (fun s x => setCore_orangery s _ _), foldl_orangery _ _ _ (fun s x => setData_orangery s _ _)]
  dsimp only
  rw [foldl_orangery _ _ _ (fun s x => setEnt_orangery s _ _), usePav_orangery, rekey_orangery]

/-! ### The host interface -/

@[simp] theorem cmdDone_memWf (s : State) (status : Nat) (h : memWf s.mem = true) : memWf (cmdDone s status).mem = true := by simp [cmdDone, h]
@[simp] theorem cmdDone_orangery (s : State) (status : Nat) : (cmdDone s status).orangery = s.orangery := rfl
@[simp] theorem dropTranslations_mem (s : State) (asid base len : Nat) : (dropTranslations s asid base len).mem = s.mem := rfl
@[simp] theorem dropTranslations_orangery (s : State) (asid base len : Nat) : (dropTranslations s asid base len).orangery = s.orangery := rfl
@[simp] theorem verdict_memWf (s : State) (die park : Nat) (retry : Bool) (h : memWf s.mem = true) : memWf (verdict s die park retry).mem = true := by
  unfold verdict; split <;> simp [h]
@[simp] theorem verdict_orangery (s : State) (die park : Nat) (retry : Bool) : (verdict s die park retry).orangery = s.orangery := by
  unfold verdict; split <;> simp
@[simp] theorem warmReset_mem (s : State) : (warmReset s).mem = s.mem := rfl
@[simp] theorem cleanLines_mem (s : State) (pa n : Nat) : (cleanLines s pa n).mem = s.mem := rfl
@[simp] theorem cleanLines_orangery (s : State) (pa n : Nat) : (cleanLines s pa n).orangery = s.orangery := rfl
@[simp] theorem hostReads_mem (s : State) (bs : List Byte) : (hostReads s bs).mem = s.mem := rfl
@[simp] theorem hostReads_orangery (s : State) (bs : List Byte) : (hostReads s bs).orangery = s.orangery := rfl
@[simp] theorem hostOrng_mem (s : State) (off : Nat) (data : List Byte) : (hostOrng s off data).mem = s.mem := by
  first
  | rfl
  | (unfold hostOrng; (try dsimp only); (repeat' split) <;> first
    | rfl
    | (simp; done)
    | (refine (foldl_mem _ _ _ ?_).trans ?_ <;> first | rfl | (simp; done) | (intro s x; (try dsimp only); (repeat' split) <;> first | rfl | (simp; done))))
@[simp] theorem hostOrng_orangeryWf (s : State) (off : Nat) (data : List Byte) (h : memWf s.orangery = true) :
    memWf (hostOrng s off data).orangery = true := foldl_keeps (p := fun t => memWf t.orangery = true) _ _ _ (fun _ _ h => by split <;> simp [h]) h
@[simp] theorem windowOp_memWf (op line slot gen host : Nat) (s : State) (h : memWf s.mem = true) :
    memWf (windowOp op line slot gen host s).mem = true := by
  unfold windowOp
  dsimp only
  (repeat' split) <;> refine toHost_memWf _ _ _ ?_ <;> (try split) <;> simp only [wakeLine_mem, objWrite_mem, h]
theorem windowReply_orangery (a : Nat) (d : List Byte) {t : State} (h : memWf t.orangery = true) : memWf (toHost t a d).orangery = true := by
  rw [toHost_orangery]; exact h

@[simp] theorem windowOp_orangeryWf (op line slot gen host : Nat) (s : State) (h : memWf s.orangery = true) :
    memWf (windowOp op line slot gen host s).orangery = true := by
  have hw : ∀ y, memWf (objWrite s (line / 64 * 64) y).orangery = true := fun y => objWrite_orangeryWf _ _ _ h
  unfold windowOp
  dsimp only
  generalize hg : objWrite s (line / 64 * 64) = g at *
  split
  · exact windowReply_orangery _ _ h
  split
  · exact windowReply_orangery _ _ h
  split
  · exact windowReply_orangery _ _ h
  split
  · exact windowReply_orangery _ _ h
  · split
    · exact windowReply_orangery _ _ (hw _)
    · exact windowReply_orangery _ _ h
  · split
    · refine windowReply_orangery _ _ ?_
      split
      · rw [wakeLine_orangery]; exact hw _
      · exact hw _
    · exact windowReply_orangery _ _ h

/-! ### Boot -/

@[simp] theorem bootFail_mem (s : State) (err : Nat) : (bootFail s err).mem = s.mem := rfl
@[simp] theorem bootFail_orangery (s : State) (err : Nat) : (bootFail s err).orangery = s.orangery := rfl
@[simp] theorem bootTo_mem (s : State) (st : Nat) : (bootTo s st).mem = s.mem := rfl
@[simp] theorem bootTo_orangery (s : State) (st : Nat) : (bootTo s st).orangery = s.orangery := rfl
@[simp] theorem verifyImage_mem (s : State) : (verifyImage s).mem = s.mem := by
  unfold verifyImage; dsimp only; (repeat' split) <;> simp
@[simp] theorem verifyImage_orangery (s : State) : (verifyImage s).orangery = s.orangery := by
  unfold verifyImage; dsimp only; (repeat' split) <;> simp
@[simp] theorem bootTests_mem (s : State) (failed : List Nat) : (bootTests s failed).mem = s.mem := by
  unfold bootTests
  dsimp only
  split <;> simp only [bootFail_mem, bootTo_mem] <;> (rw [foldl_mem]; intro s x; split <;> simp)
@[simp] theorem bootTests_orangery (s : State) (failed : List Nat) : (bootTests s failed).orangery = s.orangery := by
  unfold bootTests
  dsimp only
  split <;> simp only [bootFail_orangery, bootTo_orangery] <;> (rw [foldl_orangery]; intro s x; split <;> simp)
@[simp] theorem report_mem (s : State) (r : PldmReport) : (report s r).mem = s.mem := rfl
@[simp] theorem report_orangery (s : State) (r : PldmReport) : (report s r).orangery = s.orangery := rfl

/-! ### Steps -/

@[simp] theorem passTime_mem (s : State) : (passTime s).mem = s.mem := rfl
@[simp] theorem passTime_orangery (s : State) : (passTime s).orangery = s.orangery := rfl

end Sys2Proof.Laws
end

