-- ==== Sys2Proof/Laws/Canonical.lean ====
section
/-! SUPPORT. The canonical form of the memories (assumption 2) through a word: every word keeps it whose effect does, and what the shared
effects of words do to it. -/

namespace Sys2Proof.Laws

open Sys2Proof Sys2Proof.Machine

/-- The memories of what an effect answers are canonical. -/
def Kept : Res → Prop
  | .done s => Safety.canonical s
  | .left s => Safety.canonical s
  | .stall => True
  | .trap _ => True

theorem kept_done {s : State} (h1 : memWf s.mem = true) (h2 : memWf s.orangery = true) : Kept (.done s) := ⟨h1, h2⟩
theorem kept_left {s : State} (h1 : memWf s.mem = true) (h2 : memWf s.orangery = true) : Kept (.left s) := ⟨h1, h2⟩

theorem reset_canonical : Safety.canonical State.reset := ⟨rfl, rfl⟩

theorem raise_canonical {s : State} {k : Nat} {x : Trap} {a : Bool} {pc : Dword} (h : Safety.canonical s) : Safety.canonical (raise s k x a pc) :=
  ⟨raise_memWf _ _ _ _ _ h.1, by rw [raise_orangery]; exact h.2⟩

theorem noteStall_canonical {s : State} {k : Nat} (h : Safety.canonical s) : Safety.canonical (noteStall s k) := by
  simpa [Safety.canonical] using h

theorem goOn_canonical {sh : Shape} {s : State} {k : Nat} (h : Safety.canonical s) : Safety.canonical (goOn sh s k) := by
  simpa [Safety.canonical] using h

/-- A word in context. -/
theorem runWord_canonical {sh : Shape} {chk : Ctx → List Trap} {act : Ctx → Res} {c : Ctx} (h : Safety.canonical c.s) (ha : Kept (act c)) :
    Safety.canonical (runWord sh chk act c) := by
  unfold runWord
  split
  · exact noteStall_canonical h
  split
  · exact ⟨consume_memWf _ _ _ _ _ h.1, by rw [consume_orangery]; exact h.2⟩
  split
  · exact raise_canonical h
  split
  · rename_i hr; rw [hr] at ha
    exact goOn_canonical ⟨by rw [cleans_mem]; exact ha.1, by rw [cleans_orangery]; exact ha.2⟩
  · rename_i hr; rw [hr] at ha; exact ha
  · exact noteStall_canonical h
  · exact raise_canonical h

/-- Every word that issues through `issue` keeps the memories canonical when its effect does. -/
theorem issue_canonical {sh : Shape} {chk : Ctx → List Trap} {act : Ctx → Res} {s t : State} (ha : ∀ c, Safety.canonical c.s → Kept (act c))
    (h : Safety.canonical s) (hs : issue sh chk act s = .next t) : Safety.canonical t := by
  unfold issue at hs
  (repeat' split at hs) <;> first | contradiction | (cases hs; exact runWord_canonical h (ha _ h))

/-- A word that only writes registers. -/
theorem regWord_canonical {sh : Shape} {chk : Ctx → List Trap} {f : Ctx → Entity × Wave} {s t : State} (h : Safety.canonical s)
    (hs : regWord sh chk f s = .next t) : Safety.canonical t :=
  issue_canonical (fun _ hc => kept_done (by simpa using hc.1) (by simpa using hc.2)) h hs

/-- Everything a release does: it waits for the entity's accesses; below PKG scope it notes what it covers and goes on; at PKG scope it closes its
die's epoch and goes on; at SYS scope it closes the epoch once, and goes on when every die and the host have applied it. -/
theorem releaseGate_cases (c : Ctx) (scope : Nat) :
    releaseGate c scope = .wait c.s ∨ releaseGate c scope = .go (noteReleased c.s c.k c.die) ∨ releaseGate c scope = .go (closeEpoch c.s c.die) ∨
    ∃ s clock, (s = c.s ∨ s = closeEpoch c.s c.die) ∧
      (releaseGate c scope = .go (awaitClock s c.k []) ∨ releaseGate c scope = .wait (awaitClock s c.k clock)) := by
  unfold releaseGate
  dsimp only
  (repeat' split)
  · exact .inl rfl
  · exact .inr (.inl rfl)
  · exact .inr (.inr (.inr ⟨_, [], .inr rfl, .inl rfl⟩))
  · exact .inr (.inr (.inr ⟨_, _, .inr rfl, .inr rfl⟩))
  · exact .inr (.inr (.inr ⟨_, [], .inl rfl, .inl rfl⟩))
  · exact .inr (.inr (.inr ⟨_, _, .inl rfl, .inr rfl⟩))
  · exact .inr (.inr (.inl rfl))

/-- What a release answers keeps the memories as they are. -/
theorem releaseGate_mems (c : Ctx) (scope : Nat) :
    ∃ s, s.mem = c.s.mem ∧ s.orangery = c.s.orangery ∧ (releaseGate c scope = .go s ∨ releaseGate c scope = .wait s) := by
  rcases releaseGate_cases c scope with h | h | h | ⟨s, clock, hs, h | h⟩
  · exact ⟨_, rfl, rfl, .inr h⟩
  · exact ⟨_, by simp [noteReleased], by simp [noteReleased], .inl h⟩
  · exact ⟨_, by simp, by simp, .inl h⟩
  · exact ⟨_, by rcases hs with rfl | rfl <;> simp [awaitClock], by rcases hs with rfl | rfl <;> simp [awaitClock], .inl h⟩
  · exact ⟨_, by rcases hs with rfl | rfl <;> simp [awaitClock], by rcases hs with rfl | rfl <;> simp [awaitClock], .inr h⟩

/-- An effect behind a release. -/
theorem afterRelease_kept {c : Ctx} {scope : Nat} {f : Ctx → Res} (h : Safety.canonical c.s) (hf : ∀ c, Safety.canonical c.s → Kept (f c)) :
    Kept (afterRelease c scope f) := by
  obtain ⟨s, hm, ho, hg⟩ := releaseGate_mems c scope
  have h' : Safety.canonical s := by rw [Safety.canonical, hm, ho]; exact h
  rcases hg with hg | hg <;> rw [afterRelease, hg]
  · exact hf _ h'
  · exact noteStall_canonical h'

/-- One access after another keeps the memories when each does. -/
theorem eachLine_mems {f : State → LaneAcc → Nat → State} (hm : ∀ s a x, (f s a x).mem = s.mem) (ho : ∀ s a x, (f s a x).orangery = s.orangery)
    (s : State) (as : List (LaneAcc × Nat)) : (eachLine f s as).mem = s.mem ∧ (eachLine f s as).orangery = s.orangery :=
  ⟨foldl_mem _ _ _ (fun _ _ => (bump_mem _).trans (foldl_mem _ _ _ (fun s x => hm s x.1 x.2))),
    foldl_orangery _ _ _ (fun _ _ => (bump_orangery _).trans (foldl_orangery _ _ _ (fun s x => ho s x.1 x.2)))⟩

/-- Lane-wise global accesses, when performing them keeps the memories as they are. -/
theorem globalWord_kept {c : Ctx} {n : Need} {write : Bool} {as : List LaneAcc} {p : State → List (LaneAcc × Nat) → State} (h : Safety.canonical c.s)
    (m : ∀ s l, (p s l).mem = s.mem) (o : ∀ s l, (p s l).orangery = s.orangery) : Kept (globalWord c n write as p) := by
  unfold globalWord
  dsimp only
  (repeat' split)
  · trivial
  · exact kept_left (by rw [parkEntity_mem]; exact h.1) (by rw [parkEntity_orangery]; exact h.2)
  · exact kept_done (by rw [m, fillTlb_mem]; exact h.1) (by rw [o, fillTlb_orangery]; exact h.2)
  · exact kept_left (by rw [parkEntity_mem]; exact h.1) (by rw [parkEntity_orangery]; exact h.2)
  · exact kept_left (by simp only [finishFirst, noteStall_mem, modEnt_mem, m, fillTlb_mem]; exact h.1)
      (by simp only [finishFirst, noteStall_orangery, modEnt_orangery, o, fillTlb_orangery]; exact h.2)

end Sys2Proof.Laws
end

