-- ==== Sys2Proof/Laws/Issue.lean ====
section
/-! SUPPORT. Everything a word can do, said once: it issues and goes on, leaves, stalls or traps (R22, R252, R259). -/

namespace Sys2Proof.Laws

open Sys2Proof Sys2Proof.Machine

variable {s t : State} {k : Nat} {e : Entity} {v : Wave} {sh : Shape} {chk : Ctx → List Trap} {act : Ctx → Res}

theorem issue_at (h : Claim.At s k e v) : issue sh chk act s = .next (runWord sh chk act (Claim.ctx s k e v)) := by
  obtain ⟨h1, h2, h3⟩ := h
  simp only [issue, h1, h2, h3, Claim.ctx]

/-- A word without an entity in focus has nothing to act on. -/
theorem issue_none (h : s.focus = none) : issue sh chk act s = .refused .noEntity := by simp only [issue, h]

theorem commonTraps_nil (h : Claim.Issues s k e v sh.ops sh.acc) : commonTraps sh (Claim.ctx s k e v) = [] := by
  obtain ⟨-, -, h1, h2, h3, -⟩ := h
  simp only [commonTraps, h1, h2, h3, if_true, List.append_nil]

/-- Only granules of registers take part in a word's register fields. -/
theorem holds_inRegisters {o : Operand} {c : Ctx} {lanes : Lanes} {whole : Bool} {p : Poison} (h : o.holds c lanes whole p = true) :
    p.inRegisters = true := by
  unfold Operand.holds at h
  split at h <;> first | rfl | cases h

/-- Without poisoned registers a word consumes none. -/
theorem consumes_none {c : Ctx} (h : c.s.poison.all (fun p => !p.inRegisters) = true) : sh.consumes c = none := by
  have hn : ∀ (o : Operand) lanes, c.s.poison.find? (o.holds c lanes false) = none := by
    intro o lanes
    rw [List.find?_eq_none]
    intro p hp ho
    have := List.all_eq_true.mp h p hp
    rw [holds_inRegisters ho] at this
    cases this
  unfold Shape.consumes Shape.poisoned
  split
  · split
    · rfl
    · rw [List.findSome?_eq_none_iff]
      intro x _
      dsimp only
      rw [hn]
      rfl
  · rfl

/-- Without poisoned registers a word ends no poison by what it writes. -/
theorem cleans_self {c : Ctx} (h : s.poison.all (fun p => !p.inRegisters) = true) : sh.cleans c s = s := by
  unfold Shape.cleans State.clean
  split
  · rfl
  · have hf : s.poison.filter (fun p => !((sh.ops.take sh.dst).any (fun o => o.holds c (sh.act c) true p))) = s.poison := by
      rw [List.filter_eq_self]
      intro p hp
      have hr := List.all_eq_true.mp h p hp
      cases ha : (sh.ops.take sh.dst).any (fun o => o.holds c (sh.act c) true p) with
      | false => rfl
      | true =>
        obtain ⟨o, -, ho⟩ := List.any_eq_true.mp ha
        rw [holds_inRegisters ho] at hr
        cases hr
    rw [hf]

/-- A word that issues does its effect: it goes on, leaves, stalls or traps as the effect says. -/
theorem issue_act (h : Claim.Issues s k e v sh.ops sh.acc) (hc : chk (Claim.ctx s k e v) = []) :
    issue sh chk act s = .next (match act (Claim.ctx s k e v) with
      | .done s' => goOn sh (sh.cleans (Claim.ctx s k e v) s') k | .left s' => s' | .stall => noteStall s k | .trap x => raise s k x false e.chainPc) := by
  rw [issue_at h.1]
  have hp : pendingHit (Claim.ctx s k e v).s (Claim.ctx s k e v).k (Claim.ctx s k e v).e.wave sh.ops = false := h.2.1
  have hn : sh.consumes (Claim.ctx s k e v) = none := consumes_none h.2.2.2.2.2
  simp only [runWord, hp, hn, commonTraps_nil h, hc, List.append_nil, firstTrap]
  cases act (Claim.ctx s k e v) <;> simp

/-- A word whose own checks name a cause takes the trap of the first in R252's order, and has none of its effect. -/
theorem issue_trap {x : Trap} (h : Claim.Issues s k e v sh.ops sh.acc) (hc : firstTrap (chk (Claim.ctx s k e v)) = some x) :
    issue sh chk act s = .next (raise s k x false e.chainPc) := by
  rw [issue_at h.1]
  have hp : pendingHit (Claim.ctx s k e v).s (Claim.ctx s k e v).k (Claim.ctx s k e v).e.wave sh.ops = false := h.2.1
  have hn : sh.consumes (Claim.ctx s k e v) = none := consumes_none h.2.2.2.2.2
  simp only [runWord, hp, hn, commonTraps_nil h, List.nil_append, hc]
  rfl

/-- A legal word that reads a poisoned register consumes its granule, and has none of its effect (R275). -/
theorem issue_consume {g : Nat} (h : Claim.At s k e v) (hp : pendingHit s k e.wave sh.ops = false) (hg : sh.consumes (Claim.ctx s k e v) = some g) :
    issue sh chk act s = .next (consume s e.wave (coreOfKey k) 0 g) := by
  rw [issue_at h]
  have hp' : pendingHit (Claim.ctx s k e v).s (Claim.ctx s k e v).k (Claim.ctx s k e v).e.wave sh.ops = false := hp
  simp only [runWord, hp', hg]
  rfl

/-- A word that waits for a register has no effect; its stall is counted. -/
theorem issue_pending (h : Claim.At s k e v) (hp : pendingHit s k e.wave sh.ops = true) : issue sh chk act s = .next (noteStall s k) := by
  rw [issue_at h]
  have hp' : pendingHit (Claim.ctx s k e v).s (Claim.ctx s k e v).k (Claim.ctx s k e v).e.wave sh.ops = true := hp
  simp only [runWord, hp', if_true, Claim.ctx]

/-- The entity goes on: its entity is the one it had, retired. -/
theorem goOn_look (h : look s.ents k = some e) : goOn sh s k = s.setEnt k (({ e with progress := e.progress || sh.prog }).retire sh.e) := by
  simp only [goOn, State.modEnt, h]

/-- Everything a register word does when it issues. -/
theorem regWord_next {f : Ctx → Entity × Wave} (h : Claim.Issues s k e v sh.ops sh.acc) (hc : chk (Claim.ctx s k e v) = []) :
    ∃ t, regWord sh chk f s = .next t ∧ Claim.After s t k
      (({ (f (Claim.ctx s k e v)).1 with progress := (f (Claim.ctx s k e v)).1.progress || sh.prog }).retire sh.e)
      e.wave (f (Claim.ctx s k e v)).2 := by
  have hk : look (((s.setEnt k (f (Claim.ctx s k e v)).1).setWave e.wave (f (Claim.ctx s k e v)).2).ents) k = some (f (Claim.ctx s k e v)).1 := by
    simp [State.setEnt, State.setWave, look_put_same]
  refine ⟨_, issue_act h hc, ?_⟩
  show Claim.After s (goOn sh (sh.cleans _ ((s.setEnt k (f (Claim.ctx s k e v)).1).setWave e.wave (f (Claim.ctx s k e v)).2)) k) k _ e.wave _
  rw [cleans_self (s := (s.setEnt k (f (Claim.ctx s k e v)).1).setWave e.wave (f (Claim.ctx s k e v)).2) h.2.2.2.2.2, goOn_look hk]
  refine ⟨?_, ?_, ?_, ?_, ?_⟩
  · simp [State.setEnt, State.setWave, look_put_same]
  · simp [State.setEnt, State.setWave, look_put_same]
  · intro j hj; simp [State.setEnt, State.setWave, look_put_other _ _ _ _ hj]
  · intro j hj; simp [State.setEnt, State.setWave, look_put_other _ _ _ _ hj]
  · rfl

/-- Everything a scalar word does when it issues. -/
theorem scalarWord_next {E : Bool} {ops : List Operand} {acc : Accept} {f : Ctx → Entity} (h : Claim.Issues s k e v ops acc) :
    ∃ t, scalarWord E ops acc f s = .next t ∧ Claim.After s t k ((f (Claim.ctx s k e v)).retire E) e.wave v := by
  have := regWord_next (sh := { e := E, ops := ops, acc := acc, dst := 1 }) (chk := noChk) (f := fun c => (f c, c.v)) h rfl
  simpa [scalarWord, Claim.ctx] using this

/-- Everything a lane-wise word does when it issues. -/
theorem vectorWord_next {E : Bool} {ops : List Operand} {acc : Accept} {f : Ctx → Wave} (h : Claim.Issues s k e v ops acc)
    (hc : chk (Claim.ctx s k e v) = []) :
    ∃ t, vectorWord E ops acc chk f s = .next t ∧ Claim.After s t k (e.retire E) e.wave (f (Claim.ctx s k e v)) := by
  have := regWord_next (sh := { e := E, ops := ops, acc := acc, dst := 1 }) (f := fun c => (c.e, f c)) h hc
  simpa [vectorWord, Claim.ctx] using this

end Sys2Proof.Laws
end

