-- ==== Sys2Proof/Tests/Slice0.lean ====
section
/-! SUPPORT. The package's own tests: words written out from the spec's encodings, ill-formed terms, steps checked against values worked out
from the spec, and for each obligation a state and operands that meet its hypotheses, clause by clause. -/

namespace Sys2Proof.Tests

set_option Elab.async false

open Sys2Proof Sys2Proof.Machine

/-! ### States -/

/-- An entity of wave 0 in the middle of a run, all its lanes owned. -/
def e0 : Entity := { Entity.start 0 0 (BitVec.allOnes 96) (BitVec.allOnes 96) [] with boundary := false }

/-- Wave 0: 96 lanes, 64 vector registers. -/
def v0 : Wave := placedWave

/-- An entity and its wave on core 0, in focus. -/
def put0 (e : Entity) (v : Wave) : State := { placeWord State.reset 0 with ents := [(0, e)], waves := [(0, v)] }

def s0 : State := put0 e0 v0

/-- What is left of the entity with key 0 after an outcome. -/
def entOf (o : Out) : Option Entity := match o with | .next t => look t.ents 0 | _ => none
def waveOf (o : Out) : Option Wave := match o with | .next t => look t.waves 0 | _ => none
def memOf (o : Out) (a : Nat) : Option Byte := match o with | .next t => some (rd t.mem a) | _ => none

/-- Each of these entities of wave 0 issues a word with these register fields and this acceptance of prefixes. -/
abbrev Words (l : List (Entity × List Operand × Accept)) : Prop := ∀ x ∈ l, Claim.Issues (put0 x.1 v0) 0 x.1 v0 x.2.1 x.2.2

/-! ### Hypotheses: scalar words -/

theorem test_scalar_register_file : (1 ≤ (60 : Reg).toNat ∧ (60 : Reg).toNat ≤ 60) ∧ 61 ≤ (63 : Reg).toNat ∧ (61 : Reg) ≠ 62 := by decide

theorem test_scalar_register_words : Words [(e0, [oS 63, oS 0, oS 61], {})]  := by decide

/-- Behind an XIMM word. -/
def eX : Entity := { e0 with chain := { e0.chain with ximm := some 0x1FFFFFF } }

theorem test_scalar_other_words :
    Words [(e0, [oS 1, oS 63], { ximm := true })] ∧ Claim.Issues (put0 eX v0) 0 eX v0 [oS 1, oS 63] { ximm := true } ∧
    Words [(e0, [oS2 62, oS2 60, oS2 0], {}), (e0, [oS2 62, oS2 60, oS 63], {}), (e0, [oS 1, oS2 62], {}), (e0, [oS 1, oS2 62, oS 3], {}), (e0, [oS2 2, oS2 62], {})]  := by decide

theorem test_bit_counts : (2 ^ 63 < 2 ^ 64 ∧ (2 ^ 63).testBit 63 = true) ∧ (List.range 31).countP (fun j => (2 ^ 31).testBit j) = 0 ∧ popcN 32 (2 ^ 31) ≤ 1 := by
  decide

/-! ### Hypotheses: vector words -/

/-- Behind an XMOD word with PNEG, and in a replay of lane 5. -/
def eN : Entity :=
  { e0 with
    chain := { e0.chain with xmod := some { pneg := true, rmv := false, rm := 0, sat := false, scv := false, scope := 0, ch := 0, ord := 0 } }
    replay := true, fmask := BitVec.ofNat 96 32 }

/-- Behind an XMOD word that gives a rounding mode and SAT. -/
def eR : Entity :=
  { e0 with
    chain := { e0.chain with xmod := some { pneg := true, rmv := true, rm := 3, sat := true, scv := false, scope := 0, ch := 0, ord := 0 } } }

/-- s5 and s6 hold block-packing words with m = 2 and m = 8, s7 one with m = 9. -/
def eQ : Entity := { e0 with sregs := [(5, 2), (6, 0x108), (7, 9)] }

theorem test_vector_register_file : (95 < 96 ∧ (64 : Nat) ≠ 63) ∧ eN.replay = true ∧ e0.replay = false ∧
    (match eN.chain.xmod with | some x => x.pneg | none => false) = true := by decide

theorem test_vector_integer_words :
    Words [(e0, [oV 63, oV 0, oV 63, oP 7], { pneg := true })] ∧ Claim.Issues (put0 eN v0) 0 eN v0 [oV 63, oV 0, oV 1, oP 0] { pneg := true } ∧
    Words [(e0, [oV 63, oS 63, oP 7], { pneg := true }), (e0, [oV 63, oP 7], { pneg := true }), (e0, [oV 63, oV 0, oP 7], { pneg := true }), (e0, [oV 63, oV2 62, oP 7], { pneg := true }), (e0, [oV 63, oV2 62, oV 0, oP 7], { pneg := true }), (e0, [oV2 0, oV2 62, oP 7], { pneg := true }), (e0, [oP 7, oV 63, oV 0, oP 0], { pneg := true })] ∧ (9 : BitVec 4).toNat < 10 := by decide

theorem test_float_vector_words :
    Words [(e0, [oV 63, oV 0, oV 63, oP 7], { pneg := true, rm := true })] ∧ Claim.Issues (put0 { eR with chain := { eR.chain with xmod := eR.chain.xmod.map (fun x => { x with sat := false }) } } v0) 0
      { eR with chain := { eR.chain with xmod := eR.chain.xmod.map (fun x => { x with sat := false }) } } v0 [oV 1, oV 2, oV 3, oP 0]
      { pneg := true, rm := true } := by decide

theorem test_float_arithmetic :
    (Fmt.f32.value 0x7FC00000).isNan = true ∧ (Fmt.f16.value 0x7C01).isSnan = true ∧ (Fmt.bf16.value 0x3F80).isNan = false ∧
    Fmt.f32.value 0x7F800000 = .inf false ∧ Fmt.f16.value 0xFC00 = .inf true ∧ (Fmt.bf16.value 0x8000).isZero = true ∧
    0x7FFFFF < 2 ^ Fmt.f32.fb ∧ 254 ≤ Fmt.f32.etop ∧ (Fmt.f16.etop : Int) - Fmt.f16.bias < 16 := by decide

theorem test_float_compare_words :
    Words [(e0, [oP 7, oV 0, oV 63, oP 0], { pneg := true })] ∧ (Fmt.f32.value 0x7F800001).isSnan = true ∧
    (Fmt.f16.value 0x3C00).isNan = false ∧ (Fmt.f32.value 0x80000000).isZero = true ∧ (6 : BitVec 3).toNat < 7 := by decide

theorem test_special_function_words : Words [(e0, [oV 63, oV 0, oP 7], { pneg := true })]  := by decide

theorem test_conversion_words :
    Claim.Issues (put0 eR v0) 0 eR v0 [oV 63, oV 0, oP 7] { pneg := true, rm := true, sat := true } ∧
    Claim.Issues (put0 eR v0) 0 eR v0 [oV 63, oV2 62, oP 7] { pneg := true, rm := true, sat := true } ∧
    Claim.Issues (put0 eR v0) 0 eR v0 [oV2 62, oV 63, oP 7] { pneg := true, rm := true, sat := true } ∧
    ((12 : BitVec 4).toNat < 13 ∧ (10 : BitVec 4).toNat < 11 ∧ 11 ≤ (11 : BitVec 4).toNat) ∧
    Claim.Issues (put0 eQ v0) 0 eQ v0 [oV 63, oV 0, oS 5, oP 7] { pneg := true, rm := true } ∧
    ((eQ.rS 5).toNat % 16 = 2 ∧ (eQ.rS 6).toNat % 16 = 8 ∧ (eQ.rS 7).toNat % 16 = 9 ∧ (eQ.rS 6).toNat.testBit 8 = true) := by decide

theorem test_cross_lane_and_predicate_words :
    Words [(e0, [oV 63, oV 0, oP 7], { pneg := true }), (e0, [oV 63, oV 0, oV 1, oP 7], { pneg := true }), (e0, [oV 63, oV 0, oS 63, oP 7], { pneg := true }), (e0, [oP 7, { cls := .s, n := 61, len := 3, align := 1 }], { pneg := true }), (e0, [oP 7, oP 1, oP 0, oP 7], { pneg := true }), (e0, [oP 7, oP 1, oP 1, oP 7], { pneg := true }), (e0, [oP 7, oP 7, { cls := .s, n := 1, len := 3, align := 1 }], { pneg := true }), (e0, [oP 7, oP 7, { cls := .s, n := 0, len := 3, align := 1 }], { pneg := true }), (e0, [oP 7, { cls := .s, n := 0, len := 3, align := 1 }], { pneg := true })]  := by decide

theorem test_reduction_words :
    Words [(e0, [oS 63, oV 63, oP 7], { pneg := true, rm := true }), (e0, [oV 63, oV 0, oP 7], { pneg := true, rm := true })] ∧ (12 : BitVec 4).toNat ∈ [0, 1, 2, 3, 4, 5, 6, 7, 10, 11, 12] ∧ (8 : BitVec 4).toNat ∉ [0, 1, 2, 3, 4, 5, 6, 7, 10, 11, 12] ∧
    (List.replicate 96 (0 : Word)).length = 96 := by decide

/-! ### Hypotheses: memory words -/

/-- An entity with lane 95 alone active; s4 holds 0x40 and s6 holds 0x3C0 (s5 and s7 hold 0). -/
def e1 : Entity := { Entity.start 0 0 (1 <<< 95) (1 <<< 95) [] with boundary := false, sregs := [(4, 0x40), (6, 0x3C0), (8, 0x3C1)] }

/-- A page of 2 MiB at address 0 on die 0, a scratchpad of one frame, unit 0 of the Orangery granted with code 2. -/
def sM : State :=
  { put0 e1 v0 with
    dies := [(0, { Die.fresh with tlb := [{ asid := 0, va := 0, size := 2 ^ 21, pa := 0, sys := false, x := true, w := true, r := true, cached := true }] })]
    asids := [(0, { Asid.fresh with units := [(0, 2)] })], blocks := [(0, { placedBlock with frames := 1 })] }

/-- Words of that entity. -/
abbrev MemWords (l : List (List Operand × Accept)) : Prop := ∀ x ∈ l, Claim.Issues sM 0 e1 v0 x.1 x.2

def cM : Ctx := Claim.ctx sM 0 e1 v0

/-- Where a scratchpad offset of its block lies. -/
def atM (o : Nat) : SpadAt := { block := 0, core := 0, byte := o, off := o }

theorem test_global_loads :
    MemWords [([oV2 62, oS2 4, oV 0, oP 0], { pneg := true, scope := true, ch := true }), ([oV 63, oS2 4, oV 0, oP 7], { pneg := true, scope := true, ch := true }),
      ([oS2 62, oS2 4], { scope := true, ximm := true, ch := true }), ([oS 63, oS2 4], { scope := true, ximm := true, ch := true })] ∧
    lanesIn (cM.active 0) = [95] ∧ Claim.Accesses cM .read 8 false [{ lane := 95, va := 0x40 }] (fun a => a) ∧
    Claim.Accesses cM .read 8 false [{ lane := 255, va := 0x40 + 8 * 63 }] (fun a => a) ∧ (5 : BitVec 3).toNat < 6 := by decide

/-- Lane 95 reads in the mapped page, lane 94 in the next one, which is not mapped. -/
def eF : Entity := { e1 with mask := 3 <<< 94, own := 3 <<< 94 }
def vF : Wave := { v0 with vregs := [(0, (List.range 96).map (fun i => if i = 94 then 0x200000 else 0))] }
def sF : State := { sM with ents := [(0, eF)], waves := [(0, vF)] }

theorem test_global_loads_park :
    Claim.Issues sF 0 eF vF [oV 62, oS2 4, oV 0, oP 0] { pneg := true, scope := true, ch := true } ∧
    (let c := Claim.ctx sF 0 eF vF
     lanesIn (c.active 0) = [94, 95] ∧ c.acquiring = false ∧ (∀ x ∈ [(94, 0x200040), (95, 0x40)], x.2 % 4 = 0 ∧
       (xlate sF c.core vF.asid .read x.2).causes = []) ∧ (xlate sF c.core vF.asid .read 0x40).pa = some 0x40 ∧ lineBusy sF 0 0 false 0x40 = false ∧
       (xlate sF c.core vF.asid .read 0x200040).pa = none) := by decide

theorem test_global_stores :
    Claim.Accesses cM .write 8 true [{ lane := 95, va := 0x40 }] (fun a => a) ∧ Claim.Released cM false 4 sM ∧ Claim.Released cM true 4 (closeEpoch sM 0) ∧
    Claim.Accesses (Claim.ctx (closeEpoch sM 0) 0 e1 v0) .write 8 true [{ lane := 255, va := 0x40 }] (fun a => a) ∧ cM.scope 4 = 4 := by
  refine ⟨by decide, ⟨fun _ => rfl, nofun⟩, ⟨nofun, fun _ => rfl⟩, by decide, by decide⟩

theorem test_scratchpad_loads :
    MemWords [([oV2 62, oS 4, oV 0, oP 7], { pneg := true, scope := true }), ([oV 63, oS 4, oV 0, oP 7], { pneg := true, scope := true }),
      ([oS2 62, oS 4], { scope := true, ximm := true }), ([oS 63, oS 4], { scope := true, ximm := true })] ∧
    Claim.SpadAccesses cM false 8 [(95, 0x3F8)] atM ∧ Claim.SpadAccesses cM true 8 [(255, 0x3F8)] atM := by decide

theorem test_scratchpad_stores :
    Claim.SpadAccesses cM false 1 [(95, 0x3FF)] atM ∧ (∀ x ∈ [(95, 0x3FF)], (atM x.2).core = cM.core) ∧
    Claim.SpadAccesses (Claim.ctx (closeEpoch sM 0) 0 e1 v0) true 8 [(255, 0)] atM ∧ Claim.Released cM true 1 sM ∧
    (v0.gen = none ∧ (∀ w ∈ sM.waves, w.2.gen = none) ∧ (cM.active 0).getLsbD 95 = true) ∧
    ((e1.rS 8 + v0.rV 0 95).toNat % 4 ≠ 0 ∧ ∀ j < 95, (cM.active 0).getLsbD j = false) ∧
    ((e1.rS 6 + v0.rV 0 95).toNat % 8 = 0 ∧ spadAt sM v0.block 8 0x400 = none) := by
  refine ⟨by decide, by decide, by decide, ⟨nofun, fun _ => rfl⟩, by decide, by decide, by decide⟩

theorem test_atomic_words :
    MemWords [([atomField true 13 60, oS2 4, oV 0], { scope := true }), ([atomField true 9 62, oS2 4, oV 0], { scope := true }),
      ([atomField false 13 60, oS2 4, oS 0], { scope := true })] ∧ lanesIn cM.lanes = [95] ∧
    Claim.Accesses cM .atomic 8 true [{ lane := 95, va := 0x40 }] (fun a => a) ∧ Claim.Accesses cM .atomic 4 true [{ lane := 255, va := 0x40 }] (fun a => a) ∧
    Claim.Accesses (Claim.ctx (closeEpoch sM 0) 0 e1 v0) .atomic 4 true [{ lane := 255, va := 0x40 }] (fun a => a) ∧
    (0xFFFFFFFF : Dword).toNat < 2 ^ 32 ∧ (13 : BitVec 4).toNat < 14 := by decide

theorem test_orangery_words :
    MemWords [([oV2 62, oS 4, oV 0], { scope := true, ord := [1] }), ([oV 63, oS 4, oV 0], { scope := true, ord := [2] }),
      ([atomField true 13 60, oS 4, oV 0], { scope := true, ord := [1, 2, 3] }), ([atomField true 11 62, oS 4], { scope := true, ord := [1, 2, 3] })] ∧
    cM.acquiring = false ∧ cM.ord = 0 ∧ lanesIn cM.lanes ≠ [] ∧
    (∀ o ∈ [0x40, 0], o % 64 = 0 ∧ orngClosed o = false ∧ orngCode sM v0.asid o ∈ [2]) := by decide

/-- A store of the entity on its way to its home. -/
def oM : HomeOp :=
  { core := 0, ent := 0, wave := 0, serial := 0, kind := .store, addr := 0x80, data := [1], dep := [], acq := false, lanes := 0, reg := none,
    wide := false }

theorem test_fence_words :
    MemWords [([], {}), ([oS2 4, oS 0], { ch := true })] ∧ Machine.quiet sM 0 0 = true ∧
    Machine.quiet { sM with homeQ := [oM] } 0 0 = false := by decide

/-! ### Hypotheses: control words -/

/-- The words of an entity of wave v on core 0. -/
abbrev WordsOf (s : State) (e : Entity) (v : Wave) (l : List (List Operand × Accept)) : Prop := ∀ x ∈ l, Claim.Issues s 0 e v x.1 x.2

/-- s10 holds 2, s60 holds 4. -/
def eJ : Entity := { e0 with sregs := [(10, 2), (60, 4)] }

/-- Wave 0 with a handler; p1 is true in lane 0 alone. -/
def v1 : Wave := { v0 with preds := [(1, 1)], handler := 0x100 }

/-- The other side of a pair, in fetch slot 1, and an entity whose innermost pair has its token here. -/
def eP (mode : PairMode) : Entity := { e0 with mask := 1, own := 1, pairs := [{ token := 0, mode := mode }] }
def fP (stays : Bool) (p : Park) : Entity := { e0 with mask := 2, own := 2, park := p, pairs := [{ token := 0, mode := .detached 0 stays }] }
def sP (mode : PairMode) (f : Entity) : State := { put0 (eP mode) v0 with ents := [(0, eP mode), (1, f)] }

theorem test_entity_goes_on : 24 ≤ { e0 with words := 23 }.words + 1 ∧ { e0 with words := 22 }.words + 1 < 24 := by decide

theorem test_branch_words :
    Words [(e0, [], { ximm := true }), (e0, [oS 63], { ximm := true }), (e0, [oS 60], { ximm := true }), (eX, [oS 60], { ximm := true }),
      (e0, [oP 1], { pneg := true, ximm := true }), (e0, [oP 7], { pneg := true }), (eN, [oP 0], { pneg := true })] ∧ e0.replay = false ∧
    (∀ i < 96, e0.mask.getLsbD i = true ∧ (v1.rP 0).getLsbD i = true ∧ (v0.rP 1).getLsbD i = false) ∧
    ((v1.rP 1).getLsbD 0 = true ∧ (v1.rP 1).getLsbD 95 = false) := by decide

theorem test_return_words :
    Words [(eJ, [oS 60], {}), (eJ, [oS 10], {}), (eJ, [oS 60], { ximm := true })] ∧
    (eJ.chainPc.extractLsb' 32 32 ++ eJ.rS 60 : Dword).extractLsb' 0 2 = 0 ∧ (eJ.chainPc.extractLsb' 32 32 ++ eJ.rS 10 : Dword).extractLsb' 0 2 ≠ 0 := by decide

theorem test_divergence_word :
    WordsOf (put0 e0 v1) e0 v1 [([oP 1], { pneg := true })] ∧
    (let c := Claim.ctx (put0 e0 v1) 0 e0 v1
     c.lanes &&& c.pred 1 ≠ 0 ∧ c.lanes &&& ~~~(c.pred 1) ≠ 0) ∧ pendS (put0 e0 v1) 0 = [] ∧
    freeFslot (put0 e0 v1) 0 = some 1 ∧ freeFslot { put0 e0 v1 with ents := (List.range 8).map (fun k => (k, e0)) } 0 = none := by decide

theorem test_reconvergence_word :
    (∀ p ∈ e0.pairs.head?, p.token ≠ e0.pc) ∧ WordsOf s0 e0 v0 [([], {})] ∧
    (∀ m ∈ [PairMode.detached 1 true, .detached 1 false, .serialTaken true 2 2 8 e0.snap, .serialNot true 2 2 e0.snap], ∀ p ∈ [Park.running, .rcv],
      WordsOf (sP m (fP false p)) (eP m) v0 [([], {})] ∧ (eP m).pairs = [{ token := 0, mode := m }] ∧ (eP m).pc = 0 ∧
      pendS (sP m (fP false p)) 0 = [] ∧ look (sP m (fP false p)).ents 1 = some (fP false p)) ∧
    (fP true .rcv).park = .rcv ∧ (fP false .running).park ≠ .rcv ∧ (fP true .rcv).wave = e0.wave := by decide

theorem test_barrier_and_exit_words :
    Words [(e0, [], {}), (eP (.detached 1 true), [], {})] ∧ look s0.blocks v0.block = some placedBlock ∧ look s0.gangs 0 = some placedGang ∧
    v0.block ∈ placedGang.blocks ∧ (eP (.detached 1 true)).pairs ≠ [] ∧ e0.pairs = [] ∧ Machine.quiet s0 0 0 = true ∧ nmapWf s0.ents = true ∧
    (fP true .running).park ≠ .bar ∧ (fP true .bar).park = .bar ∧ nmapWf (sP (.detached 1 true) (fP true .bar)).ents = true ∧ v0.gen = none := by decide

theorem test_exit_of_a_side :
    (∀ m ∈ [PairMode.detached 1 true, .serialTaken true 2 2 8 e0.snap, .serialNot true 2 2 e0.snap],
      WordsOf (sP m (fP false .rcv)) (eP m) v0 [([], {})] ∧ (eP m).pairs = [{ token := 0, mode := m }] ∧ (eP m).park = .running ∧
      pendS (sP m (fP false .rcv)) 0 = []) ∧
    (∀ q ∈ [Park.running, .rcv], (look (sP (.detached 1 true) (fP false q)).ents 1).map (fun f => f.pairs) =
      some [{ token := 0, mode := .detached 0 false }] ∧ (fP false q).park ≠ .bar ∧ (fP false q).park ≠ .gbar) ∧
    (∀ w ∈ s0.waves, placedGang.gbars ≤ w.2.gbars) := by decide

theorem test_special_register_words :
    Words [(e0, [oS 63], {}), (e0, [oS2 62], {}), ({ e0 with level := true }, [oS 63], {}), ({ e0 with level := true }, [oS2 62], {})] ∧
    (3 : Reg).toNat < 4 ∧ (0x0C : Reg).toNat < 0x0D ∧ 0x28 ≤ (0x28 : Reg).toNat := by decide

theorem test_trap_entry :
    look (put0 e0 v1).ents 0 = some e0 ∧ look (put0 e0 v1).waves e0.wave = some v1 ∧ v1.handler ≠ 0 ∧ e0.level = false ∧ 0xFF < 2 ^ 8 := by decide

theorem test_trap_words :
    Words [(e0, [], {}), (eN, [], { pneg := true })] ∧ ({ e0 with level := true, trapPc := 8 } : Entity).trapPc.extractLsb' 0 2 = 0 ∧
    ({ e0 with level := true, trapPc := 6 } : Entity).trapPc.extractLsb' 0 2 ≠ 0 ∧ Words [({ e0 with level := true, trapPc := 6 }, [], {})] ∧
    nmapWf s0.ents = true ∧ v0.handler = 0 := by decide

/-- An invalidation of the entity on its way. -/
def iI : Icinv := { ent := 0, wave := 0, serial := 0, asid := 0, base := 0, len := 64, all := false, clock := [] }

theorem test_hold_and_prefix_words :
    Words [(e0, [], {}), (e0, [oS 63], {}), (e0, [oS2 62, oS 63], {})] ∧ e0.chain = { first := none, hint := false, xmod := none, ximm := none } ∧
    (∃ i ∈ ({ s0 with icinvs := [iI] } : State).icinvs, i.ent = 0 ∧ i.wave = 0) ∧
    (∀ e ∈ [e0, eX, eN, { e0 with chain := { e0.chain with hint := true } }, { e0 with words := 23 }, { e0 with words := 22 }],
      Claim.At (put0 e v0) 0 e v0 ∧ pendingHit (put0 e v0) 0 0 [] = false ∧ genTraps v0 0 [] = [] ∧ ∀ x ∈ e.chain.xmod, x.scope.toNat < 6 ∧ x.ch ≠ 3) := by
  decide

/-! ### Hypotheses: copies, engines, result objects -/

/-- s9 holds 1; s12 and s13 name a tile's place; a copy of one row of 8 bytes is described in s16 to s23; s24 and s48 on describe the operands
of engine instructions; s33 asks for column 159; s36 is the handle of object 0 in generation 1; s41 is the high half of a mask of tag 63 and
s43 of tag 37; s45 holds 5. -/
def eU : Entity :=
  { e1 with
    sregs := [(9, 1), (13, 640), (18, 0x10008), (20, 0x100), (21, 8), (25, 1), (33, 0x19F), (36, 0x1000), (41, 0x80000000), (43, 0x20), (45, 5),
      (48, 32), (49, 0x100001)] }

/-- A launch with two bound objects. -/
def lU : Launch :=
  { record := { parseRecord 0 with objs := [(0x1000, 0), (0x2001, 0)] }, queue := 0, asid := 0, prio := 0, phase := .running, placeable := true,
    takenTick := 0, nextGang := 1, retired := 0, startTick := some 0, outstanding := 0, charged := 0, status := none, bound := true, closed := [],
    final := [], seq := none, irrev := false, elapsed := 0, places := [], again := [], counts := [], exposed := false, dropped := [], spillRing := [],
    ringAt := 0, arrivals := [], cutting := none, redo := false, ackClock := [] }

/-- A block of the launch with 96 frames and 64 tags, tag 5 and tag 37 pending, that has received pass 1 of object 1. -/
def bU : Block :=
  { placedBlock with frames := 96, tags := ~~~(1#64 <<< 5 ||| 1#64 <<< 37), seals := [(1, { isSealed := false, pass := 1, received := true })] }

/-- The descriptor of object 0: version 7, host-visible. -/
def xU : Nat := 0x400000000000040000050800000000000000000000000000000010000000000000000000ffffffff0000000000000007

/-- Format blocks at 0 (BF16 with BF16) and 32 (PBF of two planes with BF16). -/
def sU : State :=
  { put0 eU v0 with
    blocks := [(0, bU)], launches := [(0, lU)]
    cores := [(0, { Core.fresh with data := { CoreData.fresh with scratch := [(0, 1), (16, 1), (32, 8), (35, 2), (48, 1)] } })]
    asids := [(0, { Asid.fresh with objBase := some 0, objs := [(0, true)], gens := [(0, 1)] })]
    orangery := wrN [] 0 64 xU }
def cU : Ctx := Claim.ctx sU 0 eU v0

/-- The same core with its engine's queue full, and with sixteen copies in flight. -/
abbrev UnitWords (l : List (List Operand × Accept)) : Prop := ∀ x ∈ l, Claim.Issues sU 0 eU v0 x.1 x.2

theorem test_copy_words :
    UnitWords [([oGroup 16 4, oGroup 20 4], { ch := true })] ∧ look sU.blocks v0.block = some bU ∧ cU.acquiring = false ∧
    (∀ g ∈ [false, true], (copyIssue cU g 63 16 20).traps = [] ∧ (copyIssue cU g 63 16 20).scope < 2 ∧
      setsBusy sU (copyIssue cU g 63 16 20).copy.reads (copyIssue cU g 63 16 20).copy.writes = false) ∧
    bU.tags.getLsbD 5 = false ∧ bU.tags.getLsbD 63 = true ∧ (sU.core cU.core).data.copies.length < 16 := by decide

theorem test_copy_released : Claim.Released cU false 1 sU ∧ Claim.Released cU true 4 (closeEpoch sU 0) := ⟨⟨fun _ => rfl, nofun⟩, ⟨nofun, fun _ => rfl⟩⟩

theorem test_tag_and_tile_wait_words :
    UnitWords [([oS2 40], {}), ([oS2 42], {}), ([oS 63, oS2 62], {}), ([oS 63], {})] ∧
    ((eU.rPair 40).getLsbD 63 = true ∧ eU.rPair 40 &&& ~~~bU.tags = 0) ∧ (eU.rPair 42 ≠ 0 ∧ eU.rPair 42 &&& bU.tags = 0) ∧
    (look (sU.core 0).data.asn 3).getD 0 = 0 ∧ ((0 : Int) - 0) % 2 ^ 16 < 2 ^ 15 ∧ (2 : Int) ^ 15 ≤ ((0 : Int) - 1) % 2 ^ 16 := by decide

/-- The operands that MatrixIssueWords names, as issue meets them here. -/
def issuesU : List EngineIssue :=
  [zeroIssue cU 1 1 3 9, stepsIssue cU .steps true false 1 1 3 9 24, stepsIssue cU .steps false false 1 1 3 9 24,
    stepsIssue cU .steps false true 1 1 3 9 48, tileIssue cU false 3 9 12, tileIssue cU true 3 9 12, readIssue cU 63 32 3,
    stepsIssue cU .bound false false 1 1 3 9 48]

theorem test_matrix_issue_words :
    UnitWords [([oS 9], {}), ([oS 9, oGroup 24 8], {}), ([oS 9, oGroup 48 8], {}), ([oS 9, oGroup 12 4], { rm := true, sat := true }), ([oV 63, oS2 32], {})] ∧
    (∀ i ∈ issuesU, i.traps = [] ∧ regionTraps i.pos i.regions = [] ∧ i.op.cores = [0] ∧ pendingHit sU 0 0 i.vregs = false ∧ genTraps v0 0 i.vregs = [] ∧
      setsBusy sU (regionFrames i.pos i.regions false) (regionFrames i.pos i.regions true) = false) ∧
    cU.acquiring = false ∧ (sU.core 0).data.queue.length + (sU.core 0).data.enroute.length < 8 := by decide +kernel

theorem test_result_object_words :
    UnitWords [([oS2 62, oS 9], {}), ([oS 9, oS 63], {}), ([oGroup 48 8, oS 36], {}), ([oGroup 8 8, oS 36], {}), ([oGroup 0 8, oS 36], {}),
      ([oGroup 48 8, oS 36, oS2 62], {}), ([oGroup 8 8, oS 36, oS 0], {}), ([oS 0, oS 63], {}), ([oS2 62], {})] ∧
    boundHandle cU 9 = some (1, 0x2001) ∧ boundHandle cU 45 = none ∧ (bU.sealOf 1).received = true ∧ (bU.sealOf 0).received = false ∧
    boundHandle cU 0 = some (0, 0x1000) ∧ sU.replies = [] ∧ cU.acquiring = false := by decide +kernel

theorem test_quality_words :
    (objNamed sU 0 (eU.rS 36)).map (fun x => (x.1, objGet x.2 .version, objGet x.2 .quality, objGet x.2 .ldone)) = some (0, 7, 0xFFFFFFFF, 1) ∧
    cU.turn 0 = true ∧ cU.caughtUp 0 = true ∧ orngPoison sU 0 64 = none ∧ (eU.rS 0).toNat ≤ 0xFFFFFFFF ∧ ¬ (eU.rPair 62).toNat < 7 := by decide +kernel

/-! ### Hypotheses: tasks, futures, generators, remote invocation -/

/-- s4 holds 0x40, s6 the address of a full future, s8 the address of an empty one, s10 asks for a pleat at 0 with T = 96, s12 to s15 name a send
to window 3 from 0x100, s16 is its length, s17 is 0x400 and s18 and s19 hold 1 and 0. -/
def eT : Entity :=
  { e1 with
    sregs := [(4, 0x40), (6, 0x100), (8, 0x200), (10, 0x60000000), (12, 0x200000), (14, 0x100), (16, 8), (17, 0x400), (18, 1)] }

/-- A registered window of 8 bytes. -/
def wT : Window :=
  { reduce := false, format := 0, contributors := 1, base := 0, length := 8, arrival := 0, origin := 0, elements := 0, expo := 0, arrived := 0, sums := [],
    nans := [], posInf := [], negInf := [], saturated := false }

def sT : State :=
  { put0 eT v0 with
    dies := [(0, { Die.fresh with tlb := [
      { asid := 0, va := 0, size := 2 ^ 21, pa := 0, sys := false, x := true, w := true, r := true, cached := true },
      { asid := 0, va := 2 ^ 21, size := 2 ^ 21, pa := peerAt + 3 * 2 ^ 40, sys := false, x := false, w := true, r := true, cached := true }] })]
    asids := [(0, { Asid.fresh with units := [(0, 2)] })], blocks := [(0, { placedBlock with frames := 96 })], mem := [(0x100, 1), (0x108, 9)]
    orangery := [(0x40, 1)], launches := [(0, lU)]
    windows := [(3, wT)] }
def cT : Ctx := Claim.ctx sT 0 eT v0

abbrev TaskWords (l : List (List Operand × Accept)) : Prop := ∀ x ∈ l, Claim.Issues sT 0 eT v0 x.1 x.2

theorem test_task_released : Claim.Released cT true 4 (closeEpoch sT 0) ∧ Claim.Released cT false 4 sT := ⟨⟨nofun, fun _ => rfl⟩, ⟨fun _ => rfl, nofun⟩⟩

theorem test_join_words :
    TaskWords [([oS 4, oS 63], {}), ([oS 4], {}), ([{ cls := .v, n := 8 * 7, len := 4, align := 1 }, oS 4], { ximm := true })] ∧
    (∀ o ∈ [(eT.rS 4).toNat, (eT.rS 17).toNat], o % 16 = 0 ∧ orngClosed o = false ∧ orngCode sT v0.asid o ∈ [2, 3] ∧ cT.turn o = true ∧ cT.caughtUp o = true) ∧
    rdN sT.orangery (eT.rS 4).toNat 4 ≠ 0 ∧ rdN sT.orangery (eT.rS 17).toNat 4 = 0 ∧ orngPoison sT (eT.rS 17).toNat 4 = none ∧ lanesIn cT.lanes = [95] ∧ cT.acquiring = false ∧
    (eT.pc + 4 * (0x7FFF : BitVec 16).signExtend 64).extractLsb' 32 32 = eT.pc.extractLsb' 32 32 ∧ lanesIn (0 : Lanes) = [] := by decide

theorem test_future_words :
    TaskWords [([oV2 62, oS2 6, oV 0], {}), ([oV2 62, oS2 8, oV 0], {})] ∧ lanesIn eT.mask = [95] ∧
    (∀ va ∈ [0x100, 0x200], Claim.Accesses cT .future 16 true [{ lane := 95, va := va }] (fun a => a) ∧ ownOnLine sT 0 0 va = false ∧
      Claim.Accesses cT .futureWrite 16 true [{ lane := 95, va := va }] (fun a => a) ∧
      Claim.Accesses (Claim.ctx (closeEpoch sT 0) 0 eT v0) .futureWrite 16 true [{ lane := 95, va := va }] (fun a => a)) ∧
    (rdN sT.mem 0x100 4 ≠ 0 ∧ covers (sT.die 0).clock (sT.die ((homeDie 0x100).getD 0)).clock = true) ∧ rdN sT.mem 0x200 4 = 0 ∧
    memPoison sT 0x100 = none ∧ hasApplied sT 0 0x100 16 = true := by decide

/-- Lane 95 reads the full future at 0x100, lane 94 one in a page that is not mapped. -/
def eTF : Entity := { eT with mask := 3 <<< 94, own := 3 <<< 94 }
def vTF : Wave := { v0 with vregs := [(0, (List.range 96).map (fun i => if i = 94 then 0x400000 else 0))] }
def sTF : State := { sT with ents := [(0, eTF)], waves := [(0, vTF)] }

theorem test_future_words_park :
    Claim.Issues sTF 0 eTF vTF [oV2 62, oS2 6, oV 0] {} ∧
    (let c := Claim.ctx sTF 0 eTF vTF
     lanesIn c.lanes = [94, 95] ∧ (xlate sTF c.core vTF.asid .future 0x100).pa = some 0x100 ∧ (xlate sTF c.core vTF.asid .future 0x400100).pa = none ∧
     (xlate sTF c.core vTF.asid .future 0x100).causes = [] ∧ (xlate sTF c.core vTF.asid .future 0x400100).causes = [] ∧
     lineBusy sTF 0 0 true 0x100 = false ∧ ownOnLine sTF 0 0 0x100 = false ∧ memPoison sTF 0x100 = none ∧ hasApplied sTF c.die 0x100 16 = true) := by decide

/-- A generator at scratchpad offset 0 of which entity 0 is the producer or the consumer, and its wave. -/
def gT (consumer : Bool) : Gen :=
  { buf := 0, consumer := consumer, draining := false, holder := 0, entry := 0x1000, producer := 0x2000, n := 1, group := [], own := 1, held := [] }
def vT (consumer : Bool) : Wave := { v0 with gen := some (gT consumer) }

/-- A pleat with `count` entries and T = `t`. -/
def sG (consumer : Bool) (count t : Nat) : State :=
  { sT with
    waves := [(0, vT consumer)]
    cores := [(0, { Core.fresh with data := { CoreData.fresh with
      scratch := if count = 0 then [(1554, BitVec.ofNat 8 t)] else [(1553, BitVec.ofNat 8 count), (1554, BitVec.ofNat 8 t)] } })] }

theorem test_generator_words :
    TaskWords [([oS 10], { ximm := true })] ∧ v0.gen = none ∧ v0.vlimit = 64 ∧
    (1 ≤ (eT.rS 10).toNat / 2 ^ 24 ∧ (eT.rS 10).toNat / 2 ^ 24 ≤ 96 ∧ (eT.rS 10).toNat % 2 ^ 19 % 2048 = 0 ∧ pleatBusy cT 0 = false) ∧
    (gT true).holder = 0 ∧ (gT true).draining = false ∧ (95 : Byte).toNat < (96 : Byte).toNat ∧ (96 : Byte).toNat - 1 < (96 : Byte).toNat := by decide

theorem test_generator_pleats :
    (∀ n ∈ [(95, 96), (96, 96), (0, 1)], Claim.Issues (sG false n.1 n.2) 0 eT (vT false) [] {} ∧
      pleatBusy (Claim.ctx (sG false n.1 n.2) 0 eT (vT false)) 0 = false ∧ (gT false).held = [] ∧ (gT false).group = [] ∧
      rdN ((sG false n.1 n.2).core 0).data.scratch 1553 1 = n.1 ∧ rdN ((sG false n.1 n.2).core 0).data.scratch 1554 1 = n.2) ∧
    (∀ n ∈ [(1, 1), (96, 96)], Claim.Issues (sG true n.1 n.2) 0 eT (vT true) [] {} ∧
      pleatBusy (Claim.ctx (sG true n.1 n.2) 0 eT (vT true)) 0 = false ∧ (gT true).held = [] ∧ (gT true).group = [] ∧
      rdN ((sG true n.1 n.2).core 0).data.scratch 1553 1 = n.1 ∧ rdN ((sG true n.1 n.2).core 0).data.scratch 1554 1 = n.2) := by decide +kernel

theorem test_generator_vector_words :
    (∀ n ∈ [(95, 96), (96, 96), (0, 1)], Claim.Issues (sG false n.1 n.2) 0 eT (vT false) [oV 0, oV 31] {}) ∧
    (∀ n ∈ [(1, 1), (96, 96)], Claim.Issues (sG true n.1 n.2) 0 eT (vT true) [oV 32, oV 63] {}) := by decide +kernel

theorem test_remote_words :
    TaskWords [([oV 63, { cls := .v, n := 56, len := 8, align := 8 }, oS 16], {}), ([oGroup 12 4, oS 16], {}), ([oS 4, oS2 18], {}), ([oS 17, oS2 62], {}), ([oS 17, oS2 18], {}), ([], {})] ∧
    cT.acquiring = false ∧ lanesIn cT.lanes ≠ [] ∧ eT.park = .running ∧ outstanding sT v0.owner + 96 ≤ 2 ^ 24 ∧
    orngPoison sT 0x40 8 = none ∧ cT.turn 0x40 = true ∧ cT.caughtUp 0x40 = true ∧ wsendWindow cT (eT.rPair 12).toNat = some (3, 0) ∧
    wsendTraps cT 12 16 = [] ∧ (sT.sends.filter (fun w => decide (w.core = cT.core))).length < 16 ∧
    (∀ p ∈ wsendPages cT 12 16, (xlate sT cT.core v0.asid p.2 p.1).pa.isSome) ∧
    ((rdN sT.orangery 0x40 8 + 2 ^ 64 - (eT.rPair 18).toNat) % 2 ^ 64 < 2 ^ 63 ∧ ¬ (rdN sT.orangery 0x400 8 + 2 ^ 64 - (eT.rPair 18).toNat) % 2 ^ 64 < 2 ^ 63) ∧
    outstanding sT v0.owner = 0 ∧ outstanding { sT with launches := [(0, { lU with outstanding := 1 })] } v0.owner ≠ 0 := by decide

/-! ### Hypotheses: entities, fetch, parks, parents -/

/-- Entity 0 of wave v. -/
abbrev OneOf (s : State) (e : Entity) (v : Wave) : Prop := look s.ents 0 = some e ∧ look s.waves e.wave = some v

/-- A cause held for an entity. -/
def causeE (c : Byte) : AsyncCause := { cause := c, addr := 0 }

theorem test_entity_steps :
    (∀ p ∈ [Park.running, .pause 0, .pause 1, .wait none [], .poll none 0, .poll none 1, .bar, .gbar, .icinv, .tags true 1, .tile 3 1, .gfence [], .exited],
      OneOf (put0 { e0 with park := p, boundary := true, pending := [causeE 0x70] } v1) { e0 with park := p, boundary := true, pending := [causeE 0x70] } v1 ∧
      heldByGen (put0 { e0 with park := p } v1) 0 e0 = false) ∧
    (0 ≤ coreCycles s0 0 ∧ coreCycles s0 0 < 1 ∧ s0.now < 1) ∧ (2 ^ 20 ≤ { e0 with runs := 2 ^ 20 }.runs ∧ e0.runs < 2 ^ 20) ∧
    (0 + 2 ^ 22 ≤ { s0 with now := 2 ^ 22 }.now ∧ s0.now < 0 + 2 ^ 22) ∧ ({ e0 with stalled := some 0 } : Entity).stalled = some 0 ∧
    (v1.handler ≠ 0 ∧ e0.level = false ∧ e0.boundary = false) ∧ (causeE 0x40).cause ≠ 0x70 := by decide

/-- Entity 0 has executed EXIT; a second entity of its wave, or none, is left. -/
def eE : Entity := { e0 with park := .exited }

theorem test_drain :
    drained (put0 eE v0) 0 eE = true ∧ parkedFor (put0 eE v0) 0 eE = true ∧ drained { put0 eE v0 with homeQ := [oM] } 0 eE = false ∧ eE.pending = [] ∧
    look ({ put0 eE v0 with ents := [(0, eE), (1, e0)] } : State).ents 1 = some e0 ∧ (∀ x ∈ (put0 eE v0).ents, x.1 ≠ 0 → x.2.wave ≠ 0) ∧
    isSpilled s0 0 = false ∧ v0.kind = .block ∧ v0.joins = [] ∧ v0.acks = [] ∧ look s0.blocks v0.block = some placedBlock := by decide

/-- A state whose memory holds an EXIT word at 0, in a page that may be executed. -/
def sFe (e : Entity) : State :=
  { put0 e v0 with
    dies := [(0, { Die.fresh with tlb := [{ asid := 0, va := 0, size := 2 ^ 21, pa := 0, sys := false, x := true, w := true, r := true, cached := true }] })]
    mem := [(0, 1), (3, 0xEE)] }

/-- The word that a fetch gives. -/
def wordGot (f : FetchEnd) : Option Word := match f with | .word _ w => some w | _ => none

theorem test_fetch_and_arbitration :
    wordGot (fetchWord (sFe e0) 0 0 0) = some 0xEE000001#32 ∧ OneOf (sFe e0) e0 v0 ∧ e0.buf = [] ∧ e0.words < 24 ∧
    heldByGen (sFe e0) 0 e0 = false ∧
    (look (sFe { e0 with buf := [1], boundary := true }).ents (32 * 0 + 8 * 0 + 0) = some { e0 with buf := [1], boundary := true } ∧
      haltedEnt (sFe { e0 with buf := [1], boundary := true }) 0 e0 = false ∧ look ((sFe e0).core 0).holder 3 = none ∧ look ((sFe e0).core 0).lastSlot 0 = none) ∧
    look (({ s0 with cores := [(0, { Core.fresh with holder := [(0, 0)] })] } : State).core 0).holder 0 = some 0 ∧
    (look (({ s0 with cores := [(0, { Core.fresh with holder := [(0, 0)] })] } : State).core 0).vec 0).getD 0 ≤ s0.now := by decide

/-- The run holder has a vector word next while its unit is held; the entity behind it has a scalar one. -/
def sV : State :=
  { s0 with
    now := 7, ents := [(0, { e0 with buf := [0x2030A0C8] }), (3, { e0 with buf := [0x02001001], boundary := true })]
    cores := [(0, { Core.fresh with holder := [(0, 0)], lastSlot := [(0, 0)], vec := [(0, 9)] })] }

theorem test_shadow_turn :
    sV.focus = some 0 ∧ sV.now < (look (sV.core 0).vec 0).getD 0 ∧ scalarWordOf 0x2030A0C8#32 = false ∧ scalarWordOf 0x02001001#32 = true ∧
    (∀ f ∈ [1, 2], look sV.ents f = none) ∧ ((look sV.ents 3).map (fun e => e.chain.isEmpty)) = some true := by decide

/-- Nothing is mapped at 2^21, and the page at 0 may not be executed. -/
def sUn : State := { sFe { e0 with pc := 0x200000 } with asids := [] }
def sNx : State := { sFe e0 with cores := [(0, { Core.fresh with tlb := [{ asid := 0, va := 0, size := 2 ^ 21, pa := 0, sys := false, x := false, w := true, r := true, cached := true }] })] }
def fetchTrap (f : FetchEnd) : Option Nat := match f with | .refused c => some c | .unmapped => some 0 | _ => none

theorem test_fetch_stops : fetchTrap (fetchWord sUn 0 0 0x200000) = some 0 ∧ fetchTrap (fetchWord sNx 0 0 0) = some 0x11 := by decide

/-- A park with one record to write, on a die whose FAULT ring has 16 entries. -/
def pP : ParkRec := { id := 3, ent := 0, copy := none, addrs := [0x5000], order := 0, waiting := [(0x5000, 1)], asid := 0, core := 0, total := 1 }
def sR (n : Nat) : State :=
  { s0 with
    dies := [(0, { Die.fresh with parks := [pP] })], ctl := { Ctl.reset with bootState := 4, rings := [(1, { base := 4096, size := n, head := 0, tail := 15 })] } }

/-- A wave of 32 entities on JOIN at offset 0x40, a child that waits for their room, and the other cores of the pavilion fenced. -/
def eW : Entity := { e0 with park := .wait (some 0x40) [] }
def childW : Child := { asid := 0, entry := 0, join := 0x40, payload := [0, 0, 0, 0], owner := .launch 0, vlimit := 64, handler := 0, pav := 0 }
def sW (starved : Bool) : State :=
  { put0 eW v0 with
    ents := (List.range 32).map (fun k => (k, eW)), launches := [(0, { lU with record := { lU.record with spillSize := 7 } })]
    mgmt := { Mgmt.reset with fences := (List.range 15).map (fun c => c + 1) }
    pavs := [(0, { Pavilion.fresh with bins := if starved then
      [(0, { asid := 0, entry := 0, handler := none, children := [childW], packets := [], firstAt := 0, lastAt := 0, idle := true, due := true,
             relaunch := 0 })] else [] })] }

/-- The parent out of its core. -/
def pW : Spilled := { pav := 0, waveId := 0, place := 0, ents := [(24, eW)] }
def sS : State := { s0 with ents := [], spilled := [pW] }

theorem test_fault_record_and_parent_steps :
    (parkGang (sR 16) pP = some 0 ∧ (sR 16).contexts = [] ∧ ((sR 16).die 0).parks = [pP] ∧ parkSent (sR 16) pP = true ∧ ringFull (sR 16) 1 = true ∧ ringFull (sR 32) 1 = false) ∧
    (OneOf (sW true) eW v0 ∧ joinOffset eW = some 0x40 ∧ childStarved (sW true) (withoutParent (sW true) 0 0 0) 0 = true ∧
      childStarved (sW false) (withoutParent (sW false) 0 0 0) 0 = false ∧ (entsOf (sW true) 0).all (fun x => parentIdle (sW true) x.1 x.2) = true ∧
      spillPlace (sW true) v0.owner = some 0) ∧
    (sS.spilled[0]? = some pW ∧ look sS.waves 0 = some v0 ∧ look sS.blocks v0.block = some placedBlock ∧ rdN sS.orangery 0x40 4 = 0 ∧
      rdN ({ sS with orangery := [(0x40, 1)] } : State).orangery 0x40 4 ≠ 0 ∧ resident sS placedBlock = true ∧ parentCore sS pW v0 placedBlock = some (0, false) ∧
      slotKeys sS 0 3 1 = some [24] ∧ (sS.pav 0).halting = false ∧ (pW.ents.map (fun x => x.1)).Nodup) := by decide +kernel

/-! ### Hypotheses: homes, banks, replies -/

/-- An operation of entity 0 on its way to its home. -/
def homeH (k : HomeKind) (n : Nat) : HomeOp := { oM with kind := k, data := List.replicate n 1 }
def sH (o : HomeOp) : State := { s0 with homeQ := [o] }

/-- A reply on its way. -/
def replyH (reg : Option (Nat × Option Nat)) (k : ReplyKind) (needs : List Nat) : Reply :=
  { core := 0, ent := 0, wave := 0, serial := 0, reg := reg, wide := true, kind := k, needs := needs, acq := false }

/-- A held write of entity 0. -/
def heldH (d : HeldAt) : HeldWrite := { ent := 0, wave := 0, lanes := 0, serial := 0, time := 0, dst := d, data := [7], dep := [] }
def sD (d : HeldAt) (now : Nat) : State := { s0 with now := now, cores := [(0, { Core.fresh with data := { CoreData.fresh with held := [heldH d] } })] }

theorem test_memory_steps :
    (∀ o ∈ [homeH .store 1, homeH (.atom 13 1 2) 0, homeH (.atom 0 1 0) 0, homeH .fill 8], turnAtHome (sH o) o = true ∧ (sH o).homeQ[0]? = some o ∧
      memPoison (sH o) o.addr = none ∧ o.addr % 16 = 0 ∧ ∀ i < 16, (homeDie (o.addr + i)).isSome = true) ∧
    (∀ r ∈ [replyH none (.value 0 5) [], replyH (some (62, none)) (.load [(255, 0)] 8 false false) [], replyH (some (62, some 94)) (.load [(94, 0), (95, 8)] 8 false true) [], replyH (some (62, some 95)) (.value 0 5) []],
      ({ s0 with replies := [r] } : State).replies[0]? = some r ∧ covers ((({ s0 with replies := [r] } : State)).die 0).clock r.needs = true ∧
      loadTurn { s0 with replies := [r] } r = true ∧ r.readsPoison { s0 with replies := [r] } = none) ∧
    covers (s0.die 0).clock (replyH none .ack [9]).needs = false ∧
    (∀ d ∈ [HeldAt.memory 64, .orangery 64, .scratch 1 64], ((sD d 256).core 0).data.held = [heldH d] ∧ (heldH d).time + 256 ≤ (sD d 256).now ∧
      (sD d 255).now < (heldH d).time + 256) ∧ look s0.waves 0 = some v0 ∧ v0.ended = false := by decide

/-- An operation of entity 0 on its way to the bank of offset 0x40. -/
def bankH (k : BankKind) : BankOp :=
  { ent := 0, wave := 0, core := 0, serial := 0, lanes := 0, off := 0x40, kind := k, reg := some (0, some 95), wide := false, acq := true, dep := [] }
def sB (k : BankKind) : State := { s0 with bankQ := [bankH k], orangery := [(0x40, 2), (0x47, 1)] }

theorem test_bank_step :
    (∀ k ∈ [BankKind.load 8 true, .store [1, 2], .atom 13 1 2, .update 11 5, .fold 0 [1, 2], .ordx 0 0 5, .ordx 10 23 5, .ordx 11 0 5, .jinit 3,
        .spawn 1 [childW], .spawn (2 ^ 32 - 2) [], .decrement (.launch 0) 2, .decrement (.launch 0) 1, .decrement (.launch 0) 3],
      (sB k).bankQ[0]? = some (bankH k) ∧ turnAtBank (sB k) 0 0 0 0 0 0x40 = true ∧ descAt (sB k) 0x40 = false ∧ covers ((sB k).die (0x40 / 2 ^ 21 % 8)).clock (bankH k).dep = true ∧
      (bankH k).readsPoison (sB k) = none ∧ fixedAt (sB k) 0x40 = false) ∧
    (rdN (sB (.jinit 0)).orangery 0x40 4 + 1 < 2 ^ 32 ∧ 2 ^ 32 ≤ rdN (sB (.jinit 0)).orangery 0x40 4 + (2 ^ 32 - 2) ∧ rdN (sB (.jinit 0)).orangery 0x40 4 = 2) ∧
    bits (rdN (sB (.jinit 0)).orangery (0x40 + 4) 4) 24 1 = 1 := by decide

/-! ### Hypotheses: epochs and result objects -/

/-- A write of die 0, an epoch of host writes of one die, an epoch of die 1 that die 0 can apply and one that it cannot. -/
def writeE (a : Nat) : DieWrite := { ent := 0, wave := 0, addr := a, data := [5], stamp := 1, serial := 0 }
def epochE (n : Nat) : Epoch := { src := 1, stamp := [0, n, 0, 0, 0, 0, 0, 0], writes := [writeE 64] }
def epochH (d : Nat) (stamp : List Nat) : Epoch := { src := d, stamp := stamp, writes := [writeE hostAt] }
def sE (d : Die) (now : Nat) : State := { s0 with now := now, dies := [(0, d)] }

theorem test_epoch_steps :
    (let d : Die := { Die.fresh with openAt := some 0, opened := [writeE 64, writeE hostAt] }
     ((sE d 1024).die 0).openAt = some 0 ∧ (sE d 1023).now < 0 + 1024 ∧ 0 + 1024 ≤ (sE d 1024).now) ∧
    (∀ n ∈ [1, 2], ((sE { Die.fresh with inbox := [epochE n] } 0).die 0).inbox.find? (fun y => decide (y.src = 1)) = some (epochE n)) ∧
    canApply { Die.fresh with inbox := [epochE 1] } (epochE 1) = true ∧ canApply { Die.fresh with inbox := [epochE 2] } (epochE 2) = false ∧
    ((homeDie 64).isSome = true ∧ lastStamp s0 64 ≤ 1) ∧
    (∀ n ∈ [1, 0], (let s : State := { s0 with dies := [(0, { Die.fresh with hostOut := [epochH 0 [1, n]] }), (1, { Die.fresh with hostOut := [epochH 1 [0, 1]] })] }
      (s.die 0).hostOut = [epochH 0 [1, n]] ∧ (∀ y < 8, y ≠ 0 → ∀ h ∈ (s.die y).hostOut, y = 1 ∧ h = epochH 1 [0, 1]) ∧ epochH 1 [0, 1] ∈ (s.die 1).hostOut ∧
      ((epochH 1 [0, 1]).stamp.getD 1 0 ≤ (epochH 0 [1, n]).stamp.getD 1 0 ↔ n = 1))) ∧

    (appliedEverywhere s0 [] = true ∧ appliedEverywhere s0 [1] = false) ∧
    (∀ i ∈ [iI, { iI with clock := [1] }, { iI with clock := [0] }], ({ s0 with icinvs := [i] } : State).icinvs[0]? = some i) ∧
    writesOut s0 iI = true ∧ writesOut { s0 with bankQ := [bankH (.jinit 0)] } { iI with serial := 1 } = false ∧ appliedEverywhere s0 [0] = true := by decide

/-- A message of the pass group to object 0 of address space 0, whose descriptor has these fields. -/
def msgO (k : PassKind) (h : Word) : PassMsg :=
  { ent := 0, wave := 0, core := 0, serial := 0, block := 0, asid := 0, handle := h, kind := k, dep := [] }
def descO (fs : List (ObjField × Nat)) : Nat := fs.foldl (fun x f => objSet x f.1 f.2) (newDescriptor 0 2 0 false 1 0 0xFFFFFFFF 1)

/-- The descriptor as created, but bound to a launch; with a pass open in slot 1 of one part; and with a pass open. -/
def xO : Nat := 0x40000040800000000000000000000000000000010000000000000000000ffffffff0000000000000000
def xP : Nat := 0x40000040c80001000000000000000000000000010000000000000000000ffffffff0000000000000000
def xQ : Nat := 0x40000040c00000000000000000000000000000010000000000000000000ffffffff0000000000000000

theorem test_descriptors : descO [(.ldone, 0)] = xO ∧ descO [(.ldone, 0), (.open', 1), (.work, 1), (.parts, 1)] = xP ∧ descO [(.ldone, 0), (.open', 1)] = xQ := by
  decide +kernel

def sO (k : PassKind) (h : Word) (x : Nat) : State :=
  { s0 with
    passQ := [msgO k h], asids := [(0, { Asid.fresh with objBase := some 0, objs := [(0, true)], gens := [(0, 1)] })], orangery := wrN [] 0 64 x }

theorem test_object_bank_steps :
    (∀ k ∈ [PassKind.pass 0 62, .seal 5, .vget 48, .vpin 8, .vrel 1, .vrel 2], ∀ n ∈ [0x1000, 0x2000], ∀ x ∈ [xO, xP],
      (sO k (BitVec.ofNat 32 n) x).passQ[0]? = some (msgO k (BitVec.ofNat 32 n)) ∧ turnAtBank (sO k (BitVec.ofNat 32 n) x) 0 0 0 0 0 0 = true ∧ covers ((sO k (BitVec.ofNat 32 n) x).die 0).clock [] = true ∧
      appliedByDies (sO k (BitVec.ofNat 32 n) x) [] = true ∧ (msgO k (BitVec.ofNat 32 n)).off (sO k (BitVec.ofNat 32 n) x) = 0 ∧
      orngPoison (sO k (BitVec.ofNat 32 n) x) 0 64 = none ∧
      objNamed (sO k (BitVec.ofNat 32 n) x) 0 (BitVec.ofNat 32 n) = (if n = 0x1000 then some (0, x) else none)) := by decide +kernel

theorem test_object_fields :
    (let x := xO
     objGet x .open' = 0 ∧ objGet x .km1 = 1 ∧ objGet x (.age 0) = 1 ∧ objGet x .cur = 0 ∧ objGet x (.pin 1) = 0 ∧ objGet x (.pin 0) ≠ 255) ∧
    (let x := descO [(.pin 1, 255), (.cur, 1)]
     objGet x (.pin (objGet x .cur)) = 255 ∧ 1 ≤ objGet x .km1 ∧ objGet x (.pin 1) ≠ 0) ∧
    (let x := descO [(.pin 1, 1)]
     ∀ i ≤ objGet x .km1, objGet x (.age i) = objGet x .cur ∨ objGet x (.pin (objGet x (.age i))) ≠ 0) ∧
    (let x := xP
     objGet x .open' = 1 ∧ (objGet x .seals + 1) % 65536 = objGet x .parts ∧ (∀ j ≤ objGet x .km1, objGet x (.age j) = objGet x .work ↔ j = 0)) ∧
    (let x := descO [(.open', 1), (.parts, 2)]
     (objGet x .seals + 1) % 65536 ≠ objGet x .parts ∧ objGet x .km1 < 2) := by decide +kernel

theorem test_seal_pending :
    (let b : Block := { placedBlock with seals := [(0, { isSealed := true, pass := 1, received := true })] }
     sealPending { s0 with blocks := [(0, b)] } (msgO (.pass 0 2) 0x1000) 0 xO = true) ∧
    sealPending s0 (msgO (.pass 0 2) 0x1000) 0 xO = false := by decide +kernel

/-- An answer for entity 0, which waits for it. -/
def ansO (k : AnswerKind) (needs : List Nat) : Answer := { ent := 0, wave := 0, block := 0, line := 0, kind := k, needs := needs }
def eB : Entity := { e0 with park := .bank }
def sA (a : Answer) : State := { put0 eB v1 with answers := [a] }

theorem test_bank_answers :
    (∀ a ∈ [ansO (.slot 0 62 0 1) [], ansO (.group 48 []) [], ansO .done [], ansO .refusedObject [], ansO (.joinMisuse 0) []],
      (sA a).answers[0]? = some a ∧ OneOf (sA a) eB v1 ∧ eB.park = .bank ∧ look (sA a).blocks a.block = some placedBlock ∧
      covers ((sA a).die 0).clock a.needs = true) ∧ covers ((sA (ansO .done [1])).die 0).clock [1] = false ∧ v1.handler ≠ 0 ∧ eB.level = false := by decide

/-- A launch with one or two bound objects, stopped or dropping, over the descriptor above. -/
def lO (objs : List (Nat × Nat)) (p : Phase) : Launch := { lU with record := { lU.record with objs := objs }, phase := p }
def sL (objs : List (Nat × Nat)) (p : Phase) : State :=
  { sO (.seal 0) 0x1000 xQ with passQ := [], launches := [(0, lO objs p)] }

theorem test_object_end_steps :
    (∀ o ∈ [[(0x1000, 0)], [(0x1000, 0), (0x2001, 0)]], ∀ p ∈ [Phase.stopped, .dropping, .running],
      look (sL o p).launches 0 = some (lO o p) ∧ boundLine (sL o p) (lO o p) 0 = some (0, xQ) ∧
      launchQuiet (sL o p) 0 = true ∧ (lO o p).closed = [] ∧ (lO o p).dropped = [] ∧ (lO o p).bound = true ∧
      launchOver (sL o p) 0 (lO o p) = decide (p = .stopped)) ∧ 0 + 64 ≤ 0x27000000 := by decide +kernel

/-! ### Hypotheses: copies and engines -/

/-- A copy of one row of 8 bytes within the scratchpad, out of it to the Orangery, and from a page that is not mapped. -/
def sideC (space base : Nat) : CopyOp := { space := space, base := base, pitch := 8, rot := 0, core := 0, frame := 0, frames := 1 }
def copyC (src dst : CopyOp) : Copy :=
  { block := 0, ent := 0, wave := 0, asid := 0, tag := 63, gather := false, index := 0, src := src, dst := dst, rows := 1, bytes := 8, row := 0, reads := [],
    writes := [], parked := none }
def sC (x : Copy) : State :=
  { s0 with
    cores := [(0, { Core.fresh with data := { CoreData.fresh with copies := [x] } })], asids := [(0, { Asid.fresh with units := [(0, 2)] })]
    blocks := [(0, { placedBlock with frames := 1, tags := ~~~(1#64 <<< 63) })] }

theorem test_copy_steps :
    (∀ d ∈ [sideC 0 0x3F8, sideC 2 0x40], (let x := copyC (sideC 1 0) d
      ((sC x).core 0).data.copies[0]? = some x ∧ (look (sC x).blocks 0).isSome = true ∧ (copyRows 0 1 (sC x) x).2.2 = .all ∧
      copyOut (copyRows 0 1 (sC x) x).1 0 x = decide (d.space = 0) ∧ copyOut (sC { x with row := 1 }) 0 { x with row := 1 } = true ∧
      copyOut (copyRows 0 1 (sC x) x).1 0 { x with row := 1 } = decide (d.space = 0) ∧ copyOut (sC x) 0 x = true ∧
      (x.rows = x.row + 1 ∧ x.src.space ≤ 1 ∧ x.src.base + x.row * x.src.pitch + x.bytes ≤ x.src.frames * 1024 ∧ (sC x).poison = []) ∧
      (d.space = 2 → orngRow (sC x) 0 (d.base + 0 * d.pitch) 8 true = []) ∧ (d.space = 0 → d.base + 0 * d.pitch + 8 ≤ d.frames * 1024))) ∧
    (let x := copyC (sideC 3 0x1000) (sideC 0 0)
     rowObstacle (sC x) 0 0 x.src false 0 8 = .unmapped 0x1000 false ∧ x.row < x.rows) := by decide

/-- An instruction of one engine: PBF, FP8, INT8 or none of these, one column, on tile 3. -/
def opE (kind : EngineKind) (fmt steps : Nat) : EngineOp :=
  { kind := kind, asid := 0, lid := 0, z := 3, e := 0, ent := 0, wave := 0, serial := 5, rows := 1, cols := 1, cores := [0], frames := [(0, 64)], steps := steps,
    a := { OpDesc.none with fmt := fmt, ncol := 1 }, b := { OpDesc.none with fmt := fmt, ncol := 1 }, abase := OpBase.none, bbase := OpBase.none, aadv := 0,
    badv := 0, vecA := [], vecB := [], dest := OpBase.none, conv := 0, rm := 0, sat := false, reg := 0, c0 := 159, n := 1, lanes := 0, reads := [],
    writes := [], queuedAt := 0 }
def runE (o : EngineOp) (done : Bool) : EngineRun := { op := o, step := 0, done := done, retry := false, abase := 0, bbase := 0, since := 0, bound := ⟨false, false, []⟩ }

/-- Core 0 with this data. -/
def sX (now : Nat) (d : CoreData) (die : Die) : State := { s0 with now := now, cores := [(0, { Core.fresh with data := d })], dies := [(0, die)] }

theorem test_engine_queue :
    (let d := { CoreData.fresh with enroute := [opE .zero 0 0] }
     ((sX 4 d Die.fresh).core 0).data.enroute = [opE .zero 0 0] ∧ (sX 3 d Die.fresh).now < (opE .zero 0 0).queuedAt + 4 ∧ 0 + 4 ≤ (sX 4 d Die.fresh).now) ∧
    (∀ o ∈ [opE .zero 0 0, opE .load 0 0, opE .store 0 0, opE .read 0 0, opE .bound 8 1, opE .steps 3 0, opE .steps 3 1],
      (let d := { CoreData.fresh with queue := [o] }
       d.run = none ∧ d.groups = 0 ∧ d.parts = [] ∧ o.e = d.asnOf o.z ∧ o.cores = [0] ∧ lowerFirst (sX 0 d Die.fresh) wantsUp 0 = false ∧
       (o.kind = .steps → 0 < o.steps → 0 < groupsOf o))) ∧
    ([(0, 31)].filter (fun e : Nat × Nat => decide (0 ≤ e.1 + 3))).foldl (fun n e => n + e.2) 0 + 1 ≤ 32 ∧
    ¬ ([(0, 32)].filter (fun e : Nat × Nat => decide (0 ≤ e.1 + 3))).foldl (fun n e => n + e.2) 0 + 1 ≤ 32 := by decide

/-- An MXFP8 step whose first element is infinite in A, with 1 in B. -/
def opF : EngineOp := { opE .steps 6 2 with bbase := { OpBase.none with base := 8 } }
def runF : EngineRun := { runE opF false with bbase := 8 }
def dataF : CoreData := { CoreData.fresh with run := some runF, groups := 1, scratch := [(0, 0x7C), (8, 0x3C)] }

theorem test_engine_steps :
    (∀ o ∈ [opE .steps 7 2, opE .steps 3 2], (let d := { CoreData.fresh with run := some (runE o false), groups := 1 }
      o.kind = .steps ∧ groupsOf o ≤ d.groups ∧ (sX 119 d Die.fresh).now < 0 + stepCycles o ∧ 0 + stepCycles o ≤ (sX 120 d Die.fresh).now ∧
      enginePoison (sX 120 d Die.fresh) (runE o false) = none)) ∧
    (stepPiece (sX 120 { CoreData.fresh with run := some (runE (opE .steps 7 2) false), groups := 1 } Die.fresh) (runE (opE .steps 7 2) false) 0).2 = false ∧
    (stepPiece (sX 120 dataF Die.fresh) runF 0).2 = true ∧ 0 + 1 < (opE .steps 7 2).steps := by decide +kernel

theorem test_engine_release_and_completion :
    (let d := { CoreData.fresh with groups := 16 }
     d.run = none ∧ 0 < d.groups ∧ lowerFirst (sX 0 d Die.fresh) wantsDown 0 = false) ∧
    (let d := { CoreData.fresh with run := some (runE (opE .steps 3 1) true), groups := 1 }
     nextDrawing (sX 0 d Die.fresh) 0 = none ∧ lowerFirst (sX 0 d Die.fresh) wantsDown 0 = false ∧ d.parts = []) ∧
    (∀ o ∈ [opE .zero 0 0, opE .load 0 0, opE .store 0 0, opE .read 0 0, opE .bound 8 1],
      o.kind ≠ .steps ∧ enginePoison (sX 248 { CoreData.fresh with run := some (runE o false) } Die.fresh) (runE o false) = none ∧ 0 < 0 + plainCycles o ∧
      0 + plainCycles o ≤ 248) ∧
    look (sX 0 CoreData.fresh Die.fresh).waves 0 = some v0 ∧ look (sX 0 CoreData.fresh Die.fresh).ents 0 = some e0 ∧ e0.park = .running ∧
    (0 < (opE .zero 0 0).queuedAt + 2 ^ 24 ∧ (opE .zero 0 0).queuedAt + 2 ^ 24 ≤ 2 ^ 24) := by decide

/-! ### Hypotheses: bins, receive queues, packets, sends -/

/-- A bin of children, and one of packets. -/
def binB (children : List Child) (packets : List Packet) (due : Bool) : Bin :=
  { asid := 0, entry := 0, handler := if children = [] then some 0 else none, children := children, packets := packets, firstAt := 0, lastAt := 0, idle := false, due := due,
    relaunch := 0 }
def packetB (peer : Option Nat) (chip : Nat) : Packet :=
  { peer := peer, asid := 0, handler := 0, prio := 3, chip := chip, args := List.replicate 8 0, ent := 0, wave := 0, lane := 95, reg := 63, serial := 0, target := 0,
    dep := [] }
def sN (b : Bin) (now : Nat) : State :=
  { s0 with
    now := now, launches := [(0, lU)], pavs := [(0, { Pavilion.fresh with bins := [(0, b)] })]
    asids := [(0, { Asid.fresh with handlers := [(0, { vregs := 64, entry := 0, handler := 0 })] })] }

/-- With a full bin beside it. -/
def sNF : State :=
  { sN (binB [] [] false) 0 with pavs := [(0, { Pavilion.fresh with bins := [(0, binB [childW] [] false), (1, binB (List.replicate 96 childW) [] false)] })] }

theorem test_bin_steps :
    (∀ b ∈ [binB [childW] [] true, binB [] [packetB none 0] true, binB (List.replicate 96 childW) [] false],
      look ((sN b 0).pav 0).bins 0 = some b ∧ (binPlaceOn (sN b 0) 0 b).isSome = true ∧ (fetchSlot (usedKeys (sN b 0)) 0 0).isSome = true ∧
      packetsReady (sN b 0) 0 b = true ∧ ((sN b 0).pav 0).measuring = false ∧ ((sN b 0).pav 0).halting = false ∧
      (sN b 0).ctl.tripped = false ∧ binQualifies (sN b 0) 0 b = true) ∧
    ({ Pavilion.fresh with measuring := true }.measuring = true ∧ { Pavilion.fresh with halting := true }.halting = true) ∧
    binQualifies sNF 0 (binB [childW] [] false) = false ∧
    (∀ x ∈ ((sN (binB [childW] [] true) 0).pav 0).bins, ¬ x.2.firstAt < 0) ∧
    ((sN (binB [childW] [] true) 2047).now < 0 + 2048 ∧ 0 + 2048 ≤ (sN (binB [childW] [] true) 2048).now) ∧
    (lU.record.args = 0 ∧ childW.owner = .launch 0 ∧ look (sN (binB [childW] [] true) 0).launches 0 = some lU) := by decide +kernel

theorem test_spill_and_feed :
    ({ lU with spillRing := [childW] } : Launch).spillRing = [childW] ∧ (s0.pav childW.pav).bins = [] ∧
    (let b := binB [childW] [] false
     ((sN b 0).pav 0).bins.find? (fun x => decide (x.1 < 32) && x.2.takes childW) = some (0, b) ∧ b.children.length + b.packets.length < 96 ∧
     96 ≤ (binB (List.replicate 96 childW) [] false).children.length) ∧
    (let full : NMap Bin := (List.range 32).map (fun k => (k, { binB [childW] [] false with entry := 4 }))
     nmapWf full = true ∧ (∀ k < 32, (look full k).isSome = true) ∧ ∀ x ∈ full, x.2.takes childW = false) ∧
    s0.dispatch.starve < 16 ∧ (look ((sN (binB [] [] false) 0).asid 0).handlers 0).isSome = true ∧ (s0.pav 0).bins = [] := by decide +kernel

/-- A receive queue of priority 3 with room for one packet, and one that is full. -/
def rxqB (taken : Nat) : Rxq :=
  { entries := 1, pav := 0, cres := 0, vregs := 8, ring := 0, spillSize := 0, base := 0, spill := 0, spillRing := [], ringAt := 0, waiting := [], taken := taken }
def sendB : Send := { core := 0, ent := 0, wave := 0, serial := 0, owner := .launch 0, window := 3, offset := 0, data := [], dest := 0, failed := false }
def sK (taken : Nat) (handlers : Bool) : State :=
  { s0 with
    ctl := { s0.ctl with trained := true }, rxqs := [(3, rxqB taken)], packets := [packetB none 0], pathsDown := [7]
    asids := [(0, { Asid.fresh with handlers := if handlers then [(0, { vregs := 64, entry := 0, handler := 0 })] else [] })] }

/-- The state with the window, its Draow ports trained. -/
def sTT : State := { sT with ctl := { sT.ctl with trained := true } }

theorem test_remote_steps :
    (look (sK 0 true).rxqs 3 = some (rxqB 0) ∧ (rxqB 0).taken < (rxqB 0).entries ∧ (rxqB 1).entries ≤ (rxqB 1).taken ∧
      (look ((sK 0 true).asid 0).handlers 0).isSome = true ∧ look ((sK 0 false).asid 0).handlers 0 = none) ∧
    ((packetB (some 5) 0).peer = some 5 ∧ (sK 0 true).packets[0]? = some (packetB none 0) ∧ packetBehind ((sK 0 true).packets.take 0) (packetB none 0) = false ∧
      sent (sK 0 true) 0 0 0 = true ∧ (packetB none 0).chip = (sK 0 true).ctl.chipId.toNat ∧ (packetB none 7).chip ≠ (sK 0 true).ctl.chipId.toNat ∧
      (sK 0 true).ctl.trained = true ∧ 7 ∈ (sK 0 true).pathsDown ∧ 8 ∉ (sK 0 true).pathsDown) ∧
    (look s0.waves (packetB none 0).wave = some v0 ∧ look s0.ents 0 = some e0 ∧ e0.park ≠ .exited ∧ e0.wave = 0 ∧ covers (s0.die 0).clock [] = true ∧
      covers (s0.die 0).clock [1] = false) ∧
    (wT.length < 1 + 8 ∧ 0 + 8 ≤ wT.length ∧ wT.reduce = false ∧ descAt sTT wT.arrival = false ∧ descAt sTT wT.origin = false ∧ sTT.ctl.trained = true ∧
      look sTT.windows sendB.window = some wT ∧ sendB.failed = false ∧ s0.ctl.trained = false) ∧
    (let w := { wT with reduce := true, elements := 2, contributors := 1 }
     4 * w.elements ≤ w.length ∧ [(0x3F800000 : Nat)].all (fun x => decide (Fmt.f32.value x = .fin false (2 ^ 23) (-23))) = true ∧ w.arrived + 1 = w.contributors ∧ { w with contributors := 256 }.arrived + 1 ≠ 256) ∧
    (sent s0 sendB.core sendB.ent sendB.serial = true ∧ sent (sD (.memory 0) 0) 0 0 1 = false ∧ look sT.windows sendB.window = some wT) := by decide

/-! ### Hypotheses: strikes, containment, self-test, budgets, heat -/

/-- Core 0 with one provisional state of the cycle before, on which a later write of scratchpad has followed. -/
def snapS : CoreSnap :=
  { core := 0, time := 0, serial := 1, data := CoreData.fresh, holder := [], lastSlot := [], ents := s0.ents, waves := s0.waves, blocks := s0.blocks, poison := [] }
def sZ : State :=
  { s0 with now := 255, fresh := 2, hist := [snapS], cores := [(0, { Core.fresh with data := { CoreData.fresh with scratch := [(5, 1)] } })] }

theorem test_strike :
    strikeIdle sZ 0 = false ∧ strikeIdle sZ 7 = true ∧ strikeIdle { sZ with mgmt := { Mgmt.reset with fences := [0] } } 0 = true ∧ sZ.links = [] ∧
    (sZ.core 0).crossed = [] ∧ sZ.packets = [] ∧ (snapsOf sZ 0).getLast? = some snapS ∧ snapsOf { sZ with now := 256 } 0 = [] ∧ nmapWf snapS.ents = true ∧
    (∀ e ∈ snapS.ents, e.1 / 32 = 0) ∧ snapsOf sZ 0 = [snapS] ∧ snapS.waves = [(0, v0)] := by decide +kernel

/-- A gang of launch 0 with these facts, and a wave of it. -/
def gangQ (relaunch : Nat) (ie : Bool) : Gang := { placedGang with relaunch := relaunch, ie := ie }
def sQ (q : Gang) : State := { s0 with gangs := [(0, q)], launches := [(0, lU)] }

theorem test_containment :
    ((3 ≤ 0x10 ∧ 0x10 ≠ 0x60 ∧ 0x10 ≠ 0x61) ∧ 10 < 11) ∧
    (∀ n ∈ [0, 99999999, 100000000], (let s : State := { s0 with now := 21 * 100000000, cores := [(0, { Core.fresh with corrected := [(3, 64, n)] })] }
      (3, 64, n) ∈ (s.core 0).corrected ∧ (s.tick < n + 100000000 ↔ n ≠ 0))) ∧
    look (put0 { e0 with park := .wait none [.orangery 0] } v0).ents 0 = some { e0 with park := .wait none [.orangery 0] } ∧ s0.packets = [] ∧
    (∀ q ∈ [gangQ 2 false, gangQ 3 false, gangQ 0 true], look (sQ q).ents 0 = some e0 ∧ gangOfWave (sQ q) e0.wave = some 0 ∧ look (sQ q).gangs 0 = some q ∧
      q.owner = .launch 0 ∧ look (sQ q).launches 0 = some lU ∧ lU.record.anytime = false ∧ q.id ≠ 0xFFFFFFFF ∧ nmapWf (sQ q).waves = true ∧
      nmapWf (sQ q).ents = true) ∧
    ((gangQ 2 false).relaunch < 3 ∧ 3 ≤ (gangQ 3 false).relaunch ∧ (gangQ 2 false).ie = false ∧ (gangQ 0 true).ie = true ∧ lU.record.idempotent = false) := by
  decide +kernel

/-- Core 0 marked for a test, under test, and with a failed test behind it. -/
def coreS (marked testing : Bool) (fail : Option Nat) : State :=
  { State.reset with
    now := 21 * 100, cores := [(0, { Core.fresh with marked := if marked then some 4 else none, testing := testing, failTick := fail })] }

theorem test_scrub_and_self_test :
    (∀ p ∈ ([] : List Poison), p ∈ s0.poison) ∧ homeDie (64 / 64 * 64) = some 0 ∧ (7 / 8 * 8 < 2 ^ 30 ∧ 7 / 8 * 8 / 2 ^ 21 % 8 = 0) ∧
    (((coreS true false none).core 0).marked.isSome = true ∧ ((coreS true false none).core 0).testing = false ∧ coreEmpty (coreS true false none) 0 = true ∧
      0 ∉ (coreS true false none).mgmt.fences) ∧ coreEmpty s0 0 = false ∧
    (∀ f ∈ [none, some 0, some 99], ((coreS true true f).core 0).testing = true ∧ ((coreS true true f).core 0).failTick = f) ∧
    (coreS true true none).tick < 0 + 24 * 3600 * 100000000 ∧
    0 + 24 * 3600 * 100000000 ≤ ({ coreS true true (some 0) with now := 21 * 24 * 3600 * 100000000 } : State).tick := by decide +kernel

/-- Launch 0 with these budgets, started at tick 0. -/
def lB (t e : Nat) : Launch := { lU with record := { lU.record with tbudget := t, ebudget := e }, startTick := some 0, phase := .running }
def sBud (now t e : Nat) : State := { s0 with now := now, launches := [(0, lB t e)], gangs := [(0, placedGang)] }

theorem test_budgets :
    (let e := { e0 with level := true, boundary := false, stalled := none }
     e.level = true ∧ e.boundary = false ∧ e.stalled = none ∧ e.park = .running) ∧ e0.level = false ∧ (lB 1 1).cutting = none ∧
    ((sBud 20999 1 1).tick < (sBud 0 1 1).dispatch.meterAt + 1000 ∧ (sBud 0 1 1).dispatch.meterAt + 1000 ≤ (sBud 21000 1 1).tick) ∧
    (∀ t ∈ [1, 0xFFFFFFFF], look (sBud 2100 t 1).launches 0 = some (lB t 1) ∧ (lB t 1).startTick = some 0 ∧ (lB t 1).phase = .running ∧
      nmapWf (sBud 2100 t 1).ents = true ∧ nmapWf (sBud 2100 t 1).launches = true ∧ nmapWf (sBud 2100 t 1).waves = true) ∧
    (100 * (lB 1 1).record.tbudget ≤ (sBud 2100 1 1).tick - 0 ∧ (lB 1 1).record.tbudget ≠ 0xFFFFFFFF ∧ (sBud 2099 1 1).tick - 0 < 100 * (lB 1 1).record.tbudget) ∧
    (let n := fun (mj : List Nat) => (lB 1 1).charged + (List.range 32).foldl (fun n p => n + mj.getD p 0 * coresHeld (sBud 0 1 1) 0 p) 0
     (lB 1 1).record.ebudget ≠ 0xFFFFFFFF ∧ 16 * (lB 1 1).record.ebudget ≤ n [16] ∧ n [15] < 16 * (lB 1 1).record.ebudget) := by decide +kernel

theorem test_margins_and_heat :
    (pavIdle State.reset 0 = true ∧ pavIdle (sQ placedGang) 0 = false ∧ (State.reset.pav 0).measuring = false) ∧
    (let s := fun (n : Nat) => ({ State.reset with now := n, pavs := [(0, { Pavilion.fresh with idleAt := 1 })] } : State)
     ((s 0).pav 0).idleAt ≠ 0 ∧ 1 + 2100000 ≤ (s 2100001).now ∧ (s 2100000).now < 1 + 2100000) ∧
    (let m : List Int := [0, -4, 51, 52]
     1 ≤ 3 ∧ 3 < 9 ∧ 52 ≤ m.getD 3 0 ∧ ∀ j < 3, m.getD j 0 < 52) ∧
    (({ State.reset with pavs := [(0, { Pavilion.fresh with measuring := true })] } : State).pav 0).measuring = true ∧
    nmapWf (sBud 0 1 1).launches = true ∧ look (sBud 0 1 1).launches 0 = some (lB 1 1) := by decide +kernel

/-! ### Hypotheses: from doorbell to completion, failover, contexts -/

/-- Queue 0 of address space 0 with two records, and completion queue 0. -/
def qL (head : Nat) : Queue := { asid := 0, prio := 7, n := 4, cq := 0, base := 0x1000, headAddr := 0x2000, head := head, tail := 2, upTo := none }
def xL (tail : Nat) : Cq := { n := 4, base := 0x3000, tail := tail, head := 0, phase := true }

/-- STATE 4, queue 0 kicked, and at its base the record of one block of one wave: LID, RING, SPILL_SIZE and the grid are 1. -/
def sTakeTo (head : Nat) (upTo : Option Nat) : State :=
  { State.reset with
    ctl := { Ctl.reset with bootState := 4 }, queues := [(0, { qL head with upTo := upTo })], cqs := [(0, xL 0)], dispatch := { Dispatch.reset with kicks := [0] }
    mem := [(0x1010, 1), (0x1012, 1), (0x1014, 1), (0x1038, 1), (0x103C, 1), (0x1044, 1)] }

def sTake (head : Nat) : State := sTakeTo head none

theorem test_record_take :
    (∀ h ∈ [0, 1, 2], ∀ u ∈ [none, some 2], look (sTakeTo h u).queues 0 = some { qL h with upTo := u } ∧ serving (sTakeTo h u) = true ∧
      0 ∈ (sTakeTo h u).dispatch.kicks ∧ (servedBy (sTakeTo h u) 0).isSome = true ∧ look (sTakeTo h u).cqs (qL h).cq = some (xL 0)) ∧ 0 ∉ Dispatch.reset.kicks ∧ (qL 2).head = (qL 2).tail ∧ (qL 0).head ≠ (qL 0).tail ∧
    (let x := dieLoad (sTake 0) 0 ((qL 0).base + 128 * (qL 0).head) 128
     placeable (sTake 0) 0 x (parseRecord x) = true) ∧
    (let x := dieLoad (sTake 1) 0 ((qL 1).base + 128 * (qL 1).head) 128
     placeable (sTake 1) 0 x (parseRecord x) = false) := by decide +kernel

/-- A taken launch of g blocks in one gang, and the part with it first. -/
def lG (g : Nat) (objs : List (Nat × Nat)) : Launch :=
  Launch.taken { parseRecord 0 with gridX := g, gridY := 1, gridZ := 1, gsize := g, objs := objs, lid := 9, preemptible := true } 0 0 3 true 0
def sGP (v : Launch) : State :=
  { sTake 2 with
    launches := [(1, v)], asids := [(0, { Asid.fresh with objBase := some 0, objs := [(0, true)], gens := [(0, 1)] })]
    orangery := wrN [] 0 64 (objSet xO .ldone 1) }

theorem test_gang_place :
    (∀ v ∈ [lG 1 [], lG 1 [(0x1000, 3)]], serving (sGP v) = true ∧ firstRequest (sGP v) = some (1, v) ∧ look (sGP v).launches 1 = some v ∧ wantedGang v = some 0 ∧
      neverPlaced (sGP v) v 0 = none ∧ findPlace (sGP v) 1 v 0 = some ([0], []) ∧ gangBlocks v.record 0 = [0] ∧ v.record.wpb = 1 ∧
      fetchSlot (usedKeys (sGP v)) 0 0 = some 0 ∧ v.bound = false ∧ v.record.lid < 2 ^ 32) ∧
    (objNamed (sGP (lG 1 [(0x1000, 3)])) 0 (BitVec.ofNat 32 0x1000)).isSome = true := by decide +kernel

/-- Every core outside pavilion 0 but its first is sound, so that no other pavilion has sixteen; core 0 is at work for launch 0, in address space 0. -/
def sNo (shadow : List Context) : State :=
  { sGP { lG 16 [] with asid := 1 } with
    launches := [(0, { lG 1 [] with prio := 1, phase := .running, nextGang := 1 }), (1, { lG 16 [] with asid := 1 })]
    cores := (List.range 31).map (fun i => (16 * (i + 1), { Core.fresh with marked := some 0 })), contexts := shadow
    ents := [(0, e0)], waves := [(0, v0)], blocks := [(0, placedBlock)], gangs := [(0, placedGang)] }

theorem test_no_place_and_preemption :
    (let s := sNo []
     let v := { lG 16 [] with asid := 1 }
     serving s = true ∧ firstRequest s = some (1, v) ∧ wantedGang v = some 0 ∧ neverPlaced s v 0 = none ∧ findPlace s 1 v 0 = none ∧
     chosenVictim s 1 v 0 = some 0 ∧ chosenVictim s 1 v 0 ≠ some 1 ∧ (s.pav 0).halting = false ∧ inShadow s 0 < 2 ∧ nmapWf s.ents = true ∧ nmapWf s.gangs = true ∧
     (occupied s ((gangsAt s 0).map (fun g => g.1))).all (coreHalted s) = true ∧ occupied s ((gangsAt s 0).map (fun g => g.1)) = [0] ∧
     (s.ents.filter (fun e => decide (coreOfKey e.1 = 0))).all (fun e => entHalted s e.1 e.2) = true ∧
     (gangsAt s 0).all (fun g => !(gangOver s g.2)) = true) ∧
    (∀ h ∈ [false, true], (let s : State := { sNo [] with
        pavs := [(0, { Pavilion.fresh with halting := true })], hist := if h then [{ snapS with ents := [], waves := [] }] else [] }
      firstRequest s = some (1, { lG 16 [] with asid := 1 }) ∧ findPlace s 1 { lG 16 [] with asid := 1 } 0 = none ∧
      chosenVictim s 1 { lG 16 [] with asid := 1 } 0 = some 0 ∧ (s.pav 0).halting = true ∧ pavHalted s 0 = !h ∧ (s.pav 0).bins = [])) := by decide +kernel

/-- A gang of launch 0 whose block has ended, or not. -/
def sRet (done : Nat) (v : Launch) : State :=
  { s0 with launches := [(0, v)], gangs := [(0, placedGang)], blocks := [(0, { placedBlock with done := done })] }

theorem test_retire_and_complete :
    (∀ d ∈ [0, 1], look (sRet d (lG 1 [])).gangs 0 = some placedGang ∧ placedGang.owner = .launch 0 ∧ placedGang.id ≠ 0xFFFFFFFF ∧
      look (sRet d (lG 1 [])).launches 0 = some (lG 1 [])) ∧ gangOver (sRet 0 (lG 1 [])) placedGang = false ∧ gangOver (sRet 1 (lG 1 [])) placedGang = true ∧
    ((lG 1 []).record.deterministic = false ∧ (lG 1 []).arrivals = []) ∧
    (let v := { lG 1 [] with record := { (lG 1 []).record with deterministic := true }, retired := 3 }
     v.record.deterministic = true ∧ v.retired ≠ placedGang.position ∧ { v with retired := 0 }.retired = placedGang.position) ∧
    (let v := { lG 1 [] with phase := .stopped }
     look (sRet 1 v).launches 0 = some v ∧ launchOver (sRet 1 v) 0 v = true ∧ v.outstanding = 0 ∧ v.bound = false ∧ launchQuiet (sRet 1 v) 0 = true) ∧
    (let v := { lG 1 [] with phase := .stopped, bound := true }
     v.closed.length = v.record.objs.length) ∧
    ({ lG 1 [] with placeable := false }.placeable = false ∧ (lG 1 []).phase = .taken) ∧ launchOver (sRet 1 (lG 1 [])) 0 (lG 1 []) = false := by decide +kernel

/-- A completion that waits, and a signal that is owed. -/
def sPost (signalled : Bool) (st : Status) : State :=
  { sTake 2 with
    launches := [(1, { lG 1 [] with status := some st })], ctl := { Ctl.reset with bootState := 4, owed := [5], lastSig := [(5, 0)] }
    dispatch := { Dispatch.reset with toPost := [{ seq := 0, launch := 1, clock := [] }], signalled := [false, signalled] } }

theorem test_post_and_signal :
    (∀ g ∈ [false, true], ∀ st ∈ [Status.done, .cut, .faulted, .lost],
      (let s := sPost g st
       s.dispatch.toPost = [{ seq := 0, launch := 1, clock := [] }] ∧ look s.launches 1 = some { lG 1 [] with status := some st } ∧ look s.queues 0 = some (qL 2) ∧
       look s.cqs 0 = some (xL 0) ∧ (lG 1 []).record.lid < 2 ^ 32)) ∧
    ((∀ b ∈ (sPost false .done).dispatch.signalled, b = false) ∧ ∃ b ∈ (sPost true .done).dispatch.signalled, b = true) ∧
    (((xL 0).tail + 1) % 2 ^ (xL 0).n ≠ (xL 0).head % 2 ^ (xL 0).n ∧ ((xL 15).tail + 1) % 2 ^ (xL 15).n = (xL 15).head % 2 ^ (xL 15).n) ∧
    (5 ∈ (sPost false .done).ctl.owed ∧ 5 < 2 ^ 64 ∧ look (sPost false .done).ctl.lastSig 5 = some 0 ∧ (sPost false .done).tick < 0 + 200 ∧
      0 + 200 ≤ ({ sPost false .done with now := 4200 } : State).tick ∧ ({ sPost false .done with now := 4199 } : State).tick < 200) := by decide +kernel

/-- Dispatch core 0 with this many heartbeats missed; its peer at work. -/
def sDC (missed now : Nat) (signalled : Bool) : State :=
  { sTake 0 with now := now, dispatch := { Dispatch.reset with missed := [missed, 0], signalled := [signalled, false], kicks := [] } }

theorem test_dispatch_cores :
    (∀ m ∈ [0, 1, 2], (let d := (sDC m 0 false).dispatch
      d.rescan.length = 2 ∧ d.halted.length = 2 ∧ d.signalled.length = 2 ∧ d.beats.length = 2 ∧ d.missed.length = 2 ∧ d.halted.getD 0 true = false ∧ d.halted.getD 1 true = false)) ∧
    (let n := (sDC 2 0 false).dispatch.missed.getD 0 0 + 1
     3 ≤ n ∧ (sDC 2 62999 false).tick < (sDC 2 62999 false).dispatch.beats.getD 0 0 + 1000 * n ∧
     (sDC 2 63000 false).dispatch.beats.getD 0 0 + 1000 * n ≤ (sDC 2 63000 false).tick) ∧ (sDC 1 0 false).dispatch.missed.getD 0 0 + 1 < 3 ∧
    ((sDC 0 0 true).dispatch.signalled.getD 0 false = true ∧ (sDC 0 0 false).dispatch.signalled.getD 0 false = false) ∧
    (look (sDC 0 0 true).queues 0 = some (qL 0) ∧ 0 / 512 = 0 ∧ (qL 0).head ≠ (qL 0).tail) ∧
    (let s : State := { sDC 0 0 false with dispatch := { (sDC 0 0 false).dispatch with rescan := [true, false] } }
     s.dispatch.rescan.getD 0 false = true ∧ rescanning s 0 = false ∧ s.dispatch.toPost = [] ∧ ringFull s 2 = true) := by decide +kernel

/-- A context of pavilion 0 with one entity on core 0; its gang stands placed nowhere. -/
def contextC (evicted : Bool) : Context :=
  { die := 0, pav := 0, evicted := evicted, savedAt := 0, clock := [], gangs := [0], cores := [(0, CoreData.fresh)], slots := [], ents := [(0, e0)],
    parks := [], answers := [], poison := [] }
def sCtx (evicted : Bool) : State :=
  { sTake 2 with contexts := [contextC evicted], waves := [(0, v0)], blocks := [(0, placedBlock)], gangs := [(0, { placedGang with valid := false })] }

theorem test_contexts :
    (∀ b ∈ [false, true], (sCtx b).contexts[0]? = some (contextC b) ∧ (contextC b).evicted = b) ∧ inShadow (sCtx true) (contextC true).die < 2 ∧
    (serving (sCtx false) = true ∧ ((sCtx false).pav 31).measuring = false ∧ covers ((sCtx false).die (31 / 4)).clock (contextC false).clock = true ∧
      (coreMap (sCtx false) (contextC false) 31).isSome = true ∧ (contextC false).parks = [] ∧ (contextC false).poison = [] ∧ ((sCtx false).pav 31).halting = false ∧ nmapWf (contextC false).ents = true ∧
      (coreMap (sCtx false) (contextC false) 31).map (fun m => m.key 0) = some (32 * 496)) ∧
    (∀ a < 8, ∀ b < 8, (look (contextC false).ents a).isSome = true → (look (contextC false).ents b).isSome = true → a = b) := by decide +kernel

/-! ### Hypotheses: commands, the host interface, boot -/

/-- STATE 4, with a command at the head of a ring of 16 entries; address space 0 is bound, has descriptors at 0 and holds object 0 with this
descriptor; a park of die 0 of entity 0. -/
def sCmd (x : Nat) (v : Wave) : State :=
  { put0 { e0 with park := .fault 3 } v with
    ctl := { Ctl.reset with bootState := 4, rings := [(0, { base := 4096, size := 16, head := 15, tail := 0 })] }
    asids := [(0, { Asid.fresh with bound := true, objBase := some 0, objs := [(0, true), (1, false)], gens := [(0, 1), (1, 2 ^ 20 - 1)] })]
    dies := [(0, { Die.fresh with parks := [{ pP with waiting := [] }] })], orangery := wrN [] 0 64 x
    dispatch := { Dispatch.reset with halted := [true, false] } }

theorem test_command_ready : cmdReady (sCmd xO v0) = true ∧ (ringOf (sCmd xO v0) 0).size ≠ 0 ∧ (sCmd xO v0).dispatch.halted.length = 2 ∧
    ((sCmd xO v0).asid 0).bound = true ∧ ((sCmd xO v0).asid 1).bound = false := by decide

theorem test_command_parameters :
    (1023 < 1024 ∧ 511 < 512 ∧ 7 < 8 ∧ 4 ≤ 16 ∧ 16 ≤ 16) ∧ ¬ (1024 < 1024 ∧ 511 < 512 ∧ 7 < 8 ∧ 4 ≤ 16 ∧ 16 ≤ 16) ∧ (64 ≤ 64 ∧ 2048 % 2048 = 0 ∧ 2048 < 2 ^ 52) ∧
    (512 ≤ 512 ∨ 64 < 64) ∧ (1 ≤ 64 ∧ 64 ≤ 64) ∧ (311 < 320 ∧ 311 ≠ 312 ∧ 320 ≤ 320) ∧ (2 ≤ 8 ∧ 8 ≤ 8 ∧ 1 ≤ 1 ∧ 4096 % 4096 = 0 ∧ 4096 + 8 * 1 * 4096 ≤ 2 ^ 56) ∧
    (8 ≤ 64 ∧ 64 ≤ 64 ∧ 64 % 8 = 0) ∧ (1 ≤ 2 ^ 16 ∧ 2 ^ 16 ≤ 2 ^ 16) ∧ ((-128 : Int) ≤ -128 ∧ (-128 : Int) < 128) := by decide

theorem test_command_answers :
    (∀ v ∈ [v0, v1], ((sCmd xO v).die 0).parks.find? (fun x => decide (x.id = 3)) = some { pP with waiting := [] } ∧
      look (sCmd xO v).ents 0 = some { e0 with park := .fault 3 } ∧ look (sCmd xO v).waves 0 = some v) ∧ pP.copy = none ∧ v1.handler ≠ 0 ∧ e0.level = false := by
  decide

theorem test_command_objects :
    (look ((sCmd xO v0).asid 0).objs 0 = some true ∧ look ((sCmd xO v0).asid 0).objs 1 ≠ some true ∧ objOff (sCmd xO v0) 0 0 = some 0 ∧
      objOff (sCmd xO v0) 0 1 = some 64 ∧ objOff (sCmd xO v0) 0 4095 = some (64 * 4095)) ∧
    (objGet (objRead (sCmd xO v0) 0) .ldone = 0) ∧
    (objGet (objRead (sCmd (objSet xO .ldone 1) v0) 0) .ldone = 1 ∧ ∀ j < 8, objGet (objRead (sCmd (objSet xO .ldone 1) v0) 0) (.pin j) = 0) ∧
    (objGet (objRead (sCmd (objSet xO (.pin 7) 1) v0) 0) (.pin 7) ≠ 0) := by decide +kernel

/-- An invalidation under way, with an access before it or none. -/
theorem test_invalidation :
    (let s : State := { sCmd xO v0 with ctl := { (sCmd xO v0).ctl with inval := some (0, 1) }, homeQ := [oM] }
     s.ctl.inval = some (0, 1) ∧ (ringOf s 0).size ≠ 0 ∧ accessesDone s 0 1 = false ∧ accessesDone s 0 0 = true) := by decide

/-- In this STATE, with an object at line 0 of generation 1. -/
def sHost (state x : Nat) : State :=
  { sTake 0 with
    ctl := { Ctl.reset with bootState := state, rings := [(0, { base := 0, size := 16, head := 0, tail := 0 }), (3, { base := 0, size := 16, head := 0, tail := 0 })] }
    asids := [(0, { Asid.fresh with objBase := some 0, objs := [(0, true)], gens := [(0, 1)] })], orangery := wrN [] 0 64 x }

theorem test_host_registers :
    (look (sHost 4 xO).queues 0 = some (qL 0) ∧ look (sHost 4 xO).queues 1 = none ∧ (sHost 3 xO).ctl.bootState ≠ 4 ∧ (sHost 3 xO).ctl.bootState = 3) ∧
    (look (sHost 4 xO).cqs 0 = some (xL 0) ∧ look (sHost 4 xO).cqs 1 = none) ∧ (3 < 4 ∧ (ringOf (sHost 4 xO) 3).size ≠ 0 ∧ (ringOf (sHost 4 xO) 1).size = 0) ∧
    (4 ≤ 16 ∧ 16 ≤ 16 ∧ 65536 = 2 ^ 16) ∧ (¬ (8 = 0 ∨ ∃ m ∈ List.range 17, 4 ≤ m ∧ 8 = 2 ^ m)) ∧ (0xE8 ≠ 0xE0 ∧ 0xE8 ≠ 0x38) ∧
    (2 ≠ 1 ∧ (sHost 4 xO).ctl.tripped = false) ∧ ((sHost 4 xO).ctl.ovf.length = 3 ∧ (sHost 4 xO).ctl.bootErr < 256) := by decide

theorem test_host_apertures :
    (homeDie (dmemAddr 0) = some 0 ∧ target (dmemAddr (2 ^ 43)) = .none) ∧ (target (dmemAddr 0) ≠ .none ∧ 0 < 2 ^ 43 ∧ 2 ^ 43 - 1 < 2 ^ 43) ∧ (2 ^ 30 - 1 + 1 ≤ 2 ^ 30 ∧ 2 ^ 30 ≤ 2 ^ 30 ∧ 2 ^ 31 - 16 < 2 ^ 31) ∧
    (List.replicate 16 (0 : Byte)).length = 16 ∧ ¬ (leNat (List.replicate 16 (0 : Byte)) % 2 ^ 32 = 2 ∨ leNat (List.replicate 16 (0 : Byte)) % 2 ^ 32 = 3 ∨
      leNat (List.replicate 16 (0 : Byte)) % 2 ^ 32 = 4) := by decide

theorem test_host_window :
    objAtLine (sHost 4 xO) 64 = none ∧ (descAt (sHost 4 xO) 0 = true ∧ descAt (sHost 4 xO) 64 = false) ∧
    (∀ x ∈ [xO, objSet xO (.pin 0) 255, objSet xO (.pin 0) 1], objAtLine (sHost 4 xO) 0 = some xO ∧ objGet xO .gen ≠ 0 % 2 ^ 20 ∧ objGet x .gen = 1 % 2 ^ 20 ∧
      objAtLine (sHost 4 x) 0 = some x ∧ objGet x .km1 < 7 % 8 ∧ 0 % 8 ≤ objGet x .km1) ∧
    (objGet xO (.pin (objGet xO .cur)) ≠ 255 ∧ objGet xO (.pin 0) = 0) ∧
    (let x := objSet xO (.pin 0) 255
     objGet x (.pin (objGet x .cur)) = 255 ∧ objGet x (.pin 0) ≠ 0) := by decide +kernel

theorem test_boot :
    (∀ n ∈ [0, 1, 2, 3, 4, 5], (sHost n xO).ctl.bootState = n) ∧
    (let m := fun (ok : Bool) (v min : Nat) => ({ Mgmt.reset with active := { signatureOk := ok, version := v }, minVersion := min } : Mgmt)
     (m false 0 0).active.signatureOk = false ∧ (m true 1 2).active.version < (m true 1 2).minVersion ∧ (m true 2 2).minVersion ≤ (m true 2 2).active.version) ∧
    (511 < 512 ∧ 511 ∉ (sHost 3 xO).mgmt.fences ∧ 511 ∉ List.range 511) ∧ (∀ c < 512, c ∉ (sHost 3 xO).mgmt.fences → c ∈ List.range 512) ∧
    ({ (sHost 3 xO).mgmt with keptChip := some 5 } : Mgmt).keptChip.isSome = true := by
  refine ⟨by decide, by decide, ⟨by decide, by decide, by simp⟩, fun c h _ => by simpa using h, rfl⟩

/-- An EXIT word to issue, a word that decodes to none, and a device step on the schedule. -/
theorem test_step_hypotheses :
    (∀ w ∈ [0xEE000001, 0], (let s := placeWord State.reset (BitVec.ofNat 32 w)
      s.sched = [] ∧ s.focus = some 0 ∧ look s.ents 0 = some (placedEntity (BitVec.ofNat 32 w)) ∧ (placedEntity (BitVec.ofNat 32 w)).buf = [BitVec.ofNat 32 w] ∧
      (placedEntity (BitVec.ofNat 32 w)).park = .running ∧ (placedEntity (BitVec.ofNat 32 w)).boundary = false ∧
      haltedEnt { s with now := s.now + s.pace.headD 1, pace := s.pace.tail } 0 (placedEntity (BitVec.ofNat 32 w)) = false ∧
      heldByGen { s with now := s.now + s.pace.headD 1, pace := s.pace.tail } 0 (placedEntity (BitVec.ofNat 32 w)) = false ∧
      (placedEntity (BitVec.ofNat 32 w)).stalled = none)) ∧
    (decode 0xEE000001#32).isSome = true ∧ decode 0#32 = none ∧
    isDevice (.doorbell 0 1) = true := by decide

theorem test_reset_canonical : Safety.canonical State.reset := by decide

/-! ### Words, composed from the formats of R118 and the codes of R129 and R130, one for every instruction

In each word E is 1, D is 42, A is 23, B is 49 and PRED is 5 where the instruction has that field, and reserved fields are 0. -/

/-- Each word decodes to the instruction beside it. -/
abbrev Decodes (l : List (Nat × Instr)) : Prop := ∀ x ∈ l, decode (BitVec.ofNat 32 x.1) = some x.2

theorem test_decode_scalar_words : Decodes
    [(0x8352F880, .add true 42 23 49), (0x8352F881, .sub true 42 23 49), (0x8352F882, .mul true 42 23 49), (0x8352F883, .mulh true 42 23 49),
      (0x8352F884, .mulhu true 42 23 49), (0x8352F885, .div true 42 23 49), (0x8352F886, .divu true 42 23 49), (0x8352F887, .rem true 42 23 49),
      (0x8352F888, .remu true 42 23 49), (0x8352F889, .andS true 42 23 49), (0x8352F88A, .orS true 42 23 49), (0x8352F88B, .xorS true 42 23 49),
      (0x8352F88C, .shl true 42 23 49), (0x8352F88D, .shr true 42 23 49), (0x8352F88E, .sra true 42 23 49), (0x8352F88F, .slt true 42 23 49),
      (0x8352F890, .sltu true 42 23 49), (0x8352F891, .minS true 42 23 49), (0x8352F892, .maxS true 42 23 49), (0x8352F893, .minu true 42 23 49),
      (0x8352F894, .maxu true 42 23 49), (0x8352E015, .sextI8 true 42 23), (0x8352E016, .sextI16 true 42 23), (0x8352E017, .zextU8 true 42 23),
      (0x8352E018, .zextU16 true 42 23)] := by decide

theorem test_decode_immediate_words : Decodes
    [(0x8552F234, .addi true 42 23 4660), (0x8752F234, .andi true 42 23 4660), (0x8952F234, .ori true 42 23 4660),
      (0x8B52F234, .xori true 42 23 4660), (0x8D52F234, .shli true 42 23 4660), (0x8F52F234, .shri true 42 23 4660),
      (0x9152F234, .srai true 42 23 4660), (0x9352F234, .slti true 42 23 4660), (0x9552F234, .sltiu true 42 23 4660)] := by decide

theorem test_decode_scalar_bit_words : Decodes
    [(0x9755A5A5, .lih true 42 370085), (0x9952F880, .add64 true 42 23 49), (0x9952F881, .sub64 true 42 23 49), (0x9952F882, .shl64 true 42 23 49),
      (0x9952F883, .shr64 true 42 23 49), (0x9952E010, .popc true 42 23), (0x9952E011, .clz true 42 23), (0x9952E012, .ctz true 42 23),
      (0x9952F893, .fns true 42 23 49), (0x9952E014, .brev true 42 23), (0x9952E018, .popcI64 true 42 23), (0x9952E019, .clzI64 true 42 23),
      (0x9952E01A, .ctzI64 true 42 23), (0x9952F89B, .fnsI64 true 42 23 49), (0x9952E01C, .brevI64 true 42 23)] := by decide

theorem test_decode_integer_vector_words : Decodes
    [(0xA152F885, .vadd true 42 23 49 5), (0xA152F88D, .vsub true 42 23 49 5), (0xA152F895, .vmul true 42 23 49 5),
      (0xA152F89D, .vmulh true 42 23 49 5), (0xA152F8A5, .vmulhu true 42 23 49 5), (0xA152F8AD, .vand true 42 23 49 5),
      (0xA152F8B5, .vor true 42 23 49 5), (0xA152F8BD, .vxor true 42 23 49 5), (0xA152F8C5, .vshl true 42 23 49 5),
      (0xA152F8CD, .vshr true 42 23 49 5), (0xA152F8D5, .vsra true 42 23 49 5), (0xA152F8DD, .vmin true 42 23 49 5),
      (0xA152F8E5, .vmax true 42 23 49 5), (0xA152F8ED, .vminu true 42 23 49 5), (0xA152F8F5, .vmaxu true 42 23 49 5),
      (0xA152F8FD, .vsel true 42 23 49 5)] := by decide

theorem test_decode_packed_vector_words : Decodes
    [(0xA352F885, .vaddI16x2 true 42 23 49 5), (0xA352F88D, .vsubI16x2 true 42 23 49 5), (0xA352F895, .vmulI16x2 true 42 23 49 5),
      (0xA352F8C5, .vshlI16x2 true 42 23 49 5), (0xA352F8CD, .vshrI16x2 true 42 23 49 5), (0xA352F8D5, .vsraI16x2 true 42 23 49 5),
      (0xA352F8DD, .vminI16x2 true 42 23 49 5), (0xA352F8E5, .vmaxI16x2 true 42 23 49 5), (0xA352F8ED, .vminuU16x2 true 42 23 49 5),
      (0xA352F8F5, .vmaxuU16x2 true 42 23 49 5)] := by decide

theorem test_decode_bit_vector_words : Decodes
    [(0xA552F885, .vmad true 42 23 49 5), (0xA552E00D, .vbcs true 42 23 5), (0xA5500015, .vlane true 42 5), (0xA552E01D, .vpopc true 42 23 5),
      (0xA552E025, .vclz true 42 23 5), (0xA552E02D, .vctz true 42 23 5), (0xA552F8B5, .vfns true 42 23 49 5), (0xA552E03D, .vbrev true 42 23 5),
      (0xA552E045, .vpopcI64 true 42 23 5), (0xA552E04D, .vclzI64 true 42 23 5), (0xA552E055, .vctzI64 true 42 23 5),
      (0xA552F8DD, .vfnsI64 true 42 23 49 5), (0xA552E065, .vbrevI64 true 42 23 5)] := by decide

theorem test_decode_compare_and_float_words : Decodes
    [(0xA632F8CD, .vcmp true 6 23 49 9 5), (0xA952F885, .vfadd true 42 23 49 5), (0xA952F88D, .vfsub true 42 23 49 5),
      (0xA952F895, .vfmul true 42 23 49 5), (0xA952F89D, .vfma true 42 23 49 5), (0xA952F8A5, .vfnma true 42 23 49 5),
      (0xA952F8AD, .vfmin true 42 23 49 5), (0xA952F8B5, .vfmax true 42 23 49 5)] := by decide

theorem test_decode_half_words : Decodes
    [(0xAB52F885, .vfaddF16x2 true 42 23 49 5), (0xAB52F88D, .vfsubF16x2 true 42 23 49 5), (0xAB52F895, .vfmulF16x2 true 42 23 49 5),
      (0xAB52F89D, .vfmaF16x2 true 42 23 49 5), (0xAB52F8A5, .vfnmaF16x2 true 42 23 49 5), (0xAB52F8AD, .vfminF16x2 true 42 23 49 5),
      (0xAB52F8B5, .vfmaxF16x2 true 42 23 49 5), (0xAB52F8C5, .vfaddF16 true 42 23 49 5), (0xAB52F8CD, .vfsubF16 true 42 23 49 5),
      (0xAB52F8D5, .vfmulF16 true 42 23 49 5), (0xAB52F8DD, .vfmaF16 true 42 23 49 5), (0xAB52F8E5, .vfnmaF16 true 42 23 49 5),
      (0xAB52F8ED, .vfminF16 true 42 23 49 5), (0xAB52F8F5, .vfmaxF16 true 42 23 49 5)] := by decide

theorem test_decode_bfloat_words : Decodes
    [(0xAD52F885, .vfaddBf16x2 true 42 23 49 5), (0xAD52F88D, .vfsubBf16x2 true 42 23 49 5), (0xAD52F895, .vfmulBf16x2 true 42 23 49 5),
      (0xAD52F89D, .vfmaBf16x2 true 42 23 49 5), (0xAD52F8A5, .vfnmaBf16x2 true 42 23 49 5), (0xAD52F8AD, .vfminBf16x2 true 42 23 49 5),
      (0xAD52F8B5, .vfmaxBf16x2 true 42 23 49 5), (0xAD52F8C5, .vfaddBf16 true 42 23 49 5), (0xAD52F8CD, .vfsubBf16 true 42 23 49 5),
      (0xAD52F8D5, .vfmulBf16 true 42 23 49 5), (0xAD52F8DD, .vfmaBf16 true 42 23 49 5), (0xAD52F8E5, .vfnmaBf16 true 42 23 49 5),
      (0xAD52F8ED, .vfminBf16 true 42 23 49 5), (0xAD52F8F5, .vfmaxBf16 true 42 23 49 5)] := by decide

theorem test_decode_compare_special_convert_words : Decodes
    [(0xAE32F8B5, .vfcmpF32 true 6 23 49 6 5), (0xAE32F8ED, .vfcmpF16 true 6 23 49 5 5), (0xB152E005, .vfrcp true 42 23 5),
      (0xB152E00D, .vfrsq true 42 23 5), (0xB152E015, .vfexp2 true 42 23 5), (0xB152E01D, .vflog2 true 42 23 5), (0xB152E025, .vfsin true 42 23 5),
      (0xB152E02D, .vfcos true 42 23 5), (0xB352E5E5, .vcvt true 42 23 11 12 5), (0xB352F8ED, .vqpack true 42 23 49 5),
      (0xB352F8F5, .vqunp true 42 23 49 5)] := by decide

theorem test_decode_cross_lane_words : Decodes
    [(0xB552E285, .vxch true 42 23 5 5), (0xB552F88D, .vshfl true 42 23 49 5), (0xB552F895, .vbcl true 42 23 49 5),
      (0xB552E49D, .vred true 42 23 9 5), (0xB552ECA5, .vscan true 42 23 true 9 5), (0xB550002D, .vballot true 42 5),
      (0xB552F8B5, .vrand true 42 23 49 5)] := by decide

theorem test_decode_predicate_words : Decodes
    [(0xB632E005, .pset true 6 23 5), (0xB7506008, .pget true 42 3), (0xB6306095, .pand true 6 3 1 5), (0xB630609D, .por true 6 3 1 5),
      (0xB63060A5, .pxor true 6 3 1 5), (0xB630602D, .pnot true 6 3 5)] := by decide

theorem test_decode_global_words : Decodes
    [(0xC152F8ED, .vld true 42 23 49 true 5 5), (0xC352F8ED, .vst true 42 23 49 true 5 5), (0xC552F8AD, .vlds true 42 23 49 5 5),
      (0xC552F8ED, .vsts true 42 23 49 5 5), (0xC752F8AD, .vldsG true 42 23 49 5 5), (0xC752F8ED, .vstsG true 42 23 49 5 5),
      (0xC952F8A5, .sld true 42 23 49 true 5), (0xC952F8E5, .sst true 42 23 49 true 5)] := by decide

theorem test_decode_scratchpad_words : Decodes
    [(0xC952F8AD, .slds true 42 23 49 true 5), (0xC952F8ED, .ssts true 42 23 49 true 5), (0xC952F8B5, .sldsG true 42 23 49 true 5),
      (0xC952F8F5, .sstsG true 42 23 49 true 5), (0xCB52F8BD, .vatom true 42 23 49 3 13), (0xCB52F8ED, .satom true 42 23 49 2 13)] := by decide

theorem test_decode_orangery_words : Decodes
    [(0xCD52F885, .old true 42 23 49 5), (0xCD52F895, .ost true 42 23 49 5), (0xCD52F8AD, .oatom true 42 23 49 13),
      (0xCD52F8BB, .oupd true 42 23 49 11), (0xCD52E04B, .ored true 42 23 11), (0xCD52F8DB, .ordx true 42 23 49 11)] := by decide

theorem test_decode_order_words : Decodes
    [(0xCE00001C, .fence true 3 4), (0xCE000040, .gfence true), (0xCE02F8C1, .pref true 23 49)] := by decide

theorem test_decode_copy_words : Decodes
    [(0xD152F880, .cpy true 42 23 49), (0xD152F881, .cpyg true 42 23 49), (0xD202E000, .twait true 23), (0xD202E001, .tany true 23),
      (0xD352E002, .tfirst true 42 23)] := by decide

theorem test_decode_matrix_words : Decodes
    [(0xD93AE000, .mzero true 2 1 3 23), (0xD81AF881, .mma true 3 23 49), (0xD93AF882, .mloop true 2 1 3 23 49),
      (0xD93AF883, .mref true 2 1 3 23 49), (0xD81AF884, .mldz true 3 23 49), (0xD81AF885, .mstore true 3 23 49),
      (0xD952E186, .mread true 42 23 3), (0xD93AF887, .mbound true 2 1 3 23 49), (0xD9506008, .masn true 42 3), (0xD81AE009, .mwait 3 23)] := by decide

theorem test_decode_pass_words : Decodes
    [(0xE152E000, .pass true 42 23), (0xE002F881, .seal true 23 49), (0xE152E002, .vget true 42 23), (0xE152E003, .vpin true 42 23),
      (0xE002F884, .vrel true 23 49), (0xE152F885, .qwaitQual true 42 23 49), (0xE152F886, .qwaitVer true 42 23 49),
      (0xE152E007, .qwaitDone true 42 23), (0xE152E008, .qcvt true 42 23), (0xE1500009, .budget true 42)] := by decide

theorem test_decode_task_words : Decodes
    [(0xE202F880, .jinit true 23 49), (0xE202E001, .join true 23), (0xE352F882, .fld true 42 23 49), (0xE352F883, .fst true 42 23 49),
      (0xE202F888, .yld true 23 49), (0xE2000009, .gchk true), (0xE200000A, .gret), (0xE200000B, .gend), (0xE352F890, .rinv true 42 23 49),
      (0xE202F891, .wsend true 23 49), (0xE202F892, .cwait true 23 49), (0xE2080012, .cwaitOut true)] := by decide

theorem test_decode_branch_words : Decodes
    [(0xE597ABCD, .spawn true 6 23 43981), (0xE617ABCD, .genb true 23 43981), (0xE800ABCD, .br 43981), (0xE857ABCD, .beqz 23 43981),
      (0xE897ABCD, .bnez 23 43981), (0xE8D7ABCD, .bltz 23 43981), (0xE917ABCD, .bgez 23 43981), (0xE957ABCD, .bgtz 23 43981),
      (0xE997ABCD, .blez 23 43981), (0xE9C0ABCD, .call 43981), (0xEB80ABCD, .vbany 6 43981), (0xEB81ABCD, .vball 6 43981),
      (0xEDAAAAAA, .vbr 6 1365 682)] := by decide

theorem test_decode_control_words : Decodes
    [(0xEE000000, .nop true), (0xEE000001, .exit), (0xEE000002, .ret), (0xEE02E003, .jmpr 23), (0xEE000004, .rcv true), (0xEE000005, .bar true),
      (0xEE000006, .gbar true), (0xEE02E007, .pause true 23), (0xEF501888, .srd true 42 49), (0xEE02F889, .swr true 23 49), (0xEE002A8A, .trap 85),
      (0xEE00000B, .tret), (0xEE02F88C, .icinv true 23 49), (0xEE00000D, .ifence)] := by decide

theorem test_decode_prefix_words : Decodes
    [(0xF4000000, .hintRegionNop true 2), (0x79234567, .ximm 19088743), (0x7A155600, .xmod true false 2 true false 5 1 2), (0x7D500000, .hint 21)] := by decide

/-! ### Words bit by bit, words of no instruction, ill-formed terms -/

/-- One word of each format (R118), its fields from E down: S, I, I19, V, a pair and packed lanes, memory, J, J2, P. -/
theorem test_words_bit_by_bit :
    decode (0#1 ++ 0b001100#6 ++ 0b000100#6 ++ 0b000110#6 ++ 0b000000#6 ++ 0b0011000#7) = some (.popcI64 false 4 6) ∧
    decode (0#1 ++ 0b000010#6 ++ 0b000001#6 ++ 0b000010#6 ++ 0b1111111111111#13) = some (.addi false 1 2 0x1FFF) ∧
    decode (1#1 ++ 0b001011#6 ++ 0b000011#6 ++ 0b1000000000000000001#19) = some (.lih true 3 0x40001) ∧
    decode (0#1 ++ 0b010100#6 ++ 0b001000#6 ++ 0b000010#6 ++ 0b000011#6 ++ 0b0011#4 ++ 0b000#3) = some (.vfma false 8 2 3 0) ∧
    decode (0#1 ++ 0b100000#6 ++ 0b000101#6 ++ 0b000100#6 ++ 0b000111#6 ++ 0b1100#4 ++ 0b000#3) = some (.vld false 5 4 7 true 4 0) ∧
    decode (0#1 ++ 0b100100#6 ++ 0b001000#6 ++ 0b000100#6 ++ 0b000010#6 ++ 0b0#1 ++ 0b1#1 ++ 0b00#2 ++ 0b101#3) = some (.sld false 8 4 2 true 5) ∧
    decode (0#1 ++ 0b101100#6 ++ 0b01#2 ++ 0b11#2 ++ 0b01#2 ++ 0b011001#6 ++ 0b010000#6 ++ 0b0000010#7) = some (.mloop false 1 3 1 25 16) ∧
    decode (0#1 ++ 0b110010#6 ++ 0b000#3 ++ 0b001000#6 ++ 0b0000000000000100#16) = some (.spawn false 0 8 4) ∧
    decode (1#1 ++ 0b110100#6 ++ 0b001#3 ++ 0b000101#6 ++ 0b1111111111111111#16) = some (.beqz 5 0xFFFF) ∧
    decode (1#1 ++ 0b110110#6 ++ 0b010#3 ++ 0b00000000011#11 ++ 0b11111111111#11) = some (.vbr 2 3 0x7FF) ∧
    decode (1#1 ++ 0b110111#6 ++ 0b00000000000#11 ++ 0b0000101#7 ++ 0b0001010#7) = some (.trap 5) ∧
    decode (0#1 ++ 0b111100#6 ++ 0b0000000000000000000011110#25) = some (.ximm 30) := by decide

/-- R127, R129, R130: codes that are not listed, majors that are not assigned, an instruction that ends a run without E, a prefix with E. -/
theorem test_words_of_nothing : ∀ w ∈
    [0x00000000, 0x7E000000, 0x02000019, 0x18000004, 0x22000018, 0x24000068, 0x26000050, 0x28000038, 0x2A000038, 0x2E000038, 0x30000030, 0x32000078,
      0x32000000, 0x34000038, 0x36000030, 0x40000030, 0x44000030, 0x48000018, 0x4A00000E, 0x4C000008, 0x4C000038, 0x4C000051, 0x4C000060, 0x4E000000,
      0x4E00000E, 0x4E000042, 0x50000002, 0x52000003, 0x5800000A, 0x58000009, 0x6000000A, 0x62000004, 0x62000013, 0x66400000, 0x68000000, 0x6A000000,
      0x6C000000, 0x6E000001, 0x6E00000E, 0xF8000000, 0xFA000000, 0xFC000000, 0x38000000, 0x54000000, 0x6200000A],
    decode (BitVec.ofNat 32 w) = none := by decide

theorem test_ill_formed_words : ∀ i ∈
    [Instr.vcmp false 1 0 0 10 0, .vfcmpF32 false 1 0 0 7 0, .vfcmpF16 false 1 0 0 7 0, .vcvt false 0 0 13 2 0, .vcvt false 0 0 2 13 0, .vcvt false 0 0 2 2 0,
      .vld false 0 0 0 false 6 0, .vst false 0 0 0 false 7 0, .vlds false 0 0 0 6 0, .vsts false 0 0 0 6 0, .vldsG false 0 0 0 6 0, .vstsG false 0 0 0 6 0,
      .sld false 0 0 0 false 6, .sst false 0 0 0 false 6, .slds false 0 0 0 false 6, .ssts false 0 0 0 false 6, .sldsG false 0 0 0 false 6,
      .sstsG false 0 0 0 false 6, .vatom false 0 0 0 0 14, .satom false 0 0 0 0 15, .old false 0 0 0 6, .ost false 0 0 0 8, .oatom false 0 0 0 14,
      .oupd false 0 0 0 8, .ored false 0 0 9, .ordx false 0 0 0 1, .fence false 0 0, .fence false 1 6], i.wellFormed = false := by decide

theorem test_ill_formed_steps :
    (∀ i ∈ [Instr.asyncTrapDelivery 16384, .runArbitration 512 0, .runArbitration 0 4, .runFetch 16384, .pauseExpiry 16384, .faultRecordWrite 8,
      .drainComplete 16384, .binLaunch 32 0, .binIdleExpiry 32 0, .parentSpill 16384, .waitPoll 16384, .copyComplete 512 0, .copyPageFaultPark 512 0,
      .matrixQueueArrival 512, .matrixStart 512, .matrixStepEnd 512, .matrixRelease 512, .matrixComplete 512, .epochTimeout 8, .epochApply 8 0,
      .epochApply 0 8, .epochApply 3 3, .hostEpochAck 8, .gfenceRelease 16384, .rinvStatusReturn 0 4, .wsendArrival 1024 0 [], .hangRunLimit 16384,
      .issueStallWatchdog 16384, .engineQueueWatchdog 512 0, .strikeReport 512, .strikeBufferSend 512, .containment 16384 0 0 0, .containment 0 0 11 0,
      .scrub 8, .selfTestStart 512, .selfTestVerdict 512 true, .pathDelayMeasure 32, .energyMeterInterval [1], .recordTake 1024, .preemption 32], i.wellFormed = false) ∧
    (∀ i ∈ [Instr.contextRestore 0 32, .signal 259, .dispatchCoreFailure 2, .heartbeat 2, .heartbeatMiss 2, .dispatchTakeover 2, .queueSet 1024 0 0 4 0 0 0,
      .queueSet 0 512 0 4 0 0 0, .queueSet 0 0 0 4 256 0 0, .asidBind 512 0 false 0, .asidBind 0 65 false 0, .vfBounds 0 0 0 0 0, .vfBounds 65 0 0 0 0,
      .ounitGrant 512 0 0, .ounitGrant 0 512 0, .ounitGrant 0 0 4, .tlbInval 512 0 0, .faultAnswer 8 0 0, .faultAnswer 0 2 0, .faultAnswer 0 0 65536,
      .objCreate 512 0 2 0 false 1 0 0, .objCreate 0 4096 2 0 false 1 0 0, .objDestroy 512 0, .objDestroy 0 4096, .handlerSet 512 0 8 0 0,
      .handlerSet 0 4096 8 0 0, .rxqSet 4 0 8 0 1 0 0 0 0, .rxqSet 0 0 8 32 1 0 0 0 0, .windowReg 1024 false 0 1 0 0 0 0 0 0, .windowDereg 1024,
      .fenceClear 8 0, .fenceClear 0 64, .dispatchRestore 2, .cqSet 256 4 0, .doorbell 1024 0, .cqhead 256 0, .devstatOvfClear 8, .ringSetupWrite 4 false 0,
      .ringHeadWrite 0 0, .ringHeadWrite 4 0, .registerWrite 65536 0, .getCertificate 4, .getMeasurements 0, .getMeasurements 5, .counterRead 8 0,
      .powerOnReset 0 [512], .thermalThrottle [32], .pathDown 4096, .pathDelayMeasurementEnd 32 [0, 0, 0, 0, 0, 0, 0, 0, 0], .pathDelayMeasurementEnd 0 []],
      i.wellFormed = false) := by
  decide

/-! ### Results, worked out by hand from the rules

Each is one word of entity 0 on a small state; its expected value comes from the rule that the name or the line cites. -/

/-- Scalar register d after a word, from these scalars. -/
def sAfter (regs : NMap Word) (i : Instr) (d : Nat) : Option Word := (entOf (exec i (put0 { e0 with sregs := regs } v0))).map (fun e => e.rS d)

/-- Lane 95 of vector register 1 after a word, where every lane of v2, v3 and v1 holds these. -/
def vAfter (x y z : Word) (i : Instr) : Option Word :=
  (waveOf (exec i (put0 e0 { v0 with vregs := [(1, List.replicate 96 z), (2, List.replicate 96 x), (3, List.replicate 96 y)] }))).map (fun v => v.rV 1 95)

/-- R133 to R136: wrapping, the corners of division, shifts by 32 and more, sign-extended constants, LIH. -/
theorem test_scalar_results :
    sAfter [(4, 0xFFFFFFFF), (6, 2)] (.add false 5 4 6) 5 = some 1 ∧ sAfter [(4, 0x80000000), (6, 2)] (.mulh false 5 4 6) 5 = some 0xFFFFFFFF ∧
    sAfter [(4, 0xFFFFFFF9), (6, 2)] (.div false 5 4 6) 5 = some 0xFFFFFFFD ∧ sAfter [(4, 0xFFFFFFF9), (6, 2)] (.rem false 5 4 6) 5 = some 0xFFFFFFFF ∧
    sAfter [(4, 7)] (.divu false 5 4 6) 5 = some 0xFFFFFFFF ∧ sAfter [(4, 7)] (.rem false 5 4 6) 5 = some 7 ∧
    sAfter [(4, 0x80000000), (6, 0xFFFFFFFF)] (.div false 5 4 6) 5 = some 0x80000000 ∧ sAfter [(4, 0x80000000), (6, 32)] (.sra false 5 4 6) 5 = some 0xFFFFFFFF ∧
    sAfter [(4, 1)] (.shli false 5 4 0x20) 5 = some 0 ∧ sAfter [(4, 5)] (.sltiu false 5 4 0x1FFF) 5 = some 1 ∧ sAfter [] (.lih false 4 0x091A3) 4 = some 0x12346000 ∧
    sAfter [(4, 0x12346000)] (.addi false 4 4 0x1678) 4 = some 0x12345678 ∧ sAfter [(4, 0x80)] (.sextI8 false 5 4) 5 = some 0xFFFFFF80 := by decide

/-- R137, and the worked values of FNS. -/
theorem test_bit_results :
    sAfter [(4, 0xFFFFFFFF), (6, 1)] (.add64 false 8 4 6) 9 = some 1 ∧ sAfter [(4, 0xB4), (6, 0)] (.fns false 5 4 6) 5 = some 2 ∧
    sAfter [(4, 0xB4), (6, 3)] (.fns false 5 4 6) 5 = some 7 ∧ sAfter [(4, 0xB4), (6, 4)] (.fns false 5 4 6) 5 = some 0xFFFFFFFF ∧
    sAfter [(6, 1), (7, 3)] (.popcI64 false 4 6) 4 = some 3 ∧ sAfter [(4, 1)] (.brev false 5 4) 5 = some 0x80000000 := by decide

/-- R156 and R157: the worked values of VMULH, VMULHU, VMUL and VADD.I16X2. -/
theorem test_vector_results :
    vAfter 0xFFFFFFFF 2 0 (.vmulh false 1 2 3 0) = some 0xFFFFFFFF ∧ vAfter 0xFFFFFFFF 2 0 (.vmulhu false 1 2 3 0) = some 1 ∧
    vAfter 0xFFFFFFFF 2 0 (.vmul false 1 2 3 0) = some 0xFFFFFFFE ∧ vAfter 0x7FFF0001 0x0001FFFF 0 (.vaddI16x2 false 1 2 3 0) = some 0x80000000 ∧
    vAfter 3 5 7 (.vmad false 1 2 3 0) = some 22 ∧ vAfter 0x80000000 0 0 (.vsra false 1 2 3 0) = some 0x80000000 := by decide +kernel

/-- R103 to R107, R161, R164: 1.5 × 2 + 0.25 = 3.25; 1 + 2^-24 is a tie and goes to even; 500 overflows E4M3 to its NaN, 460 becomes 448. -/
theorem test_float_results :
    vAfter 0x3FC00000 0x40000000 0x3E800000 (.vfma false 1 2 3 0) = some 0x40500000 ∧ vAfter 0x3F800000 0x33800000 0 (.vfadd false 1 2 3 0) = some 0x3F800000 ∧
    vAfter 0x43FA0000 0 0 (.vcvt false 1 2 2 5 0) = some 0x7F ∧ vAfter 0x43E60000 0 0 (.vcvt false 1 2 2 5 0) = some 0x7E ∧
    vAfter 0x7FC00000 0 0 (.vcvt false 1 2 2 0 0) = some 0 := by decide +kernel

/-- R160, R173: VCMP.LTU on 1 and 2 sets lane 95 of p1; PNOT clears it. -/
theorem test_predicate_results :
    ((waveOf (exec (.vcmp false 1 2 3 6 0) (put0 e0 { v0 with vregs := [(2, List.replicate 96 1), (3, List.replicate 96 2)] }))).map (fun v => (v.rP 1).getLsbD 95)) =
      some true ∧
    ((waveOf (exec (.pnot false 1 1 0) (put0 e0 { v0 with preds := [(1, BitVec.allOnes 96)] }))).map (fun v => (v.rP 1).getLsbD 95)) = some false := by decide +kernel

/-- R119, R140, R141: targets count words from the branch; CALL leaves the address after it in s60. -/
theorem test_branch_results :
    ((entOf (exec (.br 0xFFFF) (put0 { e0 with pc := 0x100 } v0))).map (fun e => e.pc)) = some 0xFC ∧
    ((entOf (exec (.beqz 4 10) (put0 { e0 with pc := 0x100, sregs := [(4, 1)] } v0))).map (fun e => e.pc)) = some 0x104 ∧
    ((entOf (exec (.call 10) (put0 { e0 with pc := 0x100 } v0))).map (fun e => (e.pc, e.rS 60))) = some (0x128, 0x104) ∧
    ((entOf (exec .ret (put0 { e0 with pc := 0x500000100, sregs := [(60, 0x40)] } v0))).map (fun e => e.pc)) = some 0x500000040 := by decide

/-- R149, R253: TRAP 5 at 0x100 enters the handler at 0x800; TRET goes back. -/
theorem test_trap_results :
    ((entOf (exec (.trap 5) (put0 { e0 with pc := 0x100 } { v0 with handler := 0x800 }))).map (fun e => (e.pc, e.trapCause, e.trapPc, e.level))) =
      some (0x800, 0xFF0085, 0x100, true) ∧
    ((entOf (exec .tret (put0 { e0 with pc := 0x800, trapPc := 0x100, level := true } { v0 with handler := 0x800 }))).map (fun e => (e.pc, e.level))) =
      some (0x100, false) := by decide

/-- R177: B counts units of the access, and words lie little-endian. -/
theorem test_scratchpad_results :
    (match exec (.ssts false 8 4 2 false 4) { sM with ents := [(0, { e1 with sregs := [(4, 0x40), (8, 0x01020304)] })] } with
      | .next t => some ((t.core 0).data.scratch.filter (fun c => decide (0x48 ≤ c.1) && decide (c.1 < 0x4C)))
      | _ => none) = some [(0x48, 4), (0x49, 3), (0x4A, 2), (0x4B, 1)] := by decide +kernel

/-- R126: the placed word runs in the next step, and the step keeps the memories canonical. -/
theorem test_step_runs_the_placed_word :
    (match step (placeWord State.reset 0x04081678#32) with
      | .next t => decide ((look t.ents 0).map (fun e => (e.rS 1, e.pc)) = some (0xFFFFF678, 4)) && memWf t.mem && memWf t.orangery
      | _ => false) = true := by decide +kernel


/-! ### Hypotheses: where words trap, wait and consume poison -/

/-- A single access that is misaligned, and one that translation refuses with one cause. -/
theorem first_misaligned {c : Ctx} {n : Need} {w : Nat} {x : LaneAcc} (hc : (xlate c.s c.core c.v.asid n x.va).causes = []) (hm : x.va % w ≠ 0) :
    Claim.FirstCause (Claim.globalCauses c n w [x]) { cause := 0x03, lane := x.lane, addr := x.va } := by
  refine ⟨⟨x, by simp, rfl, rfl, .inl ⟨rfl, hm⟩⟩, ?_⟩
  rintro ⟨uc, ul, ua⟩ ⟨y, hy, h1, h2, h3⟩
  simp only [List.mem_singleton] at hy
  subst hy
  rcases h3 with ⟨h3, -⟩ | h3
  · exact .inl (by simp_all)
  · rw [hc] at h3; cases h3

theorem first_refused {c : Ctx} {n : Need} {w z : Nat} {x : LaneAcc} (hc : (xlate c.s c.core c.v.asid n x.va).causes = [z]) (hm : x.va % w = 0) :
    Claim.FirstCause (Claim.globalCauses c n w [x]) { cause := z, lane := x.lane, addr := x.va } := by
  refine ⟨⟨x, by simp, rfl, rfl, .inr (by simp [hc])⟩, ?_⟩
  rintro ⟨uc, ul, ua⟩ ⟨y, hy, h1, h2, h3⟩
  simp only [List.mem_singleton] at hy
  subst hy
  rcases h3 with ⟨-, h3⟩ | h3
  · exact absurd hm h3
  · exact .inl (by simp_all)

/-- s4 holds a misaligned address, s6 an aligned one whose bits 63 to 56 are not zero. -/
def eMis : Entity := { e1 with sregs := [(4, 0x41), (6, 0x40), (7, 0x1000000), (8, 0x2000000)] }
def sMis : State := { sM with ents := [(0, eMis)] }
def cMis : Ctx := Claim.ctx sMis 0 eMis v0

theorem test_global_traps :
    (∀ l ∈ [[oV2 62, oS2 4, oV 0, oP 0], [oV 62, oS2 6, oV 0, oP 0]], Claim.Issues sMis 0 eMis v0 l { pneg := true, scope := true, ch := true }) ∧
    (lanesIn (cMis.active 0)).map (fun i => ({ lane := i, va := ((eMis.rPair 4).toNat + (v0.rV 0 i).toNat) % 2 ^ 64 } : LaneAcc)) = [{ lane := 95, va := 0x41 }] ∧
    (lanesIn (cMis.active 0)).map (fun i => ({ lane := i, va := ((eMis.rPair 6).toNat + (v0.rV 0 i).toNat) % 2 ^ 64 } : LaneAcc)) =
      [{ lane := 95, va := 0x100000000000040 }] ∧
    (∀ n ∈ [Need.read, .write, .atomic, .future, .futureWrite],
      Claim.FirstCause (Claim.globalCauses cMis n 8 [{ lane := 95, va := 0x41 }]) { cause := 0x03, lane := 95, addr := 0x41 } ∧
      Claim.FirstCause (Claim.globalCauses cMis n 8 [{ lane := 95, va := 0x100000000000040 }]) { cause := 0x10, lane := 95, addr := 0x100000000000040 }) := by
  refine ⟨by decide, by decide, by decide, fun n hn => ⟨first_misaligned ?_ (by decide), first_refused ?_ (by decide)⟩⟩ <;>
    · revert hn; revert n; decide

theorem test_translation :
    (tlbFind (sM.core 0).tlb 0 0x40 = none ∧ tlbFind (sM.die (dieOfCore 0)).tlb 0 0x40 ≠ none ∧ 0x40 < 2 ^ 56) ∧
    (let s : State := { sM with cores := [(0, { Core.fresh with tlb := (sM.die 0).tlb })] }
     tlbFind (s.core 0).tlb 0 0x40 ≠ none) := by decide

/-- Lanes 94 and 95 both in the page that is not mapped, and an entity whose mapped lanes have been performed before. -/
def vF2 : Wave := { v0 with vregs := [(0, List.replicate 96 0x200000)] }
def sF2 : State := { sM with ents := [(0, eF)], waves := [(0, vF2)] }
def sF3 : State := { sF with ents := [(0, { eF with parking := true, replay := true, fmask := 1 <<< 94 })] }

theorem test_loads_park_clauses :
    (let c := Claim.ctx sF2 0 eF vF2
     lanesIn (c.active 0) = [94, 95] ∧ eF.parking = false ∧ (xlate sF2 c.core vF2.asid .read 0x200040).pa = none ∧
     Claim.Issues sF2 0 eF vF2 [oV 62, oS2 4, oV 0, oP 0] { pneg := true, scope := true, ch := true }) ∧
    (let e := { eF with parking := true, replay := true, fmask := 1 <<< 94 }
     let c := Claim.ctx sF3 0 e vF
     Claim.Issues sF3 0 e vF [oV 62, oS2 4, oV 0, oP 0] { pneg := true, scope := true, ch := true } ∧ lanesIn (c.active 0) = [94] ∧
     (xlate sF3 c.core vF.asid .read 0x200040).pa = none ∧ c.acquiring = false) := by decide

/-- A single scratchpad access that is misaligned, or beyond the allocation. -/
theorem first_spad {c : Ctx} {g : Bool} {w z : Nat} {x : Nat × Nat}
    (h : (z = 0x03 ∧ x.2 % w ≠ 0 ∧ ∃ p, threadAt c g w (x.2 / w * w) = some p ∧ genTouched c.s p = false) ∨
      (z = 0x12 ∧ x.2 % w = 0 ∧ threadAt c g w (x.2 / w * w) = none)) :
    Claim.FirstCause (Claim.spadCauses c g w [x]) { cause := z, lane := x.1, addr := x.2 } := by
  refine ⟨⟨x, by simp, .inl ⟨rfl, rfl, ?_⟩⟩, ?_⟩
  · rcases h with h | h
    · exact .inl ⟨h.1, h.2.1⟩
    · exact .inr ⟨h.1, h.2.2⟩
  · rintro ⟨uc, ul, ua⟩ ⟨y, hy, hu⟩
    simp only [List.mem_singleton] at hy
    subst hy
    rcases h with ⟨rfl, hm, p, hp, hg⟩ | ⟨rfl, hm, hp⟩
    · rcases hu with ⟨h1, h2, ⟨h3, -⟩ | ⟨-, h3⟩⟩ | ⟨-, q, hq, ht⟩
      · exact .inl (by simp_all)
      · rw [hp] at h3; cases h3
      · rw [hp] at hq; cases hq; rw [hg] at ht; cases ht
    · rcases hu with ⟨h1, h2, ⟨-, h3⟩ | ⟨h3, -⟩⟩ | ⟨-, q, hq, ht⟩
      · exact absurd hm h3
      · exact .inl (by simp_all)
      · rw [hp] at hq; cases hq

/-- s4 holds 0x41, s6 the first offset beyond the frame. -/
def eMisS : Entity := { e1 with sregs := [(4, 0x41), (6, 0x400)] }
def sMisS : State := { sM with ents := [(0, eMisS)] }
def cMisS : Ctx := Claim.ctx sMisS 0 eMisS v0

theorem test_scratchpad_traps :
    (∀ l ∈ [[oV2 62, oS 4, oV 0, oP 0], [oV 62, oS 6, oV 0, oP 0]], Claim.Issues sMisS 0 eMisS v0 l { pneg := true, scope := true }) ∧
    (∀ g ∈ [false, true],
      Claim.FirstCause (Claim.spadCauses cMisS g 8 [(95, 0x41)]) { cause := 0x03, lane := 95, addr := 0x41 } ∧
      Claim.FirstCause (Claim.spadCauses cMisS g 4 [(95, 0x400)]) { cause := 0x12, lane := 95, addr := 0x400 }) := by
  refine ⟨by decide, fun g hg => ⟨first_spad (.inl ⟨rfl, by decide, ?_⟩), first_spad (.inr ⟨rfl, by decide, ?_⟩)⟩⟩
  · refine ⟨{ block := 0, core := 0, byte := 0x40, off := 0x40 }, ?_⟩
    revert hg; revert g; decide
  · revert hg; revert g; decide

/-- The granule at 0x40 of the scratchpad is poisoned. -/
def sPs : State := { sM with poison := [.scratch 0 0x40] }

theorem test_scratchpad_poison :
    spadMeets sPs 0 0 0x40 8 = some 0x40 ∧ spadMeets sPs 0 0 0x48 8 = none ∧ spadMeets sM 0 0 0x40 8 = none ∧
    Claim.Issues sPs 0 e1 v0 [oV2 62, oS 4, oV 0, oP 7] { pneg := true, scope := true } := by decide

/-- The causes of one Orangery offset, as OrangeryWords, JoinWords and RemoteWords give them. -/
def orngRaises (s : State) (lane off w : Nat) (codes : List Nat) (t : Trap) : Prop :=
  t.lane = lane ∧ t.addr = off ∧ ((t.cause = 0x03 ∧ off % w ≠ 0) ∨ (t.cause = 0x12 ∧ orngClosed off = true) ∨
    (t.cause = 0x11 ∧ orngClosed off = false ∧ orngCode s 0 off ∉ codes))

theorem test_orangery_traps :
    (∀ l ∈ [[oV 62, oS 4, oV 0]], Claim.Issues sMisS 0 eMisS v0 l { scope := true, ord := [1] }) ∧
    Claim.FirstCause (orngRaises sMisS 95 0x41 4 [1, 2]) { cause := 0x03, lane := 95, addr := 0x41 } ∧
    Claim.FirstCause (orngRaises sMisS 255 0x28000000 16 [2, 3]) { cause := 0x12, lane := 255, addr := 0x28000000 } ∧
    Claim.FirstCause (orngRaises sMisS 255 0x200000 8 [1, 2]) { cause := 0x11, lane := 255, addr := 0x200000 } := by
  refine ⟨by decide, ⟨⟨rfl, rfl, .inl ⟨rfl, by decide⟩⟩, ?_⟩, ⟨⟨rfl, rfl, .inr (.inl ⟨rfl, by decide⟩)⟩, ?_⟩, ⟨⟨rfl, rfl, .inr (.inr ⟨rfl, by decide, by decide⟩)⟩, ?_⟩⟩ <;>
    · rintro ⟨uc, ul, ua⟩ ⟨h1, h2, ⟨h3, h4⟩ | ⟨h3, h4⟩ | ⟨h3, h4, h5⟩⟩ <;> first
        | exact absurd h4 (by decide)
        | exact absurd h5 (by decide)
        | exact .inl (by simp_all)

/-- Fields that are no register of the wave, and prefixes that no word here accepts. -/
def vSmall : Wave := { v1 with vlimit := 8 }
def eXm : Entity :=
  { e0 with chain := { e0.chain with xmod := some { pneg := true, rmv := true, rm := 0, sat := true, scv := true, scope := 0, ch := 1, ord := 1 } } }

theorem test_fields_and_prefixes :
    (Claim.Ready (put0 e0 vSmall) 0 e0 vSmall [oV 8, oV 0, oV 1, oP 0] ∧ [oV 8, oV 0, oV 1, oP 0].all (fun o => o.ok vSmall.vlimit) = false) ∧
    (Claim.Ready s0 0 e0 v0 [oS2 5, oS2 4, oS2 6] ∧ [oS2 5, oS2 4, oS2 6].all (fun o => o.ok v0.vlimit) = false) ∧
    (Claim.Ready s0 0 e0 v0 [oGroup 12 8, oS 0] ∧ [oGroup 12 8, oS 0].all (fun o => o.ok v0.vlimit) = false) ∧
    (Claim.Ready (put0 eXm v0) 0 eXm v0 [oS 1, oS 2, oS 3] ∧ ({} : Accept).chainOk eXm.chain = false ∧ ({ pneg := true } : Accept).chainOk eXm.chain = false ∧
      ({ pneg := true, scope := true, ch := true } : Accept).chainOk eXm.chain = false) ∧
    (∀ d ∈ [(62 : Reg), 63], 62 ≤ d.toNat ∧ Claim.Ready s0 0 e0 v0 [{ cls := .s, n := d.toNat, len := 3, align := 1 }, oP 0] ∧
      ({ pneg := true } : Accept).chainOk e0.chain = true) := by decide

/-- Register poison of wave 0 and entity 0. -/
def sPr (p : Poison) : State := { s0 with poison := [p] }

theorem test_register_poison :
    (∀ p ∈ [Poison.scalar 0 0 4, .scalar 0 0 9, .vector 0 2 95, .predicate 0 0 2, .vector 0 9 0], ∀ ops ∈ [[oS 5, oS 4, oS 6], [oV 1, oV 2, oV 3, oP 0]],
      Claim.Ready (sPr p) 0 e0 v0 ops ∧ ({} : Accept).chainOk e0.chain = true ∧ ops.all (fun o => o.ok v0.vlimit) = true ∧ genTraps v0 0 ops = [] ∧
      (sPr p).poison = [p]) ∧ e0.replay = false ∧ e0.mask.getLsbD 95 = true ∧ (v0.rP 0).getLsbD 95 = true := by decide

/-- A tree of 96 leaves, level by level, for the last clause of ReductionWords. -/
theorem test_reduction_tree :
    ∃ n : Nat → Nat → Word, (∀ i, n 0 i = (List.replicate 96 (3 : Word)).getD i 0) ∧ ∀ j i, n (j + 1) i = (redOp 0 0 (n j i) (n j (i + 2 ^ j))).1 :=
  ⟨fun j => Nat.rec (fun i => (List.replicate 96 (3 : Word)).getD i 0) (fun j f i => (redOp 0 0 (f i) (f (i + 2 ^ j))).1) j, fun _ => rfl, fun _ _ => rfl⟩

/-! ### Hypotheses: waits, refusals and clauses of the statements on units, tasks and cores -/

/-- A word whose one cause is first (R252). -/
theorem first_of_one {t : Trap} : Claim.FirstOf [t] t := ⟨[], [], rfl, by simp, by simp⟩

/-- The pitch of the source of the copy is not a multiple of 8. -/
def eCm : Entity := { eU with sregs := (17, 4) :: eU.sregs }
def cCm : Ctx := Claim.ctx { sU with ents := [(0, eCm)] } 0 eCm v0

theorem test_copy_traps :
    ((copyIssue cCm false 63 16 20).traps.map (fun t => t.cause)).eraseDups = [0x03] ∧ ((copyIssue cCm false 63 16 20).traps).length = 1 ∧
    Claim.Issues { sU with ents := [(0, eCm)] } 0 eCm v0 [oGroup 16 4, oGroup 20 4] { ch := true } ∧ look sU.gangs bU.gang = some placedGang ∧
    (∀ x ∈ placedGang.blocks, (look sU.blocks x).isSome) := by decide

/-- A copy whose tag is still pending, and one behind a store of its wave to memory. -/
def oMw : HomeOp := { oM with ent := 3 }

theorem test_copy_waits :
    (bU.tags.getLsbD 5 = false ∧ (copyIssue cU false 5 16 20).traps = []) ∧
    (waveStores { sU with homeQ := [oMw] } 0 0 = true ∧ waveStores sU 0 0 = false) ∧
    (let e := { eU with sregs := [(20, 0x40), (18, 0x10008), (17, 8), (19, 0), (21, 0), (23, 0x0802)] }
     let s : State := { sU with ents := [(0, e)], homeQ := [oMw], asids := [(0, { Asid.fresh with units := [(0, 2)] })] }
     2 ≤ (copyIssue (Claim.ctx s 0 e v0) false 63 16 20).scope ∧ (copyIssue (Claim.ctx s 0 e v0) false 63 16 20).traps = []) := by decide

/-- The engine's queue is full, or a cause is raised: column 160. -/
def sUf : State := { sU with cores := [(0, { (sU.core 0) with data := { (sU.core 0).data with queue := List.replicate 8 (opE .zero 0 0) } })] }

theorem test_engine_waits_and_traps :
    (∃ x ∈ (zeroIssue cU 1 1 3 9).op.cores, 8 ≤ (sUf.core x).data.queue.length + (sUf.core x).data.enroute.length) ∧
    (let e := { eU with sregs := [(33, 0)] }
     let c := Claim.ctx { sU with ents := [(0, e)] } 0 e v0
     let i := readIssue c 63 32 3
     Claim.Issues { sU with ents := [(0, e)] } 0 e v0 [oV 63, oS2 32] {} ∧ i.traps ++ regionTraps i.pos i.regions ++ genTraps v0 0 i.vregs = [bare 0x02]) ∧
    (∀ i ∈ issuesU, (∀ x ∈ i.vsrc, pendAll sU cU.core 0 x 16 = false) ∧ i.op.cores.Nodup ∧ i.traps ++ regionTraps i.pos i.regions ++ genTraps v0 0 i.vregs = []) ∧
    Claim.FirstOf [bare 0x02] (bare 0x02) := by
  refine ⟨by decide +kernel, by decide +kernel, by decide +kernel, first_of_one⟩

/-- Two blocks of a gang on cores 0 and 1, for an instruction that drives both. -/
def sGrid : State :=
  { sU with
    blocks := [(0, bU), (1, { bU with core := 1, rank := 1 })], gangs := [(0, { placedGang with blocks := [0, 1] })] }

theorem test_grid_places :
    1 < 2 * 1 ∧ bU.rank = 0 ∧ 2 * 1 ≤ ({ placedGang with blocks := [0, 1] } : Gang).blocks.length ∧ look sGrid.blocks 0 = some bU ∧
    (zeroIssue (Claim.ctx sGrid 0 eU v0) 2 1 3 9).op.cores = [0, 1] ∧ (zeroIssue (Claim.ctx sGrid 0 eU v0) 2 1 3 9).traps = [] ∧
    (∀ x ∈ [0, 1], (look sGrid.blocks x).isSome) := by decide +kernel

theorem test_object_waits :
    (Claim.ctx { sU with fresh := 1, bankQ := [{ bankH (.jinit 0) with off := 0 }] } 0 eU v0).turn 0 = false ∧ (objGet xU .ldone = 1) ∧
    (let s : State := { sU with dies := [(7, { Die.fresh with clock := [1] })] }
     (Claim.ctx s 0 eU v0).caughtUp (7 * 2 ^ 21) = false) ∧ (Claim.ctx sU 0 eU v0).caughtUp 0 = true ∧
    objNamed sU 0 (eU.rS 9) = none ∧ boundHandle cU 45 = none ∧ (¬ (8 ≤ (0 : Reg).toNat ∧ (0 : Reg).toNat ≤ 48)) := by decide +kernel

/-- A label in the next region of 4 GiB, and a register file with no room for the payload. -/
def eFar : Entity := { eT with pc := 0xFFFFFFFC }
def vFew : Wave := { v0 with vlimit := 8 }

theorem test_spawn_traps :
    (eFar.pc + 4 * (1 : BitVec 16).signExtend 64).extractLsb' 32 32 ≠ eFar.pc.extractLsb' 32 32 ∧
    Claim.Issues { sT with ents := [(0, eFar)] } 0 eFar v0 [{ cls := .v, n := 8 * 7, len := 4, align := 1 }, oS 4] { ximm := true } ∧
    (vFew.vlimit < 8 * (1 : BitVec 3).toNat + 4 ∧
      Claim.Ready { sT with waves := [(0, vFew)] } 0 eT vFew [{ cls := .v, n := 8, len := 4, align := 1 }, oS 4] ∧ ({ ximm := true } : Accept).chainOk eT.chain = true) := by
  decide

/-- JOIN and CWAIT whose bank has an operation of the entity before them. -/
theorem test_task_waits :
    (Claim.ctx { sT with fresh := 1, bankQ := [bankH (.jinit 0)] } 0 eT v0).turn 0x40 = false ∧
    (2 ^ 24 < outstanding { sT with launches := [(0, { lU with outstanding := 2 ^ 24 })] } v0.owner + 96) ∧
    ((ackClock { sT with launches := [(0, { lU with ackClock := [1] })] } v0.owner = [1] ∧ covers (sT.die 0).clock [1] = false ∧
      covers (sT.die 0).clock (ackClock sT v0.owner) = true)) := by decide

/-- A WSEND of 12 bytes. -/
def eWs : Entity := { eT with sregs := (16, 12) :: eT.sregs }

theorem test_wsend_traps :
    Claim.Issues { sT with ents := [(0, eWs)] } 0 eWs v0 [oGroup 12 4, oS 16] {} ∧
    (wsendTraps (Claim.ctx { sT with ents := [(0, eWs)] } 0 eWs v0) 12 16).map (fun t => t.cause) ≠ [] ∧
    0x02 ∈ (wsendTraps (Claim.ctx { sT with ents := [(0, eWs)] } 0 eWs v0) 12 16).map (fun t => t.cause) := by decide

/-- A generator with a group that its ring has room for, or has not. -/
def gT2 : Gen := { gT false with group := [(95, 1, 2)] }

theorem test_generator_clauses :
    (let s := sG false 191 96
     let s := { s with waves := [(0, { vT false with gen := some gT2 })] }
     Claim.Issues s 0 eT { vT false with gen := some gT2 } [oV 0, oV 31] {} ∧ switchBusy (Claim.ctx s 0 eT { vT false with gen := some gT2 }) 0 = false ∧
     rdN (s.core 0).data.scratch 1553 1 + gT2.group.length ≤ 192 ∧
     192 < rdN (s.core 0).data.scratch 1553 1 + gT2.group.length + ((lanesIn (Claim.ctx s 0 eT (vT false)).lanes)).length ∧ (∀ x ∈ gT2.group, x.1 < 96)) ∧
    ((∀ x y, Poison.scratch x y ∉ (sG false 191 96).poison) ∧ look (sG false 191 96).blocks v0.block = some { placedBlock with frames := 96 } ∧ placedBlock.core = 0 / 32) ∧
    (let g : Gen := { gT true with draining := true }
     (if g.draining then 0 < rdN ((sG true 2 96).core 0).data.scratch 1553 1 - g.n else False) ∧
     (if g.draining then rdN ((sG true 1 96).core 0).data.scratch 1553 1 - g.n = 0 else False)) ∧
    (¬ (0x61000000 / 2 ^ 24 ≤ 96) ∧ 0x60000000 / 2 ^ 24 ≤ 96) := by
  refine ⟨by decide +kernel, ⟨by simp [sG, sT, put0, placeWord, State.reset], by decide +kernel, by decide⟩, by decide +kernel, by decide⟩

/-- A poisoned line of code. -/
def sFp : State := { sFe e0 with poison := [.memory 0] }
def poisonAt (f : FetchEnd) : Option Nat := match f with | .poisoned a => some a | _ => none

theorem test_fetch_poisoned : poisonAt (fetchWord sFp 0 0 0) = some 0 ∧ e0.words < 24 := by decide

/-- A handler that may be entered for a cause: the entity behind is not started, and one for which none is due is. -/
theorem test_cause_due :
    causeDue (put0 { e0 with boundary := true, pending := [causeE 0x70] } v1) 0 { e0 with boundary := true, pending := [causeE 0x70] } = true ∧
    causeDue s0 0 e0 = false ∧ (scalarWordOf 0x4A308419#32 = false) := by decide

/-- A wave of a block without scratchpad whose own core is fenced comes back to another core, where nothing stands. -/
def sBack (fenced : Bool) : State :=
  { sS with mgmt := { sS.mgmt with fences := if fenced then [0] else [] }, gangs := [(0, placedGang)] }

theorem test_parent_moves :
    parentCore (sBack true) pW v0 placedBlock = some (1, false) ∧ coreEmpty (sBack true) 1 = true ∧ 1 ≠ placedBlock.core ∧
    slotKeys (sBack true) 1 3 1 = some [56] ∧ resident (sBack true) placedBlock = true ∧ parentCore (sBack false) pW v0 placedBlock = some (0, false) := by
  decide +kernel

/-! ### Hypotheses: what devices meet -/

/-- Two lanes of one word on their way to one line: atomics on one address, stores side by side; and stores of a whole line. -/
def laneH (k : HomeKind) (i a n : Nat) : HomeOp :=
  { core := 0, ent := 0, wave := 0, serial := 1, kind := k, addr := a, data := List.replicate n 1, dep := [], acq := false, lanes := laneBit i
    reg := none, wide := false }
def sHs (l : List HomeOp) : State := { s0 with homeQ := l, fresh := 2 }
def mates (l : List HomeOp) (o : HomeOp) : List HomeOp :=
  l.filter (fun x => decide (x.core = o.core ∧ x.ent = o.ent ∧ x.wave = o.wave ∧ x.serial = o.serial ∧ x.addr / 64 = o.addr / 64))

theorem test_home_of_lanes :
    (∀ l ∈ [[laneH (.atom 0 1 0) 0 64 0, laneH (.atom 0 2 0) 95 64 0], [laneH .store 0 64 4, laneH .store 1 66 4],
        (List.range 8).map (fun i => laneH .store i (64 + 8 * i) 8)],
      mates l (l.headD oM) = l ∧ (∀ x ∈ l, turnAtHome (sHs l) x = true) ∧ ∀ x ∈ l, x.bad = false ∧ ∀ i < x.data.length, (homeDie (x.addr + i)).isSome = true) ∧
    memPoison (sHs []) 64 = none ∧ 64 % 4 = 0 ∧ (homeDie 64).isSome = true ∧
    turnAtHome (sHs [{ laneH .store 0 64 4 with dep := [1] }]) { laneH .store 0 64 4 with dep := [1] } = false := by decide

theorem test_reply_waits :
    arrived s0 (replyH (some (62, none)) (.load [(255, 0)] 8 false false) [9]) = false ∧ arrived s0 (replyH none (.value 0 5) [9]) = false ∧
    (let a := { replyH (some (62, none)) (.load [(255, 0)] 8 false false) [] with serial := 0 }
     let b := { replyH (some (62, none)) (.load [(255, 0)] 8 false false) [] with serial := 1 }
     loadTurn { s0 with replies := [a, b] } b = false ∧ loadTurn { s0 with replies := [a, b] } a = true) := by decide

theorem test_strike_buffer :
    (let d : CoreData := { CoreData.fresh with held := [heldH (.memory 64), heldH (.orangery 64), { heldH (.memory 64) with serial := 1 }] }
     let s : State := { s0 with now := 256, cores := [(0, { Core.fresh with data := d })] }
     (s.core 0).data.held.head? = some (heldH (.memory 64)) ∧ (s.core 0).data.held.takeWhile (fun x => decide (x.serial = 0)) = [heldH (.memory 64), heldH (.orangery 64)] ∧
     (heldH (.memory 64)).time + 256 ≤ s.now) ∧
    (∀ w, look ({ s0 with waves := [(0, { v0 with ended := true })] } : State).waves 0 = some w → w.ended = true) := by
  refine ⟨by decide, fun w h => ?_⟩
  cases h
  rfl

/-- A cell for ORDX of two slots: none has arrived, slot 1 has, and the reduction is done. -/
def sOx (ctl : Nat) : State := { s0 with bankQ := [bankH (.ordx 0 0 5)], orangery := wrN [] 0x44 4 ctl }

theorem test_ordx_cells :
    (rdN (sOx 0x20000).orangery 0x44 4 / 2 ^ 16 % 16 = 2 ∧ (rdN (sOx 0x20000).orangery 0x44 4).testBit 24 = false ∧ (rdN (sOx 0x20000).orangery 0x44 4).testBit 0 = false ∧
      (∃ i < 2, i ≠ 0 ∧ (rdN (sOx 0x20000).orangery 0x44 4).testBit i = false)) ∧
    (∀ i < 2, i ≠ 0 → (rdN (sOx 0x20002).orangery 0x44 4).testBit i = true) ∧ (rdN (sOx 0x1020000).orangery 0x44 4).testBit 24 = true ∧
    fixedAt (sOx 0) 0x40 = false ∧ fixedAt (sOx 0) 0x27000000 = true ∧ (∀ n sg, (bankH (.ordx 0 0 5)).kind ≠ .load n sg) := by
  refine ⟨by decide +kernel, by decide +kernel, by decide +kernel, by decide, by decide, by simp [bankH]⟩

/-- Objects with no slot to open: every slot but the current one pinned; and one with a free slot. -/
def xFull : Nat := descO [(.ldone, 0), (.pin 1, 1), (.pin 0, 1)]
def sNs (x : Nat) (k : AnswerKind) : State := { sO (.seal 0) 0x1000 x with passQ := [], answers := [ansO k []], ents := [(0, eB)], waves := [(0, v1)] }

theorem test_no_slot :
    (let x := objRead (sNs xO (.noSlot 0)) 0
     objGet x .open' = 0 ∧ objGet x .ldone = 0 ∧ ∃ i ≤ objGet x .km1, objGet x (.age i) ≠ objGet x .cur ∧ objGet x (.pin (objGet x (.age i))) = 0) ∧
    (let x := objRead (sNs xFull (.noSlot 0)) 0
     objGet x .open' = 0 ∧ objGet x .ldone = 0 ∧ ∀ i ≤ objGet x .km1, ¬ (objGet x (.age i) ≠ objGet x .cur ∧ objGet x (.pin (objGet x (.age i))) = 0)) ∧
    (placedBlock.sealOf 0).isSealed = false ∧ (sNs xO (.noSlot 0)).answers[0]? = some (ansO (.noSlot 0) []) ∧ OneOf (sNs xO (.noSlot 0)) eB v1 := by
  decide +kernel

/-- Children of launch 0 delivered into a new bin; with a ring of no records and the pavilion's bins all taken by other labels. -/
def sKids (full : Bool) : State :=
  { sA (ansO (.children [(95, childW)]) []) with
    launches := [(0, { lU with record := { lU.record with ring := 0 } })]
    pavs := if full then [(0, { Pavilion.fresh with bins := (List.range 32).map (fun k => (k, { binB [childW] [] false with entry := 4 })) })] else [] }

theorem test_children_answers :
    (deliverAll deliverChild (sKids false) [(95, childW)]).2 = none ∧ (deliverAll deliverChild (sKids true) [(95, childW)]).2 = some 95 ∧ v1.handler ≠ 0 ∧ eB.level = false ∧
    (spillRing (sKids false) childW.owner).1 = [] ∧ (binChild (sKids true) childW).isNone = true ∧
    ((spillRing { sKids false with launches := [(0, { lU with spillRing := [childW] })] } childW.owner).1 ≠ []) := by decide +kernel

/-- Dispatch cores both halted: no close is begun. -/
theorem test_close_waits :
    servedBy { sL [(0x1000, 0)] .stopped with dispatch := { Dispatch.reset with halted := [true, true] } } 0 = none ∧ servedBy (sL [(0x1000, 0)] .stopped) 0 ≠ none ∧
    (let s := sL [] .dropping
     look s.launches 0 = some (lO [] .dropping) ∧ (lO [] .dropping).record.objs = [] ∧ (lO [] .dropping).dropped = [] ∧ launchQuiet s 0 = true ∧
     launchQuiet { s with bankQ := [{ bankH (.jinit 0) with core := 0 }], waves := [(0, v0)] } 0 = false) := by decide +kernel

/-! #### Engines -/

theorem test_queue_positions :
    (let o := { opE .zero 0 0 with serial := 6 }
     let q := { opE .zero 0 0 with e := 1, serial := 5 }
     let d := { CoreData.fresh with queue := [q, o] }
     d.queue = [q] ++ o :: [] ∧ o.e = d.asnOf o.z ∧ (∀ x ∈ [q], x.e ≠ d.asnOf x.z) ∧ ∀ x ∈ [q] ++ [], x.serial ≠ o.serial) ∧
    (let o := opE .steps 3 1
     let next := { opE .steps 3 1 with e := 1, serial := 6 }
     let d := { CoreData.fresh with run := some (runE o true), queue := [next], groups := 1 }
     next.e = (d.asnOf o.z + 1) % 65536 ∧ next.cores = [0] ∧ 0 < groupsOf next ∧ next.serial ≠ o.serial) ∧
    ({ s0 with pavs := [(0, { Pavilion.fresh with halting := true })] } : State).pav (pavOfCore 0) = { Pavilion.fresh with halting := true } := by decide

/-- An instruction of two engines, on cores 0 and 1. -/
def opG (kind : EngineKind) (steps : Nat) : EngineOp := { opE kind 7 steps with rows := 2, cols := 1, cores := [0, 1], frames := [(0, 64), (0, 64)] }
def dG (r : Option EngineRun) (groups : Nat) : CoreData := { CoreData.fresh with run := r, groups := groups, queue := if r.isNone then [opG .zero 0] else [] }
def sGr (now : Nat) (a b : CoreData) : State := { s0 with now := now, cores := [(0, { Core.fresh with data := a }), (1, { Core.fresh with data := b })] }

def rG : EngineRun := runE (opG .steps 2) false
def sGs : State := sGr 120 (dG (some rG) 1) (dG (some rG) 1)

theorem test_grid_pieces : ∀ p < 2, (stepPiece sGs rG p).2 = false := by
  have ha : ∀ c f b n i, c < 2 → aVal sGs rG.op { core := c, frame := f, base := b, st := n } i = fun _ => .fin false 0 0 := by
    intro c f b n i hc
    rcases (by omega : c = 0 ∨ c = 1) with rfl | rfl <;> exact funext fun _ => rfl
  have hb : ∀ c f b n i q, c < 2 → bVal sGs rG.op { core := c, frame := f, base := b, st := n } i q = .fin false 0 0 := by
    intro c f b n i q hc
    rcases (by omega : c = 0 ∨ c = 1) with rfl | rfl <;> rfl
  have hc : ∀ j, rG.op.cores.getD j 0 < 2 := by
    intro j
    rcases j with _ | _ | j <;> simp [rG, runE, opG]
  simp only [stepPiece, ha _ _ _ _ _ (hc _), hb _ _ _ _ _ _ (hc _)]
  decide +kernel

theorem test_grids :
    (opG .zero 0).cores.Nodup ∧ 2 ≤ (opG .zero 0).cores.length ∧ (opG .zero 0).cores.length = (opG .zero 0).rows * (opG .zero 0).cols ∧
    (∀ x ∈ (opG .zero 0).cores, ((sGr 0 (dG none 0) (dG none 0)).pav (pavOfCore x)).halting = false) ∧
    ((sGr 0 (dG none 0) { dG none 0 with asn := [(3, 1)] }).core 1).data.asnOf 3 ≠ (opG .zero 0).e ∧
    (let o := opG .steps 2
     let r := runE o false
     let s := sGr 120 (dG (some r) 1) (dG (some r) 1)
     (∀ x ∈ o.cores, (s.core x).data.run = some r ∧ groupsOf o ≤ (s.core x).data.groups ∧ enginePoison s r = none ∧ r.since + stepCycles o ≤ s.now) ∧
     0 + 1 < o.steps ∧ 119 < r.since + stepCycles o) ∧
    (let o := opG .zero 0
     let r := runE o false
     let s := sGr 4 (dG (some r) 0) (dG (some r) 0)
     ∀ x ∈ o.cores, (s.core x).data.run = some r ∧ groupsOf o ≤ (s.core x).data.groups ∧ r.since + 4 ≤ s.now ∧ (s.core x).data.parts = []) := by decide +kernel

theorem test_step_values :
    (Fmt.f32.value 0 = .fin false 0 (-149)) ∧ (-300 ≤ (0 : Int) + 0) ∧ (Fmt.f32.value 0x7FC00000).isNan = true ∧ 0xFFFF < 2 ^ 16 ∧ 0xFF < 256 := by decide

/-! #### Strikes and containment -/

/-- Core 1 has read what core 0 holds; both have a provisional state. -/
def snapR : CoreSnap := { snapS with core := 1, ents := [], waves := [], blocks := [] }
def sLk : State := { sZ with links := [(1, 0, 0)], hist := [snapS, snapR] }

theorem test_linked_cores :
    strikeIdle sLk 0 = false ∧ sLk.links = [(1, 0, 0)] ∧ sLk.now < 0 + 256 ∧ (sLk.core 0).crossed = [] ∧ (sLk.core 1).crossed = [] ∧ sLk.packets = [] ∧
    (snapsOf sLk 0).getLast? = some snapS ∧ (snapsOf sLk 1).getLast? = some snapR := by decide

/-- The gang of entity 0 has sent a committing operation that the rollback would undo. -/
def sCr : State :=
  { sZ with
    gangs := [(0, placedGang)]
    cores := [(0, { (sZ.core 0) with crossed := [{ ent := 0, serial := 1, gang := 0, ie := true, iex := false }] })] }

theorem test_refused_rollback :
    strikeIdle sCr 0 = false ∧ sCr.links = [] ∧ (snapsOf sCr 0).getLast? = some snapS ∧ look sCr.ents 0 = some e0 ∧ gangOfWave sCr e0.wave = some 0 ∧
    (∃ x ∈ (sCr.core 0).crossed, snapS.serial ≤ x.serial ∧ sent sCr 0 x.ent x.serial = true) ∧
    (∀ x ∈ (sCr.core 0).crossed, snapS.serial ≤ x.serial → sent sCr 0 x.ent x.serial = true → x.gang = 0) := by decide +kernel

/-- A granule poisoned by a storage error, or not yet; launches that are ANYTIME. -/
def lAny : Launch := { lU with record := { lU.record with anytime := true } }

theorem test_containment_clauses :
    (granuleOf 0 e0 1 0x47 = some (.scratch 0 0x40) ∧ granuleOf 0 e0 4 0x47 = some (.memory 0x40) ∧ granuleOf 0 e0 5 0x47 = some (.orangery 0x40)) ∧
    (Poison.scratch 0 0x40 ∈ ({ s0 with poison := [.scratch 0 0x40] } : State).poison ∧ Poison.scratch 0 0x40 ∉ s0.poison) ∧
    (let s : State := { sQ (gangQ 2 false) with launches := [(0, lAny)] }
     gangOfWave s e0.wave = some 0 ∧ look s.gangs 0 = some (gangQ 2 false) ∧ look s.launches 0 = some lAny ∧ lAny.record.anytime = true ∧ (gangQ 2 false).relaunch < 3 ∧
     lAny.cutting = none ∧ s.packets = [] ∧ (∀ x ∈ s.ents, x.2.level = false) ∧ nmapWf s.waves = true ∧ nmapWf s.ents = true) ∧
    (ringFull s0 3 = true ∧ ringFull { s0 with ctl := { Ctl.reset with rings := [(3, { base := 0, size := 16, head := 0, tail := 0 })] } } 3 = false) := by
  decide +kernel

/-! #### Dispatch -/

theorem test_signal_clocks :
    (look (sPost false .done).ctl.sigClock 5 = none ∧ ((sPost false .done).die 0).opened = [] ∧ appliedEverywhere (sPost false .done) ((List.range 8).map (lastEpoch (sPost false .done))) = true) ∧
    (let s : State := { sPost false .done with ctl := { (sPost false .done).ctl with sigClock := [(5, [1])] } }
     look s.ctl.sigClock 5 ≠ none ∧ appliedEverywhere s [1] = false) ∧
    (({ sPost false .done with dies := [(0, { Die.fresh with opened := [writeE 64], openAt := some 0 })] } : State).die 0).opened ≠ [] := by decide

/-- A pavilion that is being halted for nobody any more, one whose launch is being cut, and a swapped-out gang of a launch that is being cut. -/
theorem test_halting_pavilions :
    (let s : State := { sNo [] with launches := [], pavs := [(0, { Pavilion.fresh with halting := true })] }
     firstRequest s = none ∧ (s.pav 0).halting = true) ∧
    pavCutting (sNo []) 0 = false ∧
    pavCutting { sNo [] with launches := [(0, { lG 1 [] with phase := .running, nextGang := 1, cutting := some .cut })] } 0 = true ∧
    contextCutting (sCtx false) (contextC false) = false ∧
    contextCutting { sCtx false with launches := [(0, { lU with cutting := some .cut })] } (contextC false) = true := by decide +kernel

theorem test_epoch_order :
    (let x := epochH 0 [1, 1]
     (∀ y < 8, covers (s0.die y).clock (setNth x.stamp 0 (x.stamp.getD 0 0 - 1)) = true) = false) ∧
    (∀ y < 8, covers (s0.die y).clock (setNth (epochH 0 [1]).stamp 0 ((epochH 0 [1]).stamp.getD 0 0 - 1)) = true) := by decide

/-- Parameters out of their ranges (R302). -/
theorem test_bad_parameters :
    (512 ≤ 512 ∧ 4096 ≤ 4096 ∧ 8 < 9 ∧ 2 < 3 ∧ 2 ^ 24 ≤ 2 ^ 24 ∧ 4095 % 4096 ≠ 0) ∧ (7 < 8 ∧ 64 < 72 ∧ 12 % 8 ≠ 0) ∧ (4 ≤ 4 ∧ 4 < 5 ∧ 32 ≤ 32) ∧
    (1024 ≤ 1024 ∧ 4 % 8 ≠ 0 ∧ 2 ^ 30 ≤ 2 ^ 30) ∧ (8 ≤ 8 ∧ 64 ≤ 64) ∧ 2 ≤ 2 ∧ (3 < 4 ∧ 16 < 17) := by decide
end Sys2Proof.Tests
end

/-! SUPPORT. O60: every word and every device step keeps the memories canonical (assumption 2), meaning by meaning over the frames of
Laws/Frames.lean, and with them every step of the schedule. -/

namespace Sys2Proof.Laws

open Sys2Proof Sys2Proof.Machine

/-! ### Meanings that keep the memories canonical -/

/-- A meaning that answers canonical memories wherever it finds canonical memories. -/
def KeepsCanonical (f : State → Out) : Prop := ∀ s t : State, Safety.canonical s → f s = .next t → Safety.canonical t

@[simp] theorem canonical_iff {s : State} : Safety.canonical s ↔ memWf s.mem = true ∧ memWf s.orangery = true := Iff.rfl
@[simp] theorem kept_done_iff {s : State} : Kept (.done s) ↔ Safety.canonical s := Iff.rfl
@[simp] theorem kept_left_iff {s : State} : Kept (.left s) ↔ Safety.canonical s := Iff.rfl
@[simp] theorem kept_stall : Kept .stall := trivial
@[simp] theorem kept_trap (t : Trap) : Kept (.trap t) := trivial

/-- An effect that may have to wait first. -/
theorem kept_unlessStalled {p : Prop} [Decidable p] {r : Res} (h : Kept r) : Kept (if p then .stall else r) := by
  split
  · exact kept_stall
  · exact h

/-- Two states with the same memories are canonical together. -/
theorem canonical_of_same {s t : State} (h : Safety.canonical s) (ht : t.mem = s.mem ∧ t.orangery = s.orangery) : Safety.canonical t := by
  rw [Safety.canonical, ht.1, ht.2]; exact h

theorem getD_canonical {o : Option State} {s : State} (hs : Safety.canonical s) (ho : ∀ t, o = some t → Safety.canonical t) :
    Safety.canonical (o.getD s) := by
  cases o with
  | none => exact hs
  | some t => exact ho t rfl

theorem foldl_canonical {β : Type} {f : State → β → State} (l : List β) {s : State} (hs : Safety.canonical s)
    (hf : ∀ s x, Safety.canonical s → Safety.canonical (f s x)) : Safety.canonical (l.foldl f s) := foldl_keeps f l s hf hs

/-- A device step, which always answers a next state. -/
theorem keeps_next {g : State → State} (h : ∀ s, Safety.canonical s → Safety.canonical (g s)) : KeepsCanonical (fun s => .next (g s)) := by
  intro s t hs ht
  cases ht
  exact h s hs

/-- A word, whose effect decides. -/
theorem keeps_issue {sh : Shape} {chk : Ctx → List Trap} {act : Ctx → Res} (ha : ∀ c, Safety.canonical c.s → Kept (act c)) :
    KeepsCanonical (issue sh chk act) := fun _ _ h hs => issue_canonical ha h hs

theorem keeps_regWord {sh : Shape} {chk : Ctx → List Trap} {f : Ctx → Entity × Wave} : KeepsCanonical (regWord sh chk f) :=
  fun _ _ h hs => regWord_canonical h hs

@[simp] theorem ctx_withState_s (c : Ctx) (s : State) : (c.withState s).s = s := rfl
@[simp] theorem ctx_progressed_s (c : Ctx) : c.progressed.s = c.s := rfl
@[simp] theorem noteReleased_mem (s : State) (k d : Nat) : (noteReleased s k d).mem = s.mem := modEnt_mem ..
@[simp] theorem noteReleased_orangery (s : State) (k d : Nat) : (noteReleased s k d).orangery = s.orangery := modEnt_orangery ..

/-! ### Words that reach global memory and the Orangery -/

/-- Lane-wise writes and atomics, sent line by line, leave both memories until their homes perform them. -/
theorem eachLine_globalWord_kept {c : Ctx} {n : Need} {as : List LaneAcc} {f : State → LaneAcc → Nat → State} (h : Safety.canonical c.s)
    (hm : ∀ s a x, (f s a x).mem = s.mem) (ho : ∀ s a x, (f s a x).orangery = s.orangery) : Kept (globalWord c n true as (eachLine f)) :=
  globalWord_kept h (fun s l => (eachLine_mems hm ho s l).1) (fun s l => (eachLine_mems hm ho s l).2)

theorem releasing_kept {c : Ctx} {q : Bool} {f : Ctx → Res} (h : Safety.canonical c.s) (hf : ∀ c, Safety.canonical c.s → Kept (f c)) :
    Kept (releasing c q f) := by
  unfold releasing
  split
  · exact afterRelease_kept h hf
  · exact hf c h

theorem atomicWord_keeps {vec e : Bool} {d a b : Reg} {q : BitVec 2} {op : BitVec 4} {addrs : Ctx → List LaneAcc} :
    KeepsCanonical (atomicWord vec e d a b q op addrs) := by
  have hg : ∀ c : Ctx, Safety.canonical c.s →
      Kept (globalWord c .atomic true (addrs c) (eachLine (sendAtomic c d op.toNat (decide (q.toNat % 2 = 1))))) :=
    fun c h => eachLine_globalWord_kept h (fun _ _ _ => sendAtomic_mem ..) (fun _ _ _ => sendAtomic_orangery ..)
  refine keeps_issue fun c h => ?_
  dsimp only
  split
  · exact afterRelease_kept h hg
  · exact hg c h

theorem orngWord_keeps {e : Bool} {ops : List Operand} {dst : Nat} {ord : List Nat} {chk : Ctx → List Trap} {act : Ctx → State}
    (ha : ∀ c, Safety.canonical c.s → Safety.canonical (act c)) : KeepsCanonical (orngWord e ops dst ord chk act) := by
  refine keeps_issue fun c h => kept_unlessStalled ?_
  split
  · exact afterRelease_kept h ha
  · exact ha c h

theorem futureLoad_kept {c : Ctx} {d : Reg} {ok : List (LaneAcc × Nat)} {u : List LaneAcc} (h : Safety.canonical c.s) :
    Kept (futureLoad c d ok u) := by
  unfold futureLoad
  dsimp only
  (repeat' split) <;> simp [h]

theorem execFld_keeps (e : Bool) {d a b : Reg} : KeepsCanonical (execFld e d a b) := by
  refine keeps_issue fun c h => kept_unlessStalled (futureLoad_kept ?_)
  simpa using h

/-! ### Scratchpad words -/

theorem laneSpadLoad_keeps {gang e : Bool} {d a b : Reg} {t p : BitVec 3} : KeepsCanonical (laneSpadLoad gang e d a b t p) := by
  refine keeps_issue fun c h => kept_unlessStalled ?_
  dsimp only
  split <;> simp [h]

theorem laneSpadStore_keeps {gang e : Bool} {d a b : Reg} {t p : BitVec 3} : KeepsCanonical (laneSpadStore gang e d a b t p) :=
  keeps_issue fun c h => kept_unlessStalled (by simp [h])

theorem scalarSpadLoad_keeps {gang e : Bool} {d a b : Reg} {q : Bool} {t : BitVec 3} : KeepsCanonical (scalarSpadLoad gang e d a b q t) := by
  refine keeps_issue fun c h => kept_unlessStalled ?_
  dsimp only
  (repeat' split) <;> simp [h]

theorem scalarSpadStore_keeps {gang e : Bool} {d a b : Reg} {q : Bool} {t : BitVec 3} : KeepsCanonical (scalarSpadStore gang e d a b q t) := by
  refine keeps_issue fun c h => kept_unlessStalled ?_
  dsimp only
  split
  · exact afterRelease_kept h fun c h => by simp [h]
  · simp [h]

/-! ### Control words, fences -/

theorem jumpReg_keeps {a : Reg} : KeepsCanonical (jumpReg a) := keeps_issue fun _ h => h

theorem execVbr_keeps {k : BitVec 3} {toff koff : BitVec 11} : KeepsCanonical (execVbr k toff koff) := by
  refine keeps_issue fun c h => ?_
  dsimp only
  split
  · exact h
  · split
    · exact h
    · exact kept_unlessStalled (by simp [h])

theorem reconverge_kept {c : Ctx} (h : Safety.canonical c.s) : Kept (reconverge c) := by
  unfold reconverge
  dsimp only
  (repeat' split) <;> simp [h]

theorem barrier_keeps {p : Park} : KeepsCanonical (barrier p) := keeps_issue fun c h => kept_unlessStalled (by simp [h])

theorem tagWait_keeps {any : Bool} {a : Reg} : KeepsCanonical (tagWait any a) := by
  refine keeps_issue fun c h => ?_
  split <;> exact h

theorem execFence_keeps {e : Bool} {kind : BitVec 2} {scope : BitVec 3} : KeepsCanonical (execFence e kind scope) := by
  refine keeps_issue fun c h => ?_
  split
  · exact afterRelease_kept h fun d hd => by split <;> simp [hd]
  · split <;> simp [h]

/-! ### Copy and engine words -/

theorem copyWord_keeps {gather e : Bool} {t a b : Reg} : KeepsCanonical (copyWord gather e t a b) := by
  refine keeps_issue fun c h => kept_unlessStalled ?_
  dsimp only
  split
  · simp [h]
  · exact kept_unlessStalled (afterRelease_kept h fun c h => by simp [h])

@[simp] theorem rememberGrid_mem (s : State) (core : Nat) (o : EngineOp) : (rememberGrid s core o).mem = s.mem := by
  unfold rememberGrid; split <;> rfl
@[simp] theorem rememberGrid_orangery (s : State) (core : Nat) (o : EngineOp) : (rememberGrid s core o).orangery = s.orangery := by
  unfold rememberGrid; split <;> rfl

theorem engineWord_keeps {e : Bool} {ops : List Operand} {dst : Nat} {acc : Accept} {f : Ctx → EngineIssue} :
    KeepsCanonical (engineWord e ops dst acc f) := by
  refine keeps_issue fun c h => kept_unlessStalled ?_
  split
  · simp [h]
  · refine kept_done_iff.mpr (foldl_canonical (s := linkGrid _ _) _ ?_ fun _ _ h => by simpa using h)
    simp [h]

/-! ### Words on result objects -/

theorem execPass_keeps (e : Bool) {d a : Reg} : KeepsCanonical (execPass e d a) := by
  refine keeps_issue fun c h => ?_
  split
  · exact kept_stall
  · exact kept_unlessStalled (by simp [h])

theorem execSeal_keeps {e : Bool} {a b : Reg} : KeepsCanonical (execSeal e a b) := by
  refine keeps_issue fun c h => ?_
  split
  · exact kept_stall
  · exact kept_unlessStalled (afterRelease_kept h fun c h => by simp [h])

theorem readerWord_keeps {e : Bool} {ops : List Operand} {chk : Ctx → List Trap} {a : Reg} {commit : Bool} {kind : Ctx → PassKind} :
    KeepsCanonical (readerWord e ops chk a commit kind) := by
  refine keeps_issue fun c h => kept_unlessStalled ?_
  cases commit <;> simp [h]

theorem qwaitWord_keeps {ops : List Operand} {d a : Reg} {test : Ctx → Nat → Bool} : KeepsCanonical (qwaitWord ops d a test) := by
  refine keeps_issue fun c h => ?_
  (repeat' split) <;> simp [h]

/-! ### Tasks, generators, remote invocation -/

theorem execSpawn_keeps {e : Bool} {k : BitVec 3} {a : Reg} {o : BitVec 16} : KeepsCanonical (execSpawn e k a o) := by
  refine keeps_issue fun c h => ?_
  split
  · exact h
  · exact kept_unlessStalled (afterRelease_kept h fun c h => by simp [h])

theorem execJoin_keeps (e : Bool) {a : Reg} : KeepsCanonical (execJoin e a) := by
  refine keeps_issue fun c h => kept_unlessStalled ?_
  (repeat' split) <;> simp [h]

theorem execCwait_keeps (e : Bool) {a b : Reg} : KeepsCanonical (execCwait e a b) := by
  refine keeps_issue fun c h => kept_unlessStalled ?_
  (repeat' split) <;> simp [h]

theorem execYld_keeps {e : Bool} {a b : Reg} : KeepsCanonical (execYld e a b) := by
  refine keeps_issue fun c h => ?_
  dsimp only
  (repeat' split) <;> simp [h]

theorem execGchk_keeps {e : Bool} : KeepsCanonical (execGchk e) := by
  refine keeps_issue fun c h => ?_
  dsimp only
  (repeat' split) <;> simp [h]

theorem execGret_keeps : KeepsCanonical execGret := by
  refine keeps_issue fun c h => ?_
  dsimp only
  (repeat' split) <;> simp [h]

theorem execGend_keeps : KeepsCanonical execGend := by
  refine keeps_issue fun c h => ?_
  dsimp only
  (repeat' split) <;> simp [h]

theorem execRinv_keeps {e : Bool} {d a b : Reg} : KeepsCanonical (execRinv e d a b) := by
  refine keeps_issue fun c h => ?_
  dsimp only
  split
  · exact h
  · refine kept_unlessStalled ?_
    split
    · exact afterRelease_kept h fun c h => by simp [h]
    · simp [h]

theorem execWsend_keeps {e : Bool} {a b : Reg} : KeepsCanonical (execWsend e a b) := by
  refine keeps_issue fun c h => kept_unlessStalled ?_
  split
  · exact afterRelease_kept h fun c h => by simp [h]
  · simp [h]

/-! ### Steps of copies and engines -/

theorem copyRows_same (core n : Nat) (s : State) (x : Copy) :
    (copyRows core n s x).1.mem = s.mem ∧ (copyRows core n s x).1.orangery = s.orangery := by
  induction n generalizing s x with
  | zero => exact ⟨rfl, rfl⟩
  | succ n ih =>
    simp only [copyRows]
    (repeat' split) <;> simp [ih]

theorem execCopyComplete_keeps {core k : Nat} : KeepsCanonical (execCopyComplete core k) := by
  refine keeps_next fun s h => ?_
  have hr := fun n x => copyRows_same core n (remember s core) x
  dsimp only
  (repeat' split) <;> simp [hr, h]

theorem execCopyPageFaultPark_keeps {core k : Nat} : KeepsCanonical (execCopyPageFaultPark core k) := by
  refine keeps_next fun s h => ?_
  have hr := fun n x => copyRows_same core n (remember s core) x
  dsimp only
  (repeat' split) <;> simp [hr, h]

theorem grantGroups_same {s t : State} {core n : Nat} (h : grantGroups s core n = some t) : t.mem = s.mem ∧ t.orangery = s.orangery := by
  unfold grantGroups at h
  dsimp only at h
  split at h
  · cases h
  · cases h; simp

theorem execMatrixStart_keeps {core : Nat} : KeepsCanonical (execMatrixStart core) := by
  refine keeps_next fun s h => ?_
  have hg : ∀ n, Safety.canonical ((grantGroups s core n).getD s) :=
    fun n => getD_canonical h fun t ht => canonical_of_same h (grantGroups_same ht)
  dsimp only
  (repeat' split)
  any_goals exact h
  · simp [h]
  · exact hg _
  · simp [h]
  · rename_i hs
    simp [grantGroups_same hs, h]

theorem execMatrixQueueArrival_keeps {core : Nat} : KeepsCanonical (execMatrixQueueArrival core) := by
  refine keeps_next fun s h => ?_
  dsimp only
  (repeat' split) <;> simp [h]

theorem execMatrixRelease_keeps {core : Nat} : KeepsCanonical (execMatrixRelease core) := by
  refine keeps_next fun s h => ?_
  dsimp only
  (repeat' split) <;> simp [h]

theorem stepVerdict_canonical {s : State} {core : Nat} {r : EngineRun} {pieces : List ((Nat → Nat → Word) × Bool)} (h : Safety.canonical s) :
    Safety.canonical (stepVerdict s core r pieces) := by
  unfold stepVerdict
  dsimp only
  generalize hm : List.foldl (fun s x => markCore s x 3) s _ = marked
  have hc : Safety.canonical marked := hm ▸ foldl_canonical _ h fun _ _ h => h
  (repeat' split)
  · simp [h]
  · simp [h]
  · simp [hc]
  · simp [hc]

theorem execMatrixStepEnd_keeps {core : Nat} : KeepsCanonical (execMatrixStepEnd core) := by
  refine keeps_next fun s h => ?_
  (repeat' split)
  any_goals exact h
  · simp [h]
  · exact stepVerdict_canonical (by simpa using h)

theorem execMatrixComplete_keeps {core : Nat} : KeepsCanonical (execMatrixComplete core) := by
  refine keeps_next fun s h => ?_
  (repeat' split)
  any_goals exact h
  · simp [h]
  · simp [h]
  · exact foldl_canonical _ (by simpa using h) fun _ _ h => by simpa using h

theorem execEngineQueueWatchdog_keeps {core k : Nat} : KeepsCanonical (execEngineQueueWatchdog core k) := by
  refine keeps_next fun s h => ?_
  (repeat' split)
  · exact h
  · exact h
  · rename_i o _ _
    have hc : ∀ f : EngineOp → EngineOp, Safety.canonical (o.cores.foldl (fun s x => let d := (s.core x).data
        s.setData x { d with queue := d.queue.map f }) s) := fun f => foldl_canonical _ h fun _ _ h => by simpa using h
    simp [hc]

/-! ### Steps of homes, banks and epochs -/

theorem execEpochTimeout_keeps {die : Nat} : KeepsCanonical (execEpochTimeout die) := by
  refine keeps_next fun s h => ?_
  (repeat' split) <;> simp [h]

theorem execEpochApply_keeps {die src : Nat} : KeepsCanonical (execEpochApply die src) := by
  refine keeps_next fun s h => ?_
  dsimp only
  (repeat' split) <;> simp [h]

theorem execHostEpochAck_keeps {die : Nat} : KeepsCanonical (execHostEpochAck die) := by
  refine keeps_next fun s h => ?_
  dsimp only
  (repeat' split)
  · exact foldl_canonical _ (by simpa using h) fun _ _ h => by simp [h]
  · exact h
  · exact h

theorem execIcinvComplete_keeps {k : Nat} : KeepsCanonical (execIcinvComplete k) := by
  refine keeps_next fun s h => ?_
  dsimp only
  (repeat' split) <;> simp [h]

@[simp] theorem bankWrite_mem (s : State) (d ent w serial off : Nat) : (bankWrite s d ent w serial off).mem = s.mem := rfl
@[simp] theorem bankWrite_orangery (s : State) (d ent w serial off : Nat) : (bankWrite s d ent w serial off).orangery = s.orangery := rfl
@[simp] theorem bankMark_mem (s : State) (m : PassMsg) (off : Nat) : (bankMark s m off).mem = s.mem := by
  unfold bankMark; split <;> rfl
@[simp] theorem bankMark_orangery (s : State) (m : PassMsg) (off : Nat) : (bankMark s m off).orangery = s.orangery := by
  unfold bankMark; split <;> rfl

theorem atBank_keeps {k : Nat} {f : State → PassMsg → Nat → Option State}
    (hf : ∀ s m off t, Safety.canonical s → f s m off = some t → Safety.canonical t) : KeepsCanonical (fun s => atBank s k f) := by
  refine keeps_next fun s h => ?_
  dsimp only
  (repeat' split)
  · exact h
  · exact getD_canonical h fun t ht => hf _ _ _ t (by simpa using h) ht
  · exact h

theorem execBankPass_keeps {k : Nat} : KeepsCanonical (execBankPass k) := atBank_keeps fun s m off t h ht => by
  split at ht <;> cases ht
  simp [h]

theorem execBankSeal_keeps {k : Nat} : KeepsCanonical (execBankSeal k) := atBank_keeps fun s m off t h ht => by
  (repeat' split at ht) <;> cases ht
  simp [h]

theorem execBankVget_keeps {k : Nat} : KeepsCanonical (execBankVget k) := atBank_keeps fun s m off t h ht => by
  split at ht <;> cases ht
  simp [h]

theorem execBankVpin_keeps {k : Nat} : KeepsCanonical (execBankVpin k) := atBank_keeps fun s m off t h ht => by
  split at ht <;> cases ht
  simp [h]

theorem execBankVrel_keeps {k : Nat} : KeepsCanonical (execBankVrel k) := atBank_keeps fun s m off t h ht => by
  split at ht <;> cases ht
  simp [h]

theorem execBankOperation_keeps {k : Nat} : KeepsCanonical (execBankOperation k) := by
  refine keeps_next fun s h => ?_
  dsimp only
  (repeat' split) <;> simp [h]

theorem execHomeOperation_keeps {k : Nat} : KeepsCanonical (execHomeOperation k) := by
  refine keeps_next fun s h => ?_
  dsimp only
  (repeat' split)
  · exact h
  · simp [h]
  · have hc : ∀ (o : HomeOp) q, Safety.canonical ((s.homeQ.filter (sameAccess o)).foldl homeEffect (markSent { s with homeQ := q } o.core)) :=
      fun o q => foldl_canonical _ (by simpa using h) fun _ _ h => by simp [h]
    simpa using hc _ _
  · exact h

theorem execGlobalAccessResponse_keeps {k : Nat} : KeepsCanonical (execGlobalAccessResponse k) := by
  refine keeps_next fun s h => ?_
  dsimp only
  (repeat' split) <;> simp [h]

theorem execStrikeBufferSend_keeps {core : Nat} : KeepsCanonical (execStrikeBufferSend core) := by
  refine keeps_next fun s h => ?_
  dsimp only
  (repeat' split)
  · exact h
  · have hc : ∀ (l : List HeldWrite) d, Safety.canonical (l.foldl (fun s x => sendHeld s core x) (s.setData core d)) :=
      fun l d => foldl_canonical _ (by simpa using h) fun _ _ h => by simpa using h
    simpa using hc _ _
  · exact h

theorem execBankAnswer_keeps {k : Nat} : KeepsCanonical (execBankAnswer k) := by
  refine keeps_next fun s h => ?_
  dsimp only
  (repeat' split) <;> simp [h]

theorem execObjectClose_keeps {launch k : Nat} : KeepsCanonical (execObjectClose launch k) := by
  refine keeps_next fun s h => ?_
  (repeat' split) <;> simp [h]

theorem execObjectDrop_keeps {launch k : Nat} : KeepsCanonical (execObjectDrop launch k) := by
  refine keeps_next fun s h => ?_
  dsimp only
  (repeat' split) <;> simp [h]

/-! ### Steps of bins, receive queues and windows -/

theorem execBinLaunch_keeps {pav bin : Nat} : KeepsCanonical (execBinLaunch pav bin) :=
  keeps_next fun _ h => getD_canonical h fun _ ht => canonical_of_same h (launchBin_same ht)

theorem execSpillRingDrain_keeps {tree : Nat} : KeepsCanonical (execSpillRingDrain tree) := by
  refine keeps_next fun s h => ?_
  dsimp only
  (repeat' split)
  · exact h
  · rename_i hb
    simp [binChild_same hb, h]
  · exact h

theorem binPacket_same {s t : State} {pav : Nat} {d : Handler} {p : Packet} (h : binPacket s pav d p = some t) :
    t.mem = s.mem ∧ t.orangery = s.orangery := by
  unfold binPacket at h
  obtain ⟨m, -, rfl⟩ := Option.map_eq_some_iff.mp h
  exact ⟨rfl, rfl⟩

theorem feedFrom_same {s t : State} {prio : Nat} (h : feedFrom s prio = some t) : t.mem = s.mem ∧ t.orangery = s.orangery := by
  unfold feedFrom at h
  (repeat' split at h) <;> try cases h
  obtain ⟨u, hu, rfl⟩ := Option.map_eq_some_iff.mp h
  exact ⟨(binPacket_same hu).1, (binPacket_same hu).2⟩

theorem feedFirst_same {s t : State} {l : List Nat} (h : feedFirst s l = some t) : t.mem = s.mem ∧ t.orangery = s.orangery := by
  induction l with
  | nil => cases h
  | cons p r ih =>
    simp only [feedFirst] at h
    split at h
    · cases h
      exact feedFrom_same ‹_›
    · exact ih h

theorem execReceiveQueueFeed_keeps : KeepsCanonical execReceiveQueueFeed := by
  refine keeps_next fun s h => ?_
  split
  · have hc := canonical_of_same h (feedFirst_same ‹_›)
    split <;> exact hc
  · exact h

theorem execRinvPacketArrival_keeps {src : Arrival} : KeepsCanonical (execRinvPacketArrival src) := by
  refine keeps_next fun s h => ?_
  dsimp only
  (repeat' split) <;> simp [h]

theorem execRinvStatusReturn_keeps {k status : Nat} : KeepsCanonical (execRinvStatusReturn k status) := by
  refine keeps_next fun s h => ?_
  dsimp only
  (repeat' split) <;> simp [h]

@[simp] theorem noteAck_mem (s : State) (a : AckMsg) : (noteAck s a).mem = s.mem := by unfold noteAck; split <;> simp
@[simp] theorem noteAck_orangery (s : State) (a : AckMsg) : (noteAck s a).orangery = s.orangery := by unfold noteAck; split <;> simp

theorem execRetirementAck_keeps {k : Nat} {failed : Bool} : KeepsCanonical (execRetirementAck k failed) := by
  refine keeps_next fun s h => ?_
  dsimp only
  (repeat' split) <;> simp [h]

theorem execWsendArrival_keeps {win off : Nat} {data : List Byte} : KeepsCanonical (execWsendArrival win off data) := by
  refine keeps_next fun s h => ?_
  dsimp only
  (repeat' split) <;> simp [h]

theorem execWsendAck_keeps {k : Nat} : KeepsCanonical (execWsendAck k) := by
  refine keeps_next fun s h => ?_
  (repeat' split) <;> simp [h]

theorem execWsendFailure_keeps {k : Nat} : KeepsCanonical (execWsendFailure k) := by
  refine keeps_next fun s h => ?_
  (repeat' split) <;> simp [h]

/-! ### Steps of entities -/

theorem fetchWord_same {s t : State} {core asid va : Nat} {w : Word} (h : fetchWord s core asid va = .word t w) :
    t.mem = s.mem ∧ t.orangery = s.orangery := by
  unfold fetchWord at h
  dsimp only at h
  (repeat' split at h) <;> cases h
  · exact ⟨rfl, rfl⟩
  · simp

theorem gatherRun_canonical (core asid n : Nat) {s : State} (va : Nat) (h : Safety.canonical s) :
    Safety.canonical (gatherRun core asid n s va).1 := by
  induction n generalizing s va with
  | zero => exact h
  | succ n ih =>
    simp only [gatherRun]
    split
    · have hc := canonical_of_same h (fetchWord_same ‹_›)
      split
      · exact hc
      · exact ih _ hc
    · exact h

theorem execRunFetch_keeps {ent : Nat} : KeepsCanonical (execRunFetch ent) := by
  refine keeps_next fun s h => ?_
  split
  · exact h
  · rename_i e _
    have hr := gatherRun_canonical (coreOfKey ent) (((look s.waves e.wave).map (fun v => v.asid)).getD 0) (Config.runLength - e.words) e.pc.toNat h
    dsimp only
    generalize gatherRun _ _ _ s _ = r at hr ⊢
    (repeat' split)
    · exact h
    all_goals simp [hr.1, hr.2]

theorem execRunArbitration_keeps {core slot : Nat} : KeepsCanonical (execRunArbitration core slot) := by
  refine keeps_next fun s h => ?_
  (repeat' split) <;> simp [h]

theorem execAsyncTrapDelivery_keeps {ent : Nat} : KeepsCanonical (execAsyncTrapDelivery ent) := by
  refine keeps_next fun s h => ?_
  dsimp only
  (repeat' split) <;> simp [h]

theorem execIssueStallWatchdog_keeps {ent : Nat} : KeepsCanonical (execIssueStallWatchdog ent) := by
  refine keeps_next fun s h => ?_
  (repeat' split) <;> simp [h]

theorem ringPush_canonical {s : State} {r : Nat} {l : List Byte} (h : Safety.canonical s) : Safety.canonical (ringPush s r l) :=
  ⟨ringPush_memWf _ _ _ h.1, by rw [ringPush_orangery]; exact h.2⟩

theorem execFaultRecordWrite_keeps {die : Nat} : KeepsCanonical (execFaultRecordWrite die) := by
  refine keeps_next fun s h => ?_
  split
  · exact h
  · split
    · exact h
    · split
      · exact h
      · refine ringPush_canonical ?_
        split
        · exact canonical_of_same h ⟨modGang_mem .., modGang_orangery ..⟩
        · exact h

theorem execDrainComplete_keeps {ent : Nat} : KeepsCanonical (execDrainComplete ent) := by
  refine keeps_next fun s h => ?_
  dsimp only
  (repeat' split) <;> simp [h]

theorem execParentSpill_keeps {ent : Nat} : KeepsCanonical (execParentSpill ent) := by
  refine keeps_next fun s h => ?_
  dsimp only
  (repeat' split) <;> simp [h]

theorem execParentRestore_keeps {k : Nat} : KeepsCanonical (execParentRestore k) := by
  refine keeps_next fun s h => ?_
  dsimp only
  (repeat' split) <;> simp [h]

/-! ### Strikes, containment, self-test, heat -/

theorem execStrikeReport_keeps {core : Nat} : KeepsCanonical (execStrikeReport core) := by
  refine keeps_next fun s h => ?_
  dsimp only
  (repeat' split)
  · simpa using h
  · exact foldl_canonical _ (by simpa using h) fun _ _ h => by simpa using h
  · exact foldl_canonical _ (by simpa using h) fun _ _ h => by simp [h]

@[simp] theorem newPoison_mem (s : State) (ent : Nat) (e : Entity) (unit addr : Nat) : (newPoison s ent e unit addr).mem = s.mem := by
  unfold newPoison; dsimp only; (repeat' split) <;> simp
@[simp] theorem newPoison_orangery (s : State) (ent : Nat) (e : Entity) (unit addr : Nat) : (newPoison s ent e unit addr).orangery = s.orangery := by
  unfold newPoison; dsimp only; (repeat' split) <;> simp

theorem execContainment_keeps {ent cause unit addr : Nat} : KeepsCanonical (execContainment ent cause unit addr) := by
  refine keeps_next fun s h => ?_
  dsimp only
  (repeat' split)
  any_goals exact h
  · simpa using h
  · simpa using h
  · exact foldl_canonical _ h fun _ _ h => h
  · simpa using h
  · simp [h]
  · simp [h]
  · simp [h]

theorem execScrub_keeps {die : Nat} : KeepsCanonical (execScrub die) := by
  refine keeps_next fun s h => ?_
  refine foldl_canonical _ (foldl_canonical _ (foldl_canonical (s := { s with fresh := s.fresh + 1 }) _ h ?_) ?_) ?_
  · exact fun _ _ h => h
  · exact fun _ _ h => by split <;> exact h
  · exact fun _ _ h => by split <;> exact h

theorem execSelfTestVerdict_keeps {core : Nat} {pass : Bool} : KeepsCanonical (execSelfTestVerdict core pass) := by
  refine keeps_next fun s h => ?_
  dsimp only
  (repeat' split) <;> simp [h]

theorem execPathDelayMeasurementEnd_keeps {pav : Nat} {margins : List Int} : KeepsCanonical (execPathDelayMeasurementEnd pav margins) := by
  refine keeps_next fun s h => ?_
  dsimp only
  split <;> simp [h]

theorem execThermalThrottle_keeps {pavs : List Nat} : KeepsCanonical (execThermalThrottle pavs) :=
  keeps_next fun _ h => foldl_canonical _ h fun _ _ h => by simpa using h

theorem execThermalTrip_keeps : KeepsCanonical execThermalTrip := by
  refine keeps_next fun s h => ?_
  refine foldl_canonical (s := stopWaves _ _) _ (foldl_canonical (s := s) _ h ?_) ?_
  · exact fun _ _ h => by split <;> simpa using h
  · exact fun _ _ h => by simpa using h

/-! ### Steps of the dispatch cores -/

theorem execRecordTake_keeps {queue : Nat} : KeepsCanonical (execRecordTake queue) := by
  refine keeps_next fun s h => ?_
  (repeat' split) <;> simp [h]

theorem execGangPlace_keeps : KeepsCanonical execGangPlace := by
  refine keeps_next fun s h => ?_
  (repeat' split) <;> simp [h]

theorem execGangRetire_keeps {gang : Nat} : KeepsCanonical (execGangRetire gang) := by
  refine keeps_next fun s h => ?_
  (repeat' split)
  any_goals exact h
  exact foldl_canonical _ (by simpa using h) fun _ _ h => by simpa using h

theorem execTimeBudgetExhausted_keeps {launch : Nat} : KeepsCanonical (execTimeBudgetExhausted launch) := by
  refine keeps_next fun s h => ?_
  (repeat' split) <;> simp [h]

theorem execEnergyMeterInterval_keeps {mj : List Nat} : KeepsCanonical (execEnergyMeterInterval mj) := by
  refine keeps_next fun s h => ?_
  split
  · exact foldl_canonical (f := chargeLaunch s mj) _ (by simpa using h) fun _ _ h => by simpa using h
  · exact h

theorem execLaunchComplete_keeps {launch : Nat} : KeepsCanonical (execLaunchComplete launch) := by
  refine keeps_next fun s h => ?_
  (repeat' split) <;> simp [h]

theorem execCompletionPost_keeps : KeepsCanonical execCompletionPost := by
  refine keeps_next fun s h => ?_
  (repeat' split) <;> simp [h]

theorem signalRelease_same (s : State) (ring : Nat) :
    (signalRelease s ring).1.mem = s.mem ∧ (signalRelease s ring).1.orangery = s.orangery := by
  unfold signalRelease; dsimp only; (repeat' split) <;> simp

theorem execSignal_keeps {ring : Nat} : KeepsCanonical (execSignal ring) := by
  refine keeps_next fun s h => ?_
  dsimp only
  (repeat' split) <;> simp [signalRelease_same, h]

theorem execDispatchTakeover_keeps {dc : Nat} : KeepsCanonical (execDispatchTakeover dc) := by
  refine keeps_next fun s h => ?_
  dsimp only
  (repeat' split) <;> simp [h]

@[simp] theorem resumePav_mem (s : State) (pav : Nat) : (resumePav s pav).mem = s.mem := rfl
@[simp] theorem resumePav_orangery (s : State) (pav : Nat) : (resumePav s pav).orangery = s.orangery := rfl

theorem execPreemption_keeps {pav : Nat} : KeepsCanonical (execPreemption pav) := by
  refine keeps_next fun s h => ?_
  dsimp only
  (repeat' split) <;> simp [h]

theorem execContextRestore_keeps {k pav : Nat} : KeepsCanonical (execContextRestore k pav) := by
  refine keeps_next fun s h => ?_
  (repeat' split) <;> simp [h]

/-! ### Commands of the host -/

theorem command_keeps {op : Nat} {fs : CmdFields} {run : State → State × Option Nat} (hr : ∀ s, Safety.canonical s → Safety.canonical (run s).1) :
    KeepsCanonical (command op fs run) := by
  refine keeps_next fun s h => ?_
  have hc := hr (toHost s ((ringOf s 0).base + 32 * (ringOf s 0).head) (leBytes 32 (pack ((0, 16, op) :: fs)))) (by simp [h])
  split
  · exact h
  · dsimp only
    split <;> simp [hc.1, hc.2]

theorem checked_keeps {op : Nat} {fs : CmdFields} {ok : Bool} {f : State → State} (hf : ∀ s, Safety.canonical s → Safety.canonical (f s)) :
    KeepsCanonical (command op fs (checked ok f)) := by
  refine command_keeps fun s h => ?_
  unfold checked
  split
  · exact hf s h
  · exact h

theorem execAsidBind_keeps {asid fn : Nat} {sys : Bool} {root : Nat} : KeepsCanonical (execAsidBind asid fn sys root) := by
  refine command_keeps fun s h => ?_
  dsimp only
  (repeat' split) <;> exact h

theorem execTlbInval_keeps {asid base length : Nat} : KeepsCanonical (execTlbInval asid base length) := by
  refine command_keeps fun s h => ?_
  split <;> exact h

theorem execTlbInvalComplete_keeps : KeepsCanonical execTlbInvalComplete := by
  refine keeps_next fun s h => ?_
  (repeat' split) <;> simp [h]

theorem execObjCreate_keeps {asid index slots rule : Nat} {hostVis : Bool} {slotSize slotBase quality : Nat} :
    KeepsCanonical (execObjCreate asid index slots rule hostVis slotSize slotBase quality) := by
  refine command_keeps fun s h => ?_
  dsimp only
  (repeat' split) <;> simp [h]

theorem execObjDestroy_keeps {asid index : Nat} : KeepsCanonical (execObjDestroy asid index) := by
  refine command_keeps fun s h => ?_
  dsimp only
  (repeat' split) <;> exact h

theorem execDispatchRestore_keeps {dc : Nat} : KeepsCanonical (execDispatchRestore dc) := by
  refine checked_keeps fun s h => ?_
  dsimp only
  split <;> exact h

/-! ### Boot, resets, apertures -/

theorem execPowerOnReset_keeps {trainErr : Nat} {failed : List Nat} : KeepsCanonical (execPowerOnReset trainErr failed) := by
  refine keeps_next fun s h => ?_
  dsimp only
  (repeat' split)
  any_goals simpa using h
  exact reset_canonical

/-- A warm reset keeps the memory of the package and clears the Orangery. -/
theorem warmReset_canonical {s : State} (h : Safety.canonical s) : Safety.canonical (warmReset s) := ⟨h.1, rfl⟩

theorem execWarmReset_keeps {word : Nat} : KeepsCanonical (execWarmReset word) := by
  refine keeps_next fun s h => ?_
  (repeat' split)
  · exact h
  · exact warmReset_canonical h
  · exact warmReset_canonical h
  · exact h

theorem execDmemAccess_keeps {acc : HostAccess} : KeepsCanonical (execDmemAccess acc) := by
  refine keeps_next fun s h => ?_
  (repeat' split)
  any_goals exact h
  refine foldl_canonical _ (by simpa using h) fun s x h => ?_
  dsimp only
  split <;> simp [h]

theorem window_keeps {op line slot gen host : Nat} : KeepsCanonical (window op line slot gen host) := by
  refine keeps_next fun s h => ?_
  split <;> simp [h]

theorem execOrngAccess_keeps {acc : HostAccess} : KeepsCanonical (execOrngAccess acc) := by
  refine keeps_next fun s h => ?_
  (repeat' split)
  any_goals exact h
  · exact foldl_canonical _ (by simp [h]) fun _ _ h => h
  · simp [h]

/-! ### Every instruction and device step, the schedule's candidates, a step -/

/-- Every word and every device step keeps the memories canonical. -/
theorem exec_keeps (i : Instr) : KeepsCanonical (exec i) := by
  cases i with
  -- Words that write registers only.
  | add | sub | mul | mulh | mulhu | div | divu | rem | remu | andS | orS | xorS | shl | shr | sra | slt | sltu | minS | maxS | minu | maxu | sextI8
  | sextI16 | zextU8 | zextU16 | addi | andi | ori | xori | shli | shri | srai | slti | sltiu | lih | add64 | sub64 | shl64 | shr64 | popc | clz | ctz
  | fns | brev | popcI64 | clzI64 | ctzI64 | fnsI64 | brevI64 | vadd | vsub | vmul | vmulh | vmulhu | vand | vor | vxor | vshl | vshr | vsra | vmin
  | vmax | vminu | vmaxu | vsel | vaddI16x2 | vsubI16x2 | vmulI16x2 | vshlI16x2 | vshrI16x2 | vsraI16x2 | vminI16x2 | vmaxI16x2 | vminuU16x2
  | vmaxuU16x2 | vmad | vbcs | vlane | vpopc | vclz | vctz | vfns | vbrev | vpopcI64 | vclzI64 | vctzI64 | vfnsI64 | vbrevI64 | vcmp | vfadd | vfsub
  | vfmul | vfma | vfnma | vfmin | vfmax | vfaddF16x2 | vfsubF16x2 | vfmulF16x2 | vfmaF16x2 | vfnmaF16x2 | vfminF16x2 | vfmaxF16x2 | vfaddF16
  | vfsubF16 | vfmulF16 | vfmaF16 | vfnmaF16 | vfminF16 | vfmaxF16 | vfaddBf16x2 | vfsubBf16x2 | vfmulBf16x2 | vfmaBf16x2 | vfnmaBf16x2 | vfminBf16x2
  | vfmaxBf16x2 | vfaddBf16 | vfsubBf16 | vfmulBf16 | vfmaBf16 | vfnmaBf16 | vfminBf16 | vfmaxBf16 | vfcmpF32 | vfcmpF16 | vfrcp | vfrsq | vfexp2
  | vflog2 | vfsin | vfcos | vcvt | vqpack | vqunp | vxch | vshfl | vbcl | vred | vscan | vballot | vrand | pset | pget | pand | por | pxor | pnot
  | tfirst | qcvt | budget => exact keeps_regWord
  -- Words that reach global memory and the Orangery.
  | vld | sld => exact keeps_issue fun _ h => globalWord_kept h (fun _ _ => loadRequest_mem ..) (fun _ _ => loadRequest_orangery ..)
  | vst | sst =>
    exact keeps_issue fun _ h => releasing_kept h fun _ h =>
      eachLine_globalWord_kept h (fun _ _ _ => storeHeld_mem ..) (fun _ _ _ => storeHeld_orangery ..)
  | fst =>
    exact keeps_issue fun _ h => afterRelease_kept h fun _ h =>
      eachLine_globalWord_kept h (fun _ _ _ => sendFill_mem ..) (fun _ _ _ => sendFill_orangery ..)
  | fld e => exact execFld_keeps e
  | vatom | satom => exact atomicWord_keeps
  | old | ost => exact orngWord_keeps fun _ h => foldl_canonical _ h fun _ _ h => h
  | oatom | oupd | ordx => exact orngWord_keeps fun _ h => foldl_canonical _ h fun _ _ h => by simpa using h
  | ored => exact orngWord_keeps fun _ h => by split <;> simpa using h
  -- Scratchpad words.
  | vlds | vldsG => exact laneSpadLoad_keeps
  | vsts | vstsG => exact laneSpadStore_keeps
  | slds | sldsG => exact scalarSpadLoad_keeps
  | ssts | sstsG => exact scalarSpadStore_keeps
  -- Control words, and words that only park, trap, wait or send.
  | br | call | nop | pref | masn | pause | srd | tret | icinv | ximm | xmod | hint | hintRegionNop | illegalWord =>
    exact keeps_issue fun _ h => h
  | trap => exact keeps_issue fun _ _ => kept_trap _
  | gfence | vrel | jinit | exit | genb => exact keeps_issue fun _ h => kept_unlessStalled (by simp [h])
  | beqz | bnez | bltz | bgez | bgtz | blez | vbany | vball | ifence => exact keeps_issue fun _ h => by split <;> exact h
  | mwait => exact keeps_issue fun _ h => by dsimp only; split <;> exact h
  | swr => exact keeps_issue fun _ h => by simpa using h
  | rcv => exact keeps_issue fun _ h => reconverge_kept h
  | cwaitOut => exact keeps_issue fun _ h => by (repeat' split) <;> simp [h]
  | ret | jmpr => exact jumpReg_keeps
  | bar | gbar => exact barrier_keeps
  | twait | tany => exact tagWait_keeps
  | vbr => exact execVbr_keeps
  | fence => exact execFence_keeps
  -- Words of the engines, result objects and tasks.
  | cpy | cpyg => exact copyWord_keeps
  | mzero | mma | mloop | mref | mldz | mstore | mread | mbound => exact engineWord_keeps
  | vget | vpin => exact readerWord_keeps
  | qwaitQual | qwaitVer | qwaitDone => exact qwaitWord_keeps
  | pass e => exact execPass_keeps e
  | spawn => exact execSpawn_keeps
  | join e => exact execJoin_keeps e
  | yld => exact execYld_keeps
  | gchk => exact execGchk_keeps
  | gret => exact execGret_keeps
  | gend => exact execGend_keeps
  | rinv => exact execRinv_keeps
  | wsend => exact execWsend_keeps
  | cwait e => exact execCwait_keeps e
  -- Device steps that touch neither memory.
  | pauseExpiry | waitPoll | gfenceRelease | hangRunLimit | binIdleExpiry | contextEvict | contextStageIn | dispatchCoreFailure | heartbeat
  | doorbell | cqhead | chipid | devstatOvfClear | ringSetupWrite | pldmFirmwareUpdate | pldmMonitor | counterRead | pathDown =>
    exact keeps_next fun _ h => by (repeat' split) <;> exact h
  | selfTestStart | pathDelayMeasure | heartbeatMiss | ringHeadWrite | registerWrite =>
    exact keeps_next fun _ h => by dsimp only; (repeat' split) <;> exact h
  | getVersion | getCapabilities | negotiateAlgorithms | getDigests | getCertificate | challenge | getMeasurements =>
    exact keeps_next fun _ h => by split <;> exact h
  -- Device steps that may write a memory, with what they share or a lemma of their own.
  | bankPass => exact execBankPass_keeps
  | bankSeal => exact execBankSeal_keeps
  | bankVget => exact execBankVget_keeps
  | bankVpin => exact execBankVpin_keeps
  | bankVrel => exact execBankVrel_keeps
  | queueSet | vfBounds | ounitGrant | handlerSet | rxqSet | windowReg | windowDereg | fenceClear | cqSet => exact checked_keeps fun _ h => h
  | faultAnswer => exact checked_keeps fun _ h => by simp [h]
  | orngVget | orngVpin | orngVrel => exact window_keeps
  | asyncTrapDelivery => exact execAsyncTrapDelivery_keeps
  | runArbitration => exact execRunArbitration_keeps
  | globalAccessResponse => exact execGlobalAccessResponse_keeps
  | drainComplete => exact execDrainComplete_keeps
  | parentSpill => exact execParentSpill_keeps
  | parentRestore => exact execParentRestore_keeps
  | bankAnswer => exact execBankAnswer_keeps
  | objectClose => exact execObjectClose_keeps
  | objectDrop => exact execObjectDrop_keeps
  | matrixQueueArrival => exact execMatrixQueueArrival_keeps
  | matrixRelease => exact execMatrixRelease_keeps
  | icinvComplete => exact execIcinvComplete_keeps
  | epochTimeout => exact execEpochTimeout_keeps
  | epochApply => exact execEpochApply_keeps
  | rinvPacketArrival => exact execRinvPacketArrival_keeps
  | rinvStatusReturn => exact execRinvStatusReturn_keeps
  | wsendArrival => exact execWsendArrival_keeps
  | wsendAck => exact execWsendAck_keeps
  | wsendFailure => exact execWsendFailure_keeps
  | issueStallWatchdog => exact execIssueStallWatchdog_keeps
  | selfTestVerdict => exact execSelfTestVerdict_keeps
  | timeBudgetExhausted => exact execTimeBudgetExhausted_keeps
  | recordTake => exact execRecordTake_keeps
  | gangPlace => exact execGangPlace_keeps
  | contextRestore => exact execContextRestore_keeps
  | launchComplete => exact execLaunchComplete_keeps
  | completionPost => exact execCompletionPost_keeps
  | dispatchTakeover => exact execDispatchTakeover_keeps
  | tlbInvalComplete => exact execTlbInvalComplete_keeps
  | powerOnReset => exact execPowerOnReset_keeps
  | pathDelayMeasurementEnd => exact execPathDelayMeasurementEnd_keeps
  | runFetch => exact execRunFetch_keeps
  | faultRecordWrite => exact execFaultRecordWrite_keeps
  | binLaunch => exact execBinLaunch_keeps
  | spillRingDrain => exact execSpillRingDrain_keeps
  | bankOperation => exact execBankOperation_keeps
  | copyComplete => exact execCopyComplete_keeps
  | copyPageFaultPark => exact execCopyPageFaultPark_keeps
  | matrixStart => exact execMatrixStart_keeps
  | matrixStepEnd => exact execMatrixStepEnd_keeps
  | matrixComplete => exact execMatrixComplete_keeps
  | hostEpochAck => exact execHostEpochAck_keeps
  | receiveQueueFeed => exact execReceiveQueueFeed_keeps
  | retirementAck => exact execRetirementAck_keeps
  | engineQueueWatchdog => exact execEngineQueueWatchdog_keeps
  | strikeReport => exact execStrikeReport_keeps
  | strikeBufferSend => exact execStrikeBufferSend_keeps
  | containment => exact execContainment_keeps
  | scrub => exact execScrub_keeps
  | energyMeterInterval => exact execEnergyMeterInterval_keeps
  | gangRetire => exact execGangRetire_keeps
  | preemption => exact execPreemption_keeps
  | signal => exact execSignal_keeps
  | asidBind => exact execAsidBind_keeps
  | tlbInval => exact execTlbInval_keeps
  | objCreate => exact execObjCreate_keeps
  | objDestroy => exact execObjDestroy_keeps
  | dispatchRestore => exact execDispatchRestore_keeps
  | warmReset => exact execWarmReset_keeps
  | dmemAccess => exact execDmemAccess_keeps
  | orngAccess => exact execOrngAccess_keeps
  | thermalThrottle => exact execThermalThrottle_keeps
  | thermalTrip => exact execThermalTrip_keeps
  | homeOperation => exact execHomeOperation_keeps
  -- SEAL, whose constructor's name is a keyword here.
  | _ => exact execSeal_keeps

/-- The command at the head of the ring is one of the host's commands, or it is rejected. -/
theorem takeCommand_keeps : KeepsCanonical takeCommand := by
  intro s t h ht
  unfold takeCommand at ht
  dsimp only at ht
  split at ht
  · exact exec_keeps (.queueSet ..) s t h ht
  · exact exec_keeps (.asidBind ..) s t h ht
  · exact exec_keeps (.vfBounds ..) s t h ht
  · exact exec_keeps (.ounitGrant ..) s t h ht
  · exact exec_keeps (.tlbInval ..) s t h ht
  · exact exec_keeps (.faultAnswer ..) s t h ht
  · exact exec_keeps (.objCreate ..) s t h ht
  · exact exec_keeps (.objDestroy ..) s t h ht
  · exact exec_keeps (.handlerSet ..) s t h ht
  · exact exec_keeps (.rxqSet ..) s t h ht
  · exact exec_keeps (.windowReg ..) s t h ht
  · exact exec_keeps (.windowDereg ..) s t h ht
  · exact exec_keeps (.fenceClear ..) s t h ht
  · exact exec_keeps (.dispatchRestore ..) s t h ht
  · exact exec_keeps (.cqSet ..) s t h ht
  · cases ht
    split <;> simp [h]

/-- Every step of a list of device steps keeps the memories canonical. -/
def AllKeep (l : List (State → Out)) : Prop := ∀ f ∈ l, KeepsCanonical f

section
variable {α : Type} {l l' : List (State → Out)} {f : State → Out}

theorem AllKeep.nil : AllKeep [] := fun _ h => nomatch h

theorem AllKeep.cons (hf : KeepsCanonical f) (hl : AllKeep l) : AllKeep (f :: l) := List.forall_mem_cons.mpr ⟨hf, hl⟩

theorem AllKeep.one (hf : KeepsCanonical f) : AllKeep [f] := .cons hf .nil

theorem AllKeep.append (hl : AllKeep l) (hl' : AllKeep l') : AllKeep (l ++ l') := List.forall_mem_append.mpr ⟨hl, hl'⟩

theorem AllKeep.map {g : α → State → Out} {xs : List α} (hg : ∀ x, KeepsCanonical (g x)) : AllKeep (xs.map g) :=
  List.forall_mem_map.mpr fun x _ => hg x

theorem AllKeep.flatMap {g : α → List (State → Out)} {xs : List α} (hg : ∀ x, AllKeep (g x)) : AllKeep (xs.flatMap g) := by
  intro f hf
  obtain ⟨x, -, hx⟩ := List.mem_flatMap.mp hf
  exact hg x f hx

/-- Inputs that have come, each with the step that takes it. -/
theorem AllKeep.filterMap {β : Type} {o : α → Option β} {g : α → β → State → Out} {xs : List α} (hg : ∀ x y, KeepsCanonical (g x y)) :
    AllKeep (xs.filterMap (fun x => (o x).map (g x))) := by
  intro f hf
  obtain ⟨x, -, hx⟩ := List.mem_filterMap.mp hf
  obtain ⟨y, -, rfl⟩ := Option.map_eq_some_iff.mp hx
  exact hg x y

theorem AllKeep.ite {p : Prop} [Decidable p] (hl : AllKeep l) (hl' : AllKeep l') : AllKeep (if p then l else l') := by
  split
  · exact hl
  · exact hl'

end

theorem coreSteps_keep (s : State) : AllKeep (coreSteps s) := by
  refine .flatMap fun c => .append (.append (.append (.append (.append ?_ ?_) ?_) ?_) ?_) ?_
  · exact .ite .nil (.one (exec_keeps (.strikeBufferSend c.1)))
  · exact .ite .nil (.one (exec_keeps (.matrixQueueArrival c.1)))
  · exact .ite .nil (.cons (exec_keeps (.matrixStepEnd c.1)) (.cons (exec_keeps (.matrixComplete c.1))
      (.cons (exec_keeps (.matrixStart c.1)) (.one (exec_keeps (.matrixRelease c.1))))))
  · exact .map fun k => exec_keeps (.engineQueueWatchdog c.1 k)
  · exact .flatMap fun k => .cons (exec_keeps (.copyComplete c.1 k)) (.one (exec_keeps (.copyPageFaultPark c.1 k)))
  · exact .ite (.one (exec_keeps (.selfTestStart c.1))) .nil

theorem memorySteps_keep (s : State) : AllKeep (memorySteps s) := by
  refine .append (.append (.append (.append (.append (.append ?_ ?_) ?_) ?_) ?_) ?_) ?_
  · exact .map fun k => exec_keeps (.homeOperation k)
  · exact .map fun k => exec_keeps (.globalAccessResponse k)
  · exact .map fun k => exec_keeps (.bankOperation k)
  · exact .flatMap fun k => .cons (exec_keeps (.bankPass k)) (.cons (exec_keeps (.bankSeal k)) (.cons (exec_keeps (.bankVget k))
      (.cons (exec_keeps (.bankVpin k)) (.one (exec_keeps (.bankVrel k))))))
  · exact .map fun k => exec_keeps (.bankAnswer k)
  · exact .map fun k => exec_keeps (.icinvComplete k)
  · refine .flatMap fun d => .append (.append (.append ?_ ?_) ?_) ?_
    · exact .ite (.one (exec_keeps (.epochTimeout d.1))) .nil
    · exact .map fun e => exec_keeps (.epochApply d.1 e.src)
    · exact .ite .nil (.one (exec_keeps (.hostEpochAck d.1)))
    · exact .ite .nil (.one (exec_keeps (.faultRecordWrite d.1)))

theorem taskSteps_keep (s : State) : AllKeep (taskSteps s) := by
  refine .append (.append (.append (.append (.append (.append (.append (.append (.append ?_ ?_) ?_) ?_) ?_) ?_) ?_) ?_) ?_) ?_
  · exact .map fun k => exec_keeps (.rinvPacketArrival (.local k))
  · exact .filterMap fun m n => exec_keeps (.rinvStatusReturn m.2 n)
  · exact .filterMap fun a f => exec_keeps (.retirementAck a.2 f)
  · exact .one (exec_keeps .receiveQueueFeed)
  · refine .flatMap fun e => ?_
    split
    · exact .one (exec_keeps (.pauseExpiry e.1))
    · exact .one (exec_keeps (.gfenceRelease e.1))
    · exact .one (exec_keeps (.drainComplete e.1))
    · exact .one (exec_keeps (.parentSpill e.1))
    · exact .one (exec_keeps (.parentSpill e.1))
    · exact .nil
  · exact .flatMap fun e => .append (.ite .nil (.one (exec_keeps (.asyncTrapDelivery e.1))))
      (.cons (exec_keeps (.hangRunLimit e.1)) (.one (exec_keeps (.issueStallWatchdog e.1))))
  · exact .map fun l => exec_keeps (.spillRingDrain (ownerKey (.launch l.1)))
  · exact .map fun t => exec_keeps (.spillRingDrain (ownerKey (.tree t.1)))
  · exact .flatMap fun p => .flatMap fun b => .cons (exec_keeps (.binIdleExpiry p.1 b.1)) (.one (exec_keeps (.binLaunch p.1 b.1)))
  · exact .map fun k => exec_keeps (.parentRestore k)

theorem controlSteps_keep (s : State) : AllKeep (controlSteps s) := by
  refine .append (.append (.append (.append (.append (.append (.append (.append (.append (.append (.append ?_ ?_) ?_) ?_) ?_) ?_) ?_) ?_) ?_) ?_) ?_) ?_
  · refine .flatMap fun l => .cons (exec_keeps (.timeBudgetExhausted l.1)) (.append ?_ (.one (exec_keeps (.launchComplete l.1))))
    exact .flatMap fun k => .cons (exec_keeps (.objectClose l.1 k)) (.one (exec_keeps (.objectDrop l.1 k)))
  · exact .map fun l => keeps_next fun s h => by simpa using h
  · exact .map fun g => exec_keeps (.gangRetire g.1)
  · exact .one (exec_keeps .completionPost)
  · exact .map fun r => exec_keeps (.signal r)
  · exact .map fun q => exec_keeps (.recordTake q)
  · exact .one (exec_keeps .gangPlace)
  · exact .flatMap fun k => .cons (exec_keeps (.contextStageIn k)) (.map fun p => exec_keeps (.contextRestore k p))
  · exact .ite (.one takeCommand_keeps) .nil
  · exact .ite .nil (.map fun p => exec_keeps (.preemption p))
  · exact .cons (exec_keeps .tlbInvalComplete) (.cons (exec_keeps (.dispatchTakeover 0)) (.one (exec_keeps (.dispatchTakeover 1))))
  · exact .ite (.one (exec_keeps (.powerOnReset 0 []))) .nil

theorem issueSteps_keep (s : State) : AllKeep (issueSteps s) := by
  have hf : ∀ xs : List (Nat × Entity), AllKeep (xs.map (fun e => execRunFetch e.1)) := fun _ => .map fun e => exec_keeps (.runFetch e.1)
  have ht : ∀ xs : List Nat, AllKeep (xs.map (fun x => execRunArbitration (x / 4) (x % 4))) :=
    fun _ => .map fun x => exec_keeps (.runArbitration (x / 4) (x % 4))
  unfold issueSteps
  dsimp only
  generalize hpolls : s.ents.flatMap _ = polls
  have hp : AllKeep polls := by
    rw [← hpolls]
    refine .flatMap fun e => ?_
    split
    · exact .one (exec_keeps (.waitPoll e.1))
    · exact .nil
  split
  · exact ((ht _).append (hf _)).append hp
  · exact (hp.append (hf _)).append (ht _)
  · exact ((hf _).append (ht _)).append hp

theorem candidates_keep (s : State) : AllKeep (candidates s) :=
  ((((coreSteps_keep s).append (memorySteps_keep s)).append (taskSteps_keep s)).append (controlSteps_keep s)).append (issueSteps_keep s)

theorem firstProgress_canonical {s t : State} {l : List (State → Out)} (hl : AllKeep l) (h : Safety.canonical s)
    (ht : firstProgress s l = .next t) : Safety.canonical t := by
  induction l with
  | nil => cases ht; exact h
  | cons f r ih =>
    obtain ⟨hf, hr⟩ := List.forall_mem_cons.mp hl
    simp only [firstProgress] at ht
    split at ht
    · split at ht
      · exact ih hr ht
      · cases ht
        exact hf s _ h ‹_›
    · exact ih hr ht

theorem issueWord_canonical {s t : State} {k : Nat} {w : Word} (h : Safety.canonical s) (ht : issueWord s k w = .next t) : Safety.canonical t := by
  unfold issueWord at ht
  split at ht
  · rename_i u hu
    cases ht
    have hc := exec_keeps (instrOf w) _ u (by simpa using h) hu
    simpa using hc
  · rename_i hn
    exact absurd ht (hn t)

/-- Time passes; then the scheduled device step, the word of the entity in focus, or the first candidate that changes something. -/
theorem step_keeps : KeepsCanonical step := by
  intro s t h ht
  have hp : Safety.canonical (passTime s) := h
  unfold step advance at ht
  generalize passTime s = u at hp ht
  dsimp only at ht
  split at ht
  · split at ht
    · refine exec_keeps _ _ t ?_ ht
      exact hp
    · cases ht
      exact hp
  · split at ht
    · exact issueWord_canonical hp ht
    · exact firstProgress_canonical (candidates_keep u) hp ht

/-- Settles O60: every word and device step keeps the memories canonical, and a step runs one of them after time has passed. -/
theorem stepKeepsCanonical : Obligations.StepKeepsCanonical := fun s t h ht => step_keeps s t h ht

end Sys2Proof.Laws

/-! SUPPORT. O48: what the Bobbin's bins do: the mark of an idle bin, the launch of a bin, the drain of a spill ring, the feed of a receive queue
(R30 to R33, R39). -/

namespace Sys2Proof.Laws

open Sys2Proof Sys2Proof.Machine

/-! ### Maps and lanes -/

theorem lt_of_keysAbove {α : Type} {lo k : Nat} {v : α} {m : NMap α} (hm : keysAbove lo m = true) (h : (k, v) ∈ m) : lo < k := by
  induction m generalizing lo with
  | nil => simp at h
  | cons e r ih =>
    simp only [keysAbove, Bool.and_eq_true, decide_eq_true_eq] at hm
    rcases List.mem_cons.mp h with rfl | h
    · exact hm.1
    · exact Nat.lt_trans hm.1 (ih hm.2 h)

/-- In a map whose keys rise, every entry is the one that its key names. -/
theorem look_of_mem {α : Type} {k : Nat} {v : α} {m : NMap α} (hm : nmapWf m = true) (h : (k, v) ∈ m) : look m k = some v := by
  induction m with
  | nil => simp at h
  | cons e r ih =>
    obtain ⟨j, u⟩ := e
    rcases List.mem_cons.mp h with heq | h
    · cases heq; simp [look]
    · have hjk : j ≠ k := Nat.ne_of_lt (lt_of_keysAbove hm h)
      simpa [look, hjk] using ih (keysAbove_wf hm) h

/-- A map filled for the keys below `n`. -/
theorem look_fill {α : Type} (f : Nat → α) (n j : Nat) :
    look ((List.range n).foldl (fun m j => put m j (f j)) []) j = if j < n then some (f j) else none := by
  induction n with
  | zero => rfl
  | succ n ih =>
    rw [List.range_succ, List.foldl_append, List.foldl_cons, List.foldl_nil, look_put, ih]
    by_cases hj : j = n
    · simp [hj]
    · have : j < n + 1 ↔ j < n := by omega
      simp [hj, this]

theorem getLsbD_foldl_lanes (f : Nat → Bool) (l : List Nat) (r : Lanes) (i : Nat) (hi : i < 96) :
    (l.foldl (fun r i => if f i then r ||| (1#96 <<< i) else r) r).getLsbD i = (r.getLsbD i || (l.contains i && f i)) := by
  induction l generalizing r with
  | nil => simp
  | cons j l ih =>
    rw [List.foldl_cons, ih]
    by_cases hij : i = j
    · subst hij; cases f i <;> simp [hi]
    · have hbit : (1#96 <<< j).getLsbD i = false := by
        simp only [BitVec.getLsbD_shiftLeft, BitVec.getLsbD_one]
        simp; omega
      cases f j <;> simp [hij, hbit]

theorem getLsbD_lanesOf (f : Nat → Bool) {i : Nat} (hi : i < 96) : (lanesOf f).getLsbD i = f i := by
  rw [lanesOf, getLsbD_foldl_lanes f _ _ i hi]
  simp [laneList, hi]

theorem getD_map_laneList (f : Nat → Word) {i : Nat} (hi : i < 96) : (laneList.map f).getD i 0 = f i := by
  simp [laneList, hi]

/-! ### Pavilions -/

theorem pav_setPav (s : State) (p q : Nat) (v : Pavilion) : (s.setPav p v).pav q = if q = p then v else s.pav q := by
  rw [State.pav, setPav_pavs, look_put]
  split <;> rfl

theorem pav_setPav_same (s : State) (p : Nat) (v : Pavilion) : (s.setPav p v).pav p = v := by simp [pav_setPav]

theorem asid_congr {s t : State} (h : t.asids = s.asids) (a : Nat) : t.asid a = s.asid a := by rw [State.asid, h, State.asid]

theorem pav_congr {s t : State} (h : t.pavs = s.pavs) (p : Nat) : t.pav p = s.pav p := by rw [State.pav, h, State.pav]

/-- A pavilion that is used keeps its bins. -/
theorem usePav_bins (s : State) (q p : Nat) : ((usePav s q).pav p).bins = (s.pav p).bins := by
  rw [usePav, pav_setPav]
  split
  · simp [*]
  · rfl

/-! ### The start of a wave (R14, R32, R39) -/

/-- R87, R192: a core made ready for a wave changes nothing but cores, poison and what a strike brings back. -/
theorem cleared_frame (s : State) (core : Nat) : ∃ cs ps hs, dropL1 (clearTiles s core) core = { s with cores := cs, poison := ps, hist := hs } := by
  have hclear : ∃ cs ps hs, clearTiles s core = { s with cores := cs, poison := ps, hist := hs } := by
    unfold clearTiles State.clean
    dsimp only
    (repeat' split) <;> exact ⟨_, _, _, rfl⟩
  obtain ⟨cs, ps, hs, h⟩ := hclear
  unfold dropL1
  rw [h]
  split <;> exact ⟨_, _, _, rfl⟩

/-- R30, R32: `t` is `s` where the wave `v` of a bin's `n` entries has started in the free slot `key` of a core, its lanes 0 to n − 1 active. -/
structure BinStarted (s t : State) (n core key : Nat) (reserved : Bool) (id : Nat) (e : Entity) (v : Wave) : Prop where
  ents : t.ents = put s.ents key e
  wave : look t.waves id = some v
  block : ∃ bl, look t.blocks v.block = some bl ∧ bl.core = core ∧ bl.lin = 0xFFFFFFFF
  waveId : e.wave = id
  own : e.own = BitVec.allOnes 96
  mask : ∀ i < 96, e.mask.getLsbD i = decide (i < n)
  park : e.park = .running
  pairs : e.pairs = []
  preds : v.preds = []
  reserve : v.reserved = reserved

/-- A start stands for a state with the same entities. -/
theorem BinStarted.of_ents {s s' t : State} {n core key : Nat} {reserved : Bool} {id : Nat} {e : Entity} {v : Wave}
    (h : BinStarted s' t n core key reserved id e v) (he : s'.ents = s.ents) : BinStarted s t n core key reserved id e v :=
  { h with ents := he ▸ h.ents }

/-- R28, R32: a single wave starts under the next fresh number, and takes with it what its caller gives it. -/
theorem startSingle_started (s : State) (core key n : Nat) (v : Wave) (pc : Dword) (regs : NMap Word) (frames ntags relaunch : Nat) (hv : v.preds = []) :
    let e := Entity.start 0 pc (lanesOf (fun i => decide (i < n))) (BitVec.allOnes 96) regs
    BinStarted s (startSingle s core key v e frames ntags relaunch) n core key v.reserved (s.fresh + 1)
      { e with wave := s.fresh + 1 } { v with block := s.fresh + 1 } := by
  intro e
  obtain ⟨cs, ps, hs, h⟩ := cleared_frame s core
  rw [startSingle, h]
  exact {
    ents := rfl
    wave := look_put_same _ _ _
    block := ⟨_, look_put_same _ _ _, rfl, rfl⟩
    waveId := rfl
    own := rfl
    mask := fun _ hi => getLsbD_lanesOf _ hi
    park := rfl
    pairs := rfl
    preds := hv
    reserve := rfl }

theorem startSingle_trees (s : State) (core key : Nat) (v : Wave) (e : Entity) (frames ntags relaunch : Nat) :
    (startSingle s core key v e frames ntags relaunch).trees = s.trees := by
  obtain ⟨cs, ps, hs, h⟩ := cleared_frame s core
  rw [startSingle, h]
  rfl

theorem startSingle_bins (s : State) (core key : Nat) (v : Wave) (e : Entity) (frames ntags relaunch p : Nat) :
    ((startSingle s core key v e frames ntags relaunch).pav p).bins = (s.pav p).bins := by
  obtain ⟨cs, ps, hs, h⟩ := cleared_frame s core
  rw [startSingle, h]
  exact usePav_bins { s with cores := cs, poison := ps, hist := hs } (pavOfCore core) p

theorem modTree_ents (s : State) (t : Nat) (f : Tree → Tree) : (s.modTree t f).ents = s.ents := by
  unfold State.modTree; split <;> rfl

theorem modTree_pavs (s : State) (t : Nat) (f : Tree → Tree) : (s.modTree t f).pavs = s.pavs := by
  unfold State.modTree; split <;> rfl

/-- The start of a bin's wave takes nothing from another bin. -/
theorem binWave_bins (s : State) (b : Bin) (core key : Nat) (reserved : Bool) (p : Nat) :
    ((binWave s b core key reserved).pav p).bins = (s.pav p).bins := by
  unfold binWave
  dsimp only
  split
  · rw [startSingle_bins]
    split
    · rw [pav_congr (modTree_pavs _ _ _)]
    · rfl
  · rw [startSingle_bins]; rfl

theorem rS_argRegs {e : Entity} {args : Dword} (h : e.sregs = argRegs args) : e.rS 1 = args.setWidth 32 ∧ e.rS 59 = (args >>> 32).setWidth 32 := by
  simp [Entity.rS, h, argRegs, look_put]

/-- R32: lane i of register j of a wave whose first registers are filled from columns. -/
theorem rV_fill {v : Wave} {n j i : Nat} {f : Nat → Nat → Word} (h : v.vregs = (List.range n).foldl (fun m j => put m j (laneList.map (f j))) [])
    (hj : j < n) (hi : i < 96) : v.rV j i = f j i := by
  rw [Wave.rV, h, look_fill (fun j => laneList.map (f j)), if_pos hj]
  exact getD_map_laneList _ hi

/-- R31, R32, R14: what a wave of children begins with: its owner's arguments and RESUME, and lane i entry i's payload and join object. -/
structure ChildWave (s : State) (b : Bin) (c : Child) (e : Entity) (v : Wave) : Prop where
  kind : v.kind = .child
  owner : v.owner = c.owner
  vlimit : v.vlimit = c.vlimit
  pc : e.pc = b.entry
  payload : ∀ i < 96, ∀ j < 4, v.rV j i = match b.children[i]? with | some x => x.payload.getD j 0 | none => 0
  joins : v.joins = (b.children.zipIdx).map (fun x => (x.2, x.1.join))
  launch : ∀ l y, c.owner = .launch l → look s.launches l = some y →
    e.rS 1 = y.record.args.setWidth 32 ∧ e.rS 59 = (y.record.args >>> 32).setWidth 32 ∧ v.passIdx = y.record.resume

/-- R32: the wave of a bin of children. -/
theorem binWave_child (s : State) {b : Bin} (core key : Nat) (reserved : Bool) {c : Child} {r : List Child} (hb : b.children = c :: r) :
    ∃ id e v, BinStarted s (binWave s b core key reserved) b.size core key reserved id e v ∧ ChildWave s b c e v := by
  unfold binWave
  simp only [hb]
  refine ⟨_, _, _, (startSingle_started _ _ _ _ _ _ _ _ _ _ rfl).of_ents ?_, ⟨rfl, rfl, rfl, rfl, ?_, ?_, ?_⟩⟩
  · split
    · exact modTree_ents _ _ _
    · rfl
  · intro i hi j hj
    rw [rV_fill (f := fun j i => ((b.children[i]?).map (fun x => x.payload.getD j 0)).getD 0) (by rw [hb]) hj hi]
    cases b.children[i]? <;> rfl
  · rw [hb]
  · intro l y ho hl
    have hrec : launchOf s c.owner = some y := by rw [ho]; exact hl
    have := rS_argRegs (e := Entity.start 0 b.entry 0 0 (argRegs y.record.args)) rfl
    simpa [ho, hrec, launchOf, hl, Entity.start, Wave.start, Entity.rS] using this

/-- R39: what a handler wave begins with: its handler's registers and entry, and lane i packet i's arguments and acknowledgement, in a tree of its own. -/
structure HandlerWave (t : State) (b : Bin) (h : Handler) (e : Entity) (v : Wave) : Prop where
  kind : v.kind = .handler
  vlimit : v.vlimit = h.vregs
  pc : e.pc = BitVec.ofNat 64 h.entry
  handler : v.handler = BitVec.ofNat 64 h.handler
  args : ∀ i < 96, ∀ j < 8, v.rV j i = match b.packets[i]? with | some x => x.args.getD j 0 | none => 0
  acks : v.acks.length = b.packets.length
  tree : ∃ tr y, v.owner = .tree tr ∧ look t.trees tr = some y ∧ y.outstanding = 0 ∧ y.live = 1

/-- R39: the wave of a bin of packets, with a tree of its own. -/
theorem binWave_handler (s : State) {b : Bin} (core key : Nat) (reserved : Bool) (hb : b.children = []) :
    ∃ id e v, BinStarted s (binWave s b core key reserved) b.size core key reserved id e v ∧
      ∀ n h, b.handler = some n → look (s.asid b.asid).handlers n = some h → HandlerWave (binWave s b core key reserved) b h e v := by
  unfold binWave
  simp only [hb]
  refine ⟨_, _, _, (startSingle_started _ _ _ _ _ _ _ _ _ _ rfl).of_ents rfl, ?_⟩
  intro n h hn hh
  exact {
    kind := rfl
    vlimit := by simp [Wave.start, hn, hh]
    pc := by simp [Entity.start, hn, hh]
    handler := by simp [Wave.start, hn, hh]
    args := fun i hi j hj => by
      rw [rV_fill (f := fun j i => ((b.packets[i]?).map (fun x => x.args.getD j 0)).getD 0) rfl hj hi]
      cases b.packets[i]? <;> rfl
    acks := by simp
    tree := ⟨_, _, rfl, (congrArg (look · _) (startSingle_trees ..)).trans (look_put_same _ _ _), rfl, rfl⟩ }

/-! ### The launch of a bin (R30, R33, R39, R244, R289, R307) -/

/-- R244, R289, R307: nothing launches in a pavilion that is measured or halted, or after a thermal trip. -/
theorem launchPlace_held (s : State) (p : Nat) (b : Bin) (h : (s.pav p).measuring = true ∨ (s.pav p).halting = true ∨ s.ctl.tripped = true) :
    launchPlace s p b = none := by
  rcases h with h | h | h <;> simp [launchPlace, h]

/-- R30: elsewhere a bin whose packets are ready launches just when it qualifies, if no older bin that does can be placed. -/
theorem launchPlace_eq (s : State) (p : Nat) (b : Bin) (hready : packetsReady s p b = true) (hm : (s.pav p).measuring = false)
    (hh : (s.pav p).halting = false) (ht : s.ctl.tripped = false)
    (hold : ∀ x ∈ (s.pav p).bins, x.2.firstAt < b.firstAt → binQualifies s p x.2 = false ∨ binPlaceOn s p x.2 = none) :
    launchPlace s p b = if binQualifies s p b = true then binPlaceOn s p b else none := by
  have hnone : ((s.pav p).bins.any fun x => decide (x.2.firstAt < b.firstAt) && (binQualifies s p x.2 && (binPlaceOn s p x.2).isSome)) = false := by
    rw [List.any_eq_false]
    intro x hx hbad
    simp only [Bool.and_eq_true, decide_eq_true_eq] at hbad
    obtain ⟨hlt, hq, hp⟩ := hbad
    rcases hold x hx hlt with h | h <;> simp [h] at hq hp
  simp only [launchPlace, hready, hm, hh, ht, hnone]
  cases binQualifies s p b <;> rfl

theorem exec_binLaunch (s : State) (p k : Nat) : exec (.binLaunch p k) s = .next ((launchBin s p k).getD s) := rfl

theorem launchBin_none {s : State} {p k : Nat} {b : Bin} (hb : look (s.pav p).bins k = some b) (h : launchPlace s p b = none) :
    launchBin s p k = none := by
  simp [launchBin, hb, h]

/-- R30, R39: the bin is free, a packet's priority counts for starvation, and the bin's wave starts. -/
theorem launchBin_some {s : State} {p k core key : Nat} {b : Bin} {reserved : Bool} (hb : look (s.pav p).bins k = some b)
    (hp : launchPlace s p b = some (core, reserved)) (hk : fetchSlot (usedKeys s) core 0 = some key) :
    ∃ u, launchBin s p k = some (binWave u b core key reserved) ∧ (u.pav p).bins = erase (s.pav p).bins k ∧
      u.ents = s.ents ∧ u.mem = s.mem ∧ u.launches = s.launches ∧ u.asids = s.asids := by
  rw [launchBin, hb, Option.bind_some, hp, Option.bind_some, hk, Option.map_some]
  refine ⟨_, rfl, ?_⟩
  split
  all_goals exact ⟨congrArg Pavilion.bins (pav_setPav_same s p _), rfl, rfl, rfl, rfl⟩

/-- R30, R32, R39: a bin that finds its core launches, and is free. -/
theorem execBinLaunch_starts {s : State} {p k core key : Nat} {b : Bin} {reserved : Bool} (hb : look (s.pav p).bins k = some b)
    (hp : launchPlace s p b = some (core, reserved)) (hk : fetchSlot (usedKeys s) core 0 = some key) :
    ∃ t id e v, exec (.binLaunch p k) s = .next t ∧ look (t.pav p).bins k = none ∧ t.mem = s.mem ∧ BinStarted s t b.size core key reserved id e v ∧
      (∀ c r, b.children = c :: r → ChildWave s b c e v) ∧
      ∀ n h, b.children = [] → b.handler = some n → look (s.asid b.asid).handlers n = some h → HandlerWave t b h e v := by
  obtain ⟨u, hu, hbins, hents, hmem, hlaunches, hasids⟩ := launchBin_some hb hp hk
  have hexec : exec (.binLaunch p k) s = .next (binWave u b core key reserved) := by rw [exec_binLaunch, hu, Option.getD_some]
  have hfree : look ((binWave u b core key reserved).pav p).bins k = none := by rw [binWave_bins, hbins, look_erase, if_pos rfl]
  have hsame : (binWave u b core key reserved).mem = s.mem := (binWave_mem ..).trans hmem
  cases hc : b.children with
  | cons c r =>
    obtain ⟨id, e, v, hstart, hwave⟩ := binWave_child u core key reserved hc
    refine ⟨_, id, e, v, hexec, hfree, hsame, hstart.of_ents hents, ?_, fun n h h0 => by cases h0⟩
    rintro c' r' ⟨⟩
    exact { hwave with launch := fun l y ho hl => hwave.launch l y ho (hlaunches ▸ hl) }
  | nil =>
    obtain ⟨id, e, v, hstart, hwave⟩ := binWave_handler u core key reserved hc
    refine ⟨_, id, e, v, hexec, hfree, hsame, hstart.of_ents hents, fun c r h0 => (by cases h0), fun n h _ hn hh => hwave n h hn ?_⟩
    rwa [asid_congr hasids]

theorem exec_binIdleExpiry {s : State} {p k : Nat} {b : Bin} (hb : look (s.pav p).bins k = some b) :
    exec (.binIdleExpiry p k) s = .next (if b.lastAt + 2048 ≤ s.now then
      s.setPav p { s.pav p with bins := put (s.pav p).bins k { b with idle := true } } else s) := by
  show execBinIdleExpiry p k s = _
  rw [execBinIdleExpiry, hb]

/-! ### A place in the bins (R30, R31) -/

section
variable {now : Nat} {bins : NMap Bin} {fits : Bin → Bool} {new : Bin} {add : Bin → Bin}

theorem binPlace_joins {k : Nat} {b : Bin} (hf : bins.find? (fun x => decide (x.1 < 32) && fits x.2) = some (k, b)) (hb : b.size < 96) :
    binPlace now bins fits new add = some (put bins k { add b with lastAt := now, idle := false }) := by
  simp [binPlace, hf, hb]

theorem binPlace_full {k : Nat} {b : Bin} (hf : bins.find? (fun x => decide (x.1 < 32) && fits x.2) = some (k, b)) (hb : 96 ≤ b.size) :
    binPlace now bins fits new add = none := by
  simp [binPlace, hf, Nat.not_lt.mpr hb]

/-- R30: none of the 32 bins is free, and none is the one for the entry. -/
theorem binPlace_occupied (hwf : nmapWf bins = true) (hfit : ∀ k b, look bins k = some b → fits b = false)
    (hall : ∀ k < 32, (look bins k).isSome = true) : binPlace now bins fits new add = none := by
  have hfind : bins.find? (fun x => decide (x.1 < 32) && fits x.2) = none := by
    rw [List.find?_eq_none]
    rintro ⟨k, b⟩ hx
    simp [hfit k b (look_of_mem hwf hx)]
  have hfree : (List.range 32).find? (fun k => (look bins k).isNone) = none := by
    rw [List.find?_eq_none]
    intro k hk
    have := hall k (List.mem_range.mp hk)
    simpa [Option.isNone_iff_eq_none, Option.isSome_iff_ne_none] using this
  simp [binPlace, hfind, hfree]

end

/-! ### The drain of a spill ring (R31) -/

theorem binChild_new {s : State} {c : Child} (h : (s.pav c.pav).bins = []) :
    ∃ b, binChild s c = some (s.setPav c.pav { s.pav c.pav with bins := [(0, b)] }) ∧ b.children = [c] ∧ b.entry = c.entry ∧ b.firstAt = s.now := by
  unfold binChild
  dsimp only
  rw [h]
  exact ⟨_, rfl, rfl, rfl, rfl⟩

theorem binChild_joins {s : State} {c : Child} {k : Nat} {b : Bin}
    (hf : (s.pav c.pav).bins.find? (fun x => decide (x.1 < 32) && x.2.takes c) = some (k, b)) (hb : b.size < 96) :
    binChild s c = some (s.setPav c.pav { s.pav c.pav with
      bins := put (s.pav c.pav).bins k { b with children := b.children ++ [c], lastAt := s.now, idle := false } }) := by
  rw [binChild, binPlace_joins (fits := fun b => b.takes c) hf hb]
  rfl

section
variable {s : State} {l : Nat} {v : Launch} {c : Child} {r : List Child} (hv : look s.launches l = some v) (hr : v.spillRing = c :: r)
include hv hr

/-- R31: the head child of a launch's ring leaves it just when the bins take it. -/
theorem exec_spillRingDrain :
    exec (.spillRingDrain (2 * l)) s = .next (((binChild s c).map (fun t => setSpillRing t (.launch l) r)).getD s) := by
  have ho : ownerOfKey (2 * l) = .launch l := by simp [ownerOfKey]
  show execSpillRingDrain (2 * l) s = _
  simp only [execSpillRingDrain, ho, spillRing, hv, Option.map_some, Option.getD_some, hr]
  cases binChild s c <;> rfl

theorem spillRingDrain_stays (h : binChild s c = none) : exec (.spillRingDrain (2 * l)) s = .next s := by
  rw [exec_spillRingDrain hv hr, h]; rfl

theorem spillRingDrain_moves {q : Pavilion} (h : binChild s c = some (s.setPav c.pav q)) :
    ∃ t, exec (.spillRingDrain (2 * l)) s = .next t ∧ look t.launches l = some { v with spillRing := r } ∧ t.pav c.pav = q := by
  have hmove : setSpillRing (s.setPav c.pav q) (.launch l) r = (s.setPav c.pav q).setLaunch l { v with spillRing := r } := by
    rw [setSpillRing, State.modLaunch, setPav_launches, hv]
  refine ⟨_, exec_spillRingDrain hv hr, ?_⟩
  rw [h, Option.map_some, Option.getD_some, hmove]
  exact ⟨look_put_same _ _ _, pav_setPav_same s c.pav q⟩

end

/-! ### The feed of a receive queue (R39) -/

theorem binPacket_new {s : State} {pav : Nat} {h : Handler} {p : Packet} (hb : (s.pav pav).bins = []) :
    ∃ b, binPacket s pav h p = some (s.setPav pav { s.pav pav with bins := [(0, b)] }) ∧ b.packets = [p] ∧ b.handler = some p.handler ∧
      b.entry = BitVec.ofNat 64 h.entry := by
  unfold binPacket
  dsimp only
  rw [hb]
  exact ⟨_, rfl, rfl, rfl, rfl⟩

/-- The highest of the four priorities that meets a test comes first. -/
theorem priorities_head {w : Nat → Bool} {prio : Nat} (hp : prio < 4) (hw : w prio = true) (hno : ∀ j, prio < j → j < 4 → w j = false) :
    ∃ rest, [3, 2, 1, 0].filter w = prio :: rest := by
  obtain rfl | rfl | rfl | rfl : prio = 3 ∨ prio = 2 ∨ prio = 1 ∨ prio = 0 := by omega
  all_goals simp [List.filter_cons, hw, hno]

/-- R39: without starvation the highest priority that waits goes first. -/
theorem feedOrder_head {s : State} {prio : Nat} {q : Rxq} (hq : look s.rxqs prio = some q) (hw : q.waiting ≠ []) (hp : prio < 4)
    (hno : ∀ j x, prio < j → j < 4 → look s.rxqs j = some x → x.waiting = []) (hs : s.dispatch.starve < 16) :
    ∃ rest, feedOrder s = prio :: rest := by
  unfold feedOrder
  dsimp only
  rw [if_neg (Nat.not_le.mpr hs)]
  refine priorities_head hp ?_ fun j hj hj4 => ?_
  · simpa [hq] using hw
  · cases hx : look s.rxqs j with
    | none => rfl
    | some x => simp [hno j x hj hj4 hx]

/-- R39: the head packet of the first queue enters a new bin; the step then sets no more than the starvation count. -/
theorem receiveQueueFeed_new {s : State} {prio : Nat} {q : Rxq} {p : Packet} {r : List Packet} {h : Handler} {rest : List Nat}
    (ho : feedOrder s = prio :: rest) (hq : look s.rxqs prio = some q) (hw : q.waiting = p :: r) (hh : look (s.asid p.asid).handlers p.handler = some h)
    (hb : (s.pav q.pav).bins = []) :
    ∃ b d, exec .receiveQueueFeed s = .next { s.setPav q.pav { s.pav q.pav with bins := [(0, b)] } with
        rxqs := put s.rxqs prio { q with waiting := r }, dispatch := d } ∧
      b.packets = [p] ∧ b.handler = some p.handler ∧ b.entry = BitVec.ofNat 64 h.entry := by
  obtain ⟨b, hplace, hpackets, hhandler, hentry⟩ := binPacket_new (h := h) (p := p) hb
  have hfeed : feedFrom s prio = some { s.setPav q.pav { s.pav q.pav with bins := [(0, b)] } with rxqs := put s.rxqs prio { q with waiting := r } } := by
    simp [feedFrom, hq, hw, hh, hplace]
  refine ⟨b, ?_⟩
  show ∃ d, execReceiveQueueFeed s = _ ∧ _
  rw [execReceiveQueueFeed, ho, feedFirst, hfeed]
  dsimp only
  split <;> exact ⟨_, rfl, hpackets, hhandler, hentry⟩

/-! ### O48 -/

/-- Settles O48: idle mark, launch, drain and feed each by the lemma about its step. -/
theorem binSteps : Obligations.BinSteps := by
  unfold Obligations.BinSteps
  refine ⟨fun s p k b hb => ⟨?_, ?_, ?_, ?_⟩, fun s l v c r hv hr => ⟨?_, ?_, ?_⟩, ?_⟩
  · intro hnow
    rw [exec_binIdleExpiry hb, if_neg (by omega)]
  · intro hnow
    rw [exec_binIdleExpiry hb, if_pos hnow]
    exact ⟨_, rfl, by rw [pav_setPav_same, look_put_same], rfl⟩
  · intro hheld
    rw [exec_binLaunch, launchBin_none hb (launchPlace_held s p b hheld), Option.getD_none]
  · intro core reserved key hplace hkey hready hm hh ht hold
    have hlaunch := launchPlace_eq s p b hready hm hh ht hold
    refine ⟨fun hq => ?_, fun hq => ?_⟩
    · rw [exec_binLaunch, launchBin_none hb (by rw [hlaunch, if_neg (by simp [hq])]), Option.getD_none]
    · rw [if_pos hq, hplace] at hlaunch
      obtain ⟨t, id, e, v, hexec, hfree, hmem, hstart, hchild, hhandler⟩ := execBinLaunch_starts hb hlaunch hkey
      obtain ⟨bl, hbl, hcore, hlin⟩ := hstart.block
      refine ⟨t, id, e, v, bl, hexec, hfree, hmem, by rw [hstart.ents, look_put_same], fun j hj => by rw [hstart.ents, look_put_other _ _ _ _ hj],
        hstart.wave, hstart.waveId, hstart.own, hstart.mask, hstart.park, hstart.pairs, hstart.preds, hbl, hcore, hlin, hstart.reserve, ?_, ?_⟩
      · intro c r hc
        have w := hchild c r hc
        exact ⟨w.kind, w.owner, w.vlimit, w.pc, w.payload, w.joins, w.launch⟩
      · intro h n hc hn hh
        have w := hhandler n h hc hn hh
        exact ⟨w.kind, w.vlimit, w.pc, w.handler, w.args, w.acks, w.tree⟩
  · intro hbins
    obtain ⟨b, hb, hchildren, hentry, hfirst⟩ := binChild_new hbins
    obtain ⟨t, hexec, hring, hpav⟩ := spillRingDrain_moves hv hr hb
    exact ⟨t, b, hexec, hring, by rw [hpav]; rfl, hchildren, hentry, hfirst⟩
  · intro k b hfind
    refine ⟨fun hroom => ?_, fun hfull => ?_⟩
    · obtain ⟨t, hexec, hring, hpav⟩ := spillRingDrain_moves hv hr (binChild_joins hfind hroom)
      exact ⟨t, hexec, hring, by rw [hpav, look_put_same]⟩
    · exact spillRingDrain_stays hv hr (by rw [binChild, binPlace_full (fits := fun b => b.takes c) hfind hfull, Option.map_none])
  · intro hfit hwf hall
    exact spillRingDrain_stays hv hr (by rw [binChild, binPlace_occupied (fits := fun b => b.takes c) hwf hfit hall, Option.map_none])
  · intro s prio q p r h hq hw hp hno hs hh hb
    obtain ⟨rest, ho⟩ := feedOrder_head hq (by simp [hw]) hp hno hs
    obtain ⟨b, d, hexec, hpackets, hhandler, hentry⟩ := receiveQueueFeed_new ho hq hw hh hb
    refine ⟨_, b, hexec, look_put_same _ _ _, ?_, hpackets, hhandler, hentry, rfl, rfl⟩
    exact congrArg (fun q : Pavilion => look q.bins 0) (pav_setPav_same s q.pav _)

end Sys2Proof.Laws

/-! SUPPORT. O52 fails for a launch whose queue number is out of its range. -/

namespace Sys2Proof.Laws

open Sys2Proof Sys2Proof.Machine

/-- Refutes O52. R238 gives each of the two dispatch cores half of the last MiB of die 0's HBM for its mirror of the journal (assumption 64), and the
clause on LAUNCH_COMPLETE says that no byte outside that MiB changes, whatever the number of the launch's queue. A queue number from 1,024 up names a
dispatch core from 2 up (R234), whose half would begin where that MiB ends: the journal record of kind 3 for a launch of queue 1,024, the first of its
core, is written at 0x2540BE4000, whose byte becomes 3 where it was 0. -/
theorem not_launchSteps : ¬ Obligations.LaunchSteps := by
  intro h
  obtain ⟨-, -, -, hcomplete, -⟩ := h
  obtain ⟨t, _, ht, -, -, -, -, -, -, hframe, -⟩ :=
    (hcomplete { State.reset with launches := [(1, Launch.taken (parseRecord 0) 1024 0 0 false 0)] } 1 _ rfl).2 ⟨by decide, .inl ⟨rfl, rfl⟩⟩
  have hwritten : rd t.mem 0x2540BE4000 = 3 := by
    cases ht
    decide +kernel
  have hkept : rd t.mem 0x2540BE4000 = 0 := hframe _ (.inr (Nat.le_refl _))
  exact absurd (hwritten.symm.trans hkept) (by decide)

end Sys2Proof.Laws

/-! SUPPORT. O1, O4: what reads of scalar, vector and predicate registers give after writes, and which lanes are active (R17, R18, R98, R121, R131). -/

namespace Sys2Proof.Laws

open Sys2Proof Sys2Proof.Machine

/-! ### Beats of a lane set (R17, R18) -/

theorem getLsbD_beatOf (m : Lanes) (b i : Nat) : (beatOf m b).getLsbD i = (decide (i < 32) && m.getLsbD (32 * b + i)) := by
  simp [beatOf]

theorem beatOf_eq_extract (m : Lanes) (b : Nat) : beatOf m b = m.extractLsb' (32 * b) 32 := by
  apply BitVec.eq_of_getLsbD_eq
  intro i hi
  rw [getLsbD_beatOf, BitVec.getLsbD_extractLsb']

theorem getLsbD_setBeat (m : Lanes) (b : Nat) (v : Word) {j : Nat} (hj : j < 96) :
    (setBeat m b v).getLsbD j = if j / 32 = b then v.getLsbD (j % 32) else m.getLsbD j := by
  have hones : ∀ i, (0xFFFFFFFF#96).getLsbD i = decide (i < 32) := by
    intro i
    have hw : (0xFFFFFFFF#96) = (BitVec.allOnes 32).setWidth 96 := rfl
    rw [hw, BitVec.getLsbD_setWidth, BitVec.getLsbD_allOnes]
    by_cases hi : i < 32
    · simp [hi]; omega
    · simp [hi]
  simp only [setBeat, BitVec.getLsbD_or, BitVec.getLsbD_and, BitVec.getLsbD_not, BitVec.getLsbD_shiftLeft, BitVec.getLsbD_setWidth, hones, hj]
  by_cases hb : j / 32 = b
  · have hlow : ¬ j < 32 * b := by omega
    have hin : j - 32 * b < 32 := by omega
    have hmod : j - 32 * b = j % 32 := by omega
    have hwide : j % 32 < 96 := by omega
    simp [hb, hlow, hmod, hwide, Nat.mod_lt]
  · by_cases hlow : j < 32 * b
    · simp [hb, hlow]
    · have hout : ¬ j - 32 * b < 32 := by omega
      have hv : v.getLsbD (j - 32 * b) = false := BitVec.getLsbD_of_ge _ _ (by omega)
      simp [hb, hlow, hout, hv]

theorem beatOf_setBeat_same (m : Lanes) {b : Nat} (v : Word) (hb : b < 3) : beatOf (setBeat m b v) b = v := by
  apply BitVec.eq_of_getLsbD_eq
  intro i hi
  have hdiv : (32 * b + i) / 32 = b := by omega
  have hmod : (32 * b + i) % 32 = i := by omega
  rw [getLsbD_beatOf, getLsbD_setBeat m b v (by omega), if_pos hdiv, hmod]
  simp [hi]

theorem beatOf_setBeat_other (m : Lanes) {b c : Nat} (v : Word) (hc : c < 3) (h : c ≠ b) : beatOf (setBeat m b v) c = beatOf m c := by
  apply BitVec.eq_of_getLsbD_eq
  intro i hi
  have hdiv : (32 * c + i) / 32 ≠ b := by omega
  rw [getLsbD_beatOf, getLsbD_beatOf, getLsbD_setBeat m b v (by omega), if_neg hdiv]

/-! ### Scalar registers (R18, R133) -/

@[simp] theorem rS_zero (e : Entity) : e.rS 0 = 0 := rfl
@[simp] theorem wS_zero (e : Entity) (x : Word) : e.wS 0 x = e := rfl

theorem rS_beat (e : Entity) {n : Nat} (h : 61 ≤ n) : e.rS n = beatOf e.mask (n - 61) := by
  have h0 : n ≠ 0 := by omega
  rw [Entity.rS, if_neg h0, if_pos h]

theorem rS_plain (e : Entity) {n : Nat} (h1 : 1 ≤ n) (h2 : n ≤ 60) : e.rS n = (look e.sregs n).getD 0 := by
  have h0 : n ≠ 0 := by omega
  have h61 : ¬ n ≥ 61 := by omega
  rw [Entity.rS, if_neg h0, if_neg h61]

theorem wS_beat (e : Entity) {n : Nat} (x : Word) (h : 61 ≤ n) :
    e.wS n x = { e with mask := setBeat e.mask (n - 61) (x &&& beatOf e.own (n - 61)) } := by
  have h0 : n ≠ 0 := by omega
  rw [Entity.wS, if_neg h0, if_pos h]

theorem wS_plain (e : Entity) {n : Nat} (x : Word) (h1 : 1 ≤ n) (h2 : n ≤ 60) : e.wS n x = { e with sregs := put e.sregs n x } := by
  have h0 : n ≠ 0 := by omega
  have h61 : ¬ n ≥ 61 := by omega
  rw [Entity.wS, if_neg h0, if_neg h61]

/-- What a register reads depends on the mask, for a beat, or on the register's own entry. -/
theorem rS_congr {e e' : Entity} {m : Nat} (hmask : 61 ≤ m → beatOf e'.mask (m - 61) = beatOf e.mask (m - 61))
    (hregs : m ≤ 60 → look e'.sregs m = look e.sregs m) : e'.rS m = e.rS m := by
  rcases Nat.eq_zero_or_pos m with rfl | hpos
  · rfl
  · rcases Nat.lt_or_ge m 61 with hm | hm
    · rw [rS_plain e' hpos (by omega), rS_plain e hpos (by omega), hregs (by omega)]
    · rw [rS_beat e' hm, rS_beat e hm, hmask hm]

/-- R18: a write to one scalar register leaves what every other reads. -/
theorem rS_wS_other (e : Entity) {n m : Nat} (x : Word) (hn : n < 64) (hm : m < 64) (h : m ≠ n) : (e.wS n x).rS m = e.rS m := by
  rcases Nat.eq_zero_or_pos n with rfl | hpos
  · rfl
  · rcases Nat.lt_or_ge n 61 with hplain | hbeat
    · rw [wS_plain e x hpos (by omega)]
      exact rS_congr (fun _ => rfl) (fun _ => look_put_other _ _ _ _ h)
    · rw [wS_beat e x hbeat]
      exact rS_congr (fun hm61 => beatOf_setBeat_other _ _ (by omega) (by omega)) (fun _ => rfl)

/-- Settles O1: register 0, the plain registers and the beats of the mask each by the lemma about what it reads. -/
theorem scalarRegisterFile : Obligations.ScalarRegisterFile := by
  unfold Obligations.ScalarRegisterFile
  intro e n m x
  have hn : n.toNat < 64 := n.isLt
  have hm : m.toNat < 64 := m.isLt
  refine ⟨rS_zero e, wS_zero e x, fun h1 h60 => ?_, fun h61 => ?_, fun h61 => ?_, fun hne => ?_⟩
  · rw [wS_plain e x h1 h60, rS_plain _ h1 h60]
    exact ⟨by rw [look_put_same]; rfl, rfl⟩
  · rw [rS_beat e h61, beatOf_eq_extract]
  · rw [wS_beat e x h61, rS_beat _ h61, beatOf_setBeat_same _ _ (by omega), beatOf_eq_extract]
  · exact rS_wS_other e x hn hm (fun h => hne (BitVec.eq_of_toNat_eq h))

/-! ### Vector registers and predicates (R98, R121, R153) -/

theorem rV_wV_same (v : Wave) (n : Nat) (act : Lanes) (f : Nat → Word) {i : Nat} (hi : i < 96) :
    (v.wV n act f).rV n i = if act.getLsbD i then f i else v.rV n i := by
  rw [Wave.wV, Wave.rV]
  dsimp only
  rw [look_put_same, Option.getD_some, getD_map_laneList _ hi]

theorem rV_wV_other (v : Wave) {n m : Nat} (act : Lanes) (f : Nat → Word) (i : Nat) (h : m ≠ n) : (v.wV n act f).rV m i = v.rV m i := by
  rw [Wave.wV, Wave.rV]
  dsimp only
  rw [look_put_other _ _ _ _ h, Wave.rV]

/-- R98: the low words of a pair are written to the named register, the high words to the next. -/
theorem rVPair_wVPair_same (v : Wave) (n : Nat) (act : Lanes) (g : Nat → Dword) {i : Nat} (hi : i < 96) :
    (v.wVPair n act g).rVPair n i = if act.getLsbD i then g i else v.rVPair n i := by
  have hhigh : (v.wVPair n act g).rV (n + 1) i = if act.getLsbD i then (g i >>> 32).setWidth 32 else v.rV (n + 1) i := by
    rw [Wave.wVPair, rV_wV_same _ _ _ _ hi, rV_wV_other _ _ _ _ (Nat.succ_ne_self n)]
  have hlow : (v.wVPair n act g).rV n i = if act.getLsbD i then (g i).setWidth 32 else v.rV n i := by
    rw [Wave.wVPair, rV_wV_other _ _ _ _ (Nat.succ_ne_self n).symm, rV_wV_same _ _ _ _ hi]
  rw [Wave.rVPair, hhigh, hlow]
  split
  · apply BitVec.eq_of_getLsbD_eq
    intro j hj
    rw [BitVec.getLsbD_append]
    by_cases h32 : j < 32
    · simp [h32]
    · have hback : 32 + (j - 32) = j := by omega
      have hlt : j - 32 < 32 := by omega
      simp [h32, hback, hlt]
  · rfl

theorem rP_zero (v : Wave) : v.rP 0 = BitVec.allOnes 96 := rfl
theorem wP_zero (v : Wave) (act : Lanes) (q : Nat → Bool) : v.wP 0 act q = v := rfl

theorem wP_pos (v : Wave) {n : Nat} (act : Lanes) (q : Nat → Bool) (hn : n ≠ 0) :
    v.wP n act q = { v with preds := put v.preds n (lanesOf (fun i => if act.getLsbD i then q i else (v.rP n).getLsbD i)) } := by
  rw [Wave.wP, if_neg hn]

theorem rP_wP_same (v : Wave) {n : Nat} (act : Lanes) (q : Nat → Bool) {i : Nat} (hn : n ≠ 0) (hi : i < 96) :
    ((v.wP n act q).rP n).getLsbD i = if act.getLsbD i then q i else (v.rP n).getLsbD i := by
  rw [wP_pos v act q hn, Wave.rP, if_neg hn]
  dsimp only
  rw [look_put_same, Option.getD_some, getLsbD_lanesOf _ hi]

theorem rP_wP_other (v : Wave) {n m : Nat} (act : Lanes) (q : Nat → Bool) (h : m ≠ n) : (v.wP n act q).rP m = v.rP m := by
  by_cases hn : n = 0
  · subst hn; rfl
  · rw [wP_pos v act q hn, Wave.rP]
    dsimp only
    rw [look_put_other _ _ _ _ h, ← Wave.rP]

theorem wP_vregs (v : Wave) (n : Nat) (act : Lanes) (q : Nat → Bool) : (v.wP n act q).vregs = v.vregs := by
  unfold Wave.wP; split <;> rfl

/-! ### Active lanes (R121, R131, R142, R262) -/

theorem getLsbD_pred (c : Ctx) (p : BitVec 3) {i : Nat} (hi : i < 96) :
    (c.pred p).getLsbD i = ((c.v.rP p.toNat).getLsbD i != c.pneg) := by
  unfold Ctx.pred
  cases c.pneg <;> simp [hi]

theorem lanes_first (c : Ctx) (h : c.e.replay = false) : c.lanes = c.e.mask := by
  simp [Ctx.lanes, h]

theorem lanes_replay (c : Ctx) (h : c.e.replay = true) : c.lanes = c.e.mask &&& c.e.fmask := by
  simp [Ctx.lanes, h]

theorem active_unpredicated (c : Ctx) (h : c.pneg = false) : c.active 0 = c.lanes := by
  have hp : c.pred 0 = BitVec.allOnes 96 := by simp [Ctx.pred, h, rP_zero]
  rw [Ctx.active, hp, BitVec.and_allOnes]

/-- Settles O4: the writes by what each register reads after them; the active lanes by the mask, FMASK and the predicate. -/
theorem vectorRegisterFile : Obligations.VectorRegisterFile := by
  unfold Obligations.VectorRegisterFile
  refine ⟨fun v n m act f g q i hi => ?_, fun s k e v p i hi => ?_⟩
  · exact ⟨rV_wV_same v n act f hi, rV_wV_other v act f i, rfl, rfl, rVPair_wVPair_same v n act g hi, rfl, rP_zero v, wP_zero v act q,
      fun hn => rP_wP_same v act q hn hi, rP_wP_other v act q, wP_vregs v n act q⟩
  · intro c neg
    have hactive : (c.active p).getLsbD i = (c.lanes.getLsbD i && ((v.rP p.toNat).getLsbD i != neg)) := by
      rw [Ctx.active, BitVec.getLsbD_and, getLsbD_pred c p hi]
      rfl
    refine ⟨fun hfirst => ?_, fun hreplay => ?_, fun hfirst hneg => ?_⟩
    · rw [hactive, lanes_first c hfirst]
    · rw [hactive, lanes_replay c hreplay, BitVec.getLsbD_and]
    · rw [active_unpredicated c hneg, lanes_first c hfirst]

end Sys2Proof.Laws

/-! SUPPORT. O20: where an entity stands after a word or a transfer (R19, R122, R139). -/

namespace Sys2Proof.Laws

open Sys2Proof Sys2Proof.Machine

theorem retire_ends {e : Entity} {last : Bool} (h : last = true ∨ 24 ≤ e.words + 1) :
    (e.retire last).boundary = true ∧ (e.retire last).words = 0 ∧ (e.retire last).buf = [] := by
  have hend : last = true ∨ e.words + 1 ≥ Config.runLength := h
  simp only [Entity.retire, if_pos hend, endRun_boundary, endRun_words, endRun_buf, and_self]

theorem retire_continues {e : Entity} {last : Bool} (hlast : last = false) (h : e.words + 1 < 24) :
    (e.retire last).boundary = e.boundary ∧ (e.retire last).words = e.words + 1 ∧ (e.retire last).buf = e.buf.tail := by
  have hgo : ¬ (last = true ∨ e.words + 1 ≥ Config.runLength) := by
    rintro (h' | h')
    · simp [hlast] at h'
    · exact Nat.not_le.mpr h h'
  simp only [Entity.retire, if_neg hgo, and_self]

/-- Settles O20: by the fields of `Entity.retire` and `Entity.jump`, and by whether the run ends. -/
theorem entityGoesOn : Obligations.EntityGoesOn := by
  unfold Obligations.EntityGoesOn
  intro e last pc
  refine ⟨retire_pc e last, retire_chain e last, retire_ends, retire_continues, jump_pc e pc, jump_boundary e pc, jump_chain e pc, ?_⟩
  intro x hx
  obtain rfl | rfl : x = e.retire last ∨ x = e.jump pc := by simpa using hx
  · simp
  · simp

end Sys2Proof.Laws

/-! SUPPORT. O56: what a step adds around the instruction that it runs (R19 to R21, R126, R277). -/

namespace Sys2Proof.Laws

open Sys2Proof Sys2Proof.Machine

/-! ### What a step notes before a word (R277) -/

/-- Everything that is noted before a word of a core: what a strike may bring back, and the core's committing operations that it can still reach. -/
theorem remember_cases (s : State) (c : Nat) : ∃ hs ls, remember s c = { s with hist := hs, links := ls } ∨
    ∃ x, remember s c = { s.setCore c { s.core c with crossed := x } with hist := hs, links := ls } := by
  unfold remember prune
  dsimp only
  split
  · exact ⟨_, _, .inl rfl⟩
  · exact ⟨_, _, .inr ⟨_, rfl⟩⟩

theorem core_setCore (s : State) (c j : Nat) (v : Core) : (s.setCore c v).core j = if j = c then v else s.core j := by
  rw [State.core, setCore_cores, look_put]
  split <;> rfl

theorem remember_frame (s : State) (c : Nat) : { remember s c with hist := s.hist, links := s.links, cores := s.cores } = s := by
  obtain ⟨hs, ls, h | ⟨x, h⟩⟩ := remember_cases s c
  · rw [h]
  · rw [h]; rfl

theorem remember_cores_other (s : State) {c j : Nat} (hj : j ≠ c) : look (remember s c).cores j = look s.cores j := by
  obtain ⟨hs, ls, h | ⟨x, h⟩⟩ := remember_cases s c
  · rw [h]
  · rw [h]; exact look_put_other _ _ _ _ hj

theorem remember_core (s : State) (c : Nat) : ∃ x, (remember s c).core c = { s.core c with crossed := x } := by
  obtain ⟨hs, ls, h | ⟨x, h⟩⟩ := remember_cases s c
  · exact ⟨_, by rw [h]; rfl⟩
  · refine ⟨x, ?_⟩
    rw [h]
    exact (core_setCore s c c _).trans (if_pos rfl)

/-! ### Whose turn it is after a word (R15, R21) -/

/-- Everything that settling the turn does: it holds the slot's vector unit, or moves the focus. -/
theorem afterWord_cases (s : State) (k hold : Nat) :
    (∃ x, afterWord s k hold = s.setCore (coreOfKey k) { s.core (coreOfKey k) with vec := x }) ∨
      ∃ x, afterWord s k hold = { s with focus := x } := by
  unfold afterWord
  dsimp only
  (repeat' split)
  · exact .inr ⟨_, rfl⟩
  · exact .inl ⟨_, rfl⟩
  · exact .inr ⟨_, rfl⟩
  · exact .inr ⟨_, rfl⟩

theorem afterWord_frame (s : State) (k hold : Nat) : { afterWord s k hold with focus := s.focus, cores := s.cores } = s := by
  obtain ⟨x, h⟩ | ⟨x, h⟩ := afterWord_cases s k hold
  · rw [h]; rfl
  · rw [h]

theorem afterWord_core (s : State) (k hold j : Nat) :
    ((afterWord s k hold).core j).data = (s.core j).data ∧ ((afterWord s k hold).core j).icache = (s.core j).icache := by
  obtain ⟨x, h⟩ | ⟨x, h⟩ := afterWord_cases s k hold
  · rw [h, core_setCore]
    split
    · subst_vars; exact ⟨rfl, rfl⟩
    · exact ⟨rfl, rfl⟩
  · rw [h]; exact ⟨rfl, rfl⟩

/-! ### What a step runs (R19, R20, R126) -/

theorem instrOf_eq {w : Word} {i : Instr} (h : decode w = some i ∨ (decode w = none ∧ i = .illegalWord w)) : instrOf w = i := by
  rcases h with h | ⟨h, rfl⟩ <;> rw [instrOf, h] <;> rfl

theorem step_scheduled {s : State} {d : Instr} {r : List Instr} (hs : s.sched = d :: r) (hd : isDevice d = true) :
    step s = exec d { passTime s with sched := r } := by
  have hsched : (passTime s).sched = d :: r := hs
  simp only [step, advance, hsched, hd, if_true]

/-- The entity in focus issues the first word of its buffer when it runs, nothing holds or halts it, and it is not waiting to try again. -/
theorem issuing_eq {s : State} {k : Nat} {e : Entity} {w : Word} {r : List Word} (hf : s.focus = some k) (he : look s.ents k = some e)
    (hb : e.buf = w :: r) (hp : e.park = .running) (hrun : e.boundary = false) (hg : heldByGen s k e = false) (hh : haltedEnt s k e = false)
    (hst : e.stalled = none ∨ s.now % 2 = 1) : issuing s = some (k, w) := by
  have htry : e.stalled.isNone = true ∨ s.now % 2 = 1 := hst.imp_left Option.isNone_iff_eq_none.mpr
  simp only [issuing, hf, he, hb, hp, hrun, hg, hh, htry, and_self, if_true]

/-- With nothing scheduled, a step in which an entity issues a word runs the word's instruction and then settles the turn. -/
theorem step_issues {s : State} {k : Nat} {w : Word} (hs : s.sched = []) (hi : issuing (passTime s) = some (k, w)) :
    step s = match exec (instrOf w) (remember (passTime s) (coreOfKey k)) with
      | .next t => .next (afterWord t k (vectorHold (passTime s) k w)) | .fault f => .fault f | .refused f => .refused f := by
  have hsched : (passTime s).sched = [] := hs
  simp only [step, advance, hsched, hi, issueWord]
  cases exec (instrOf w) (remember (passTime s) (coreOfKey k)) <;> rfl

theorem placeWord_entity (s : State) (w : Word) : look (passTime (placeWord s w)).ents 0 = some (placedEntity w) := look_put_same _ _ _

theorem placeWord_wave (s : State) (w : Word) : look (passTime (placeWord s w)).waves 0 = some placedWave := look_put_same _ _ _

/-- Assumption 1: the pavilion of a placed word is not being halted. -/
theorem placeWord_halting (s : State) (w : Word) : ((passTime (placeWord s w)).pav 0).halting = false := by
  show (Option.getD (look (if (s.pav 0).halting then _ else s.pavs) 0) _).halting = false
  split
  · rw [look_put_same]; rfl
  · rename_i h
    exact Bool.eq_false_iff.mpr h

theorem placeWord_haltedEnt (s : State) (w : Word) : haltedEnt (passTime (placeWord s w)) 0 (placedEntity w) = false := by
  have hown : ownerOf (passTime (placeWord s w)) 0 = .launch 0 := by rw [ownerOf, placeWord_wave]; rfl
  have hlaunch : launchOf (passTime (placeWord s w)) (.launch 0) = none := by
    show look (erase s.launches 0) 0 = none
    rw [look_erase, if_pos rfl]
  have hwave : (placedEntity w).wave = 0 := rfl
  have hpav : pavOfCore (coreOfKey 0) = 0 := rfl
  rw [haltedEnt, hwave, hown, hlaunch, hpav, placeWord_halting]
  rfl

/-- Assumption 1: a placed word is the one that the next step issues. -/
theorem placeWord_issuing (s : State) (w : Word) : issuing (passTime (placeWord s w)) = some (0, w) := by
  refine issuing_eq (r := []) rfl (placeWord_entity s w) rfl rfl rfl ?_ (placeWord_haltedEnt s w) (.inl rfl)
  show heldByGen _ 0 _ = _
  have hwave : (placedEntity w).wave = 0 := rfl
  rw [heldByGen, hwave, placeWord_wave]
  rfl

/-- Settles O56: what a step notes, the turn after a word, and the two ways a step runs an instruction, each by its lemma. -/
theorem stepRunsDecoded : Obligations.StepRunsDecoded := by
  unfold Obligations.StepRunsDecoded
  intro timed
  refine ⟨?_, fun s c => ⟨remember_frame s c, fun j hj => remember_cores_other s hj, remember_core s c⟩,
    fun s k hold => ⟨afterWord_frame s k hold, afterWord_core s k hold⟩, fun s d r hs hd => step_scheduled hs hd, ?_⟩
  · intro s k e w r i hs hf he hb hp hrun hg hh hst hi
    have hstep := step_issues hs (issuing_eq (s := passTime s) hf he hb hp hrun hg hh hst)
    rw [instrOf_eq hi] at hstep
    refine ⟨fun t ht => ?_, fun f hfault => ?_, fun f hrefused => ?_⟩
    · have ht' : exec i (remember (passTime s) (coreOfKey k)) = .next t := ht
      rw [hstep, ht']; rfl
    · have hfault' : exec i (remember (passTime s) (coreOfKey k)) = .fault f := hfault
      rw [hstep, hfault']
    · have hrefused' : exec i (remember (passTime s) (coreOfKey k)) = .refused f := hrefused
      rw [hstep, hrefused']
  · intro s w i hi
    have hstep := step_issues (s := placeWord s w) rfl (placeWord_issuing s w)
    rw [instrOf_eq (.inl hi)] at hstep
    exact ⟨_, hstep, rfl, rfl, by rw [placeWord_entity]; rfl⟩

end Sys2Proof.Laws

/-! SUPPORT. O23, O24: how VBR divides an entity and RCV joins what it divided (R23 to R25, R143). -/

namespace Sys2Proof.Laws

open Sys2Proof Sys2Proof.Machine

/-! ### Words that say themselves where their entity stands -/

section
variable {s : State} {k : Nat} {e : Entity} {v : Wave} {sh : Shape} {chk : Ctx → List Trap} {act : Ctx → Res}

theorem issue_left {t : State} (h : Claim.Issues s k e v sh.ops sh.acc) (hc : chk (Claim.ctx s k e v) = []) (ha : act (Claim.ctx s k e v) = .left t) :
    issue sh chk act s = .next t := by
  rw [issue_act h hc, ha]

theorem look_setEnt_same (s : State) (k : Nat) (x : Entity) : look (s.setEnt k x).ents k = some x := look_put_same _ _ _

theorem look_setEnt_other (s : State) {k j : Nat} (x : Entity) (h : j ≠ k) : look (s.setEnt k x).ents j = look s.ents j := look_put_other _ _ _ _ h

/-- The entity alone is set; its wave and all else stand. -/
theorem after_setEnt (h : Claim.At s k e v) (x : Entity) : Claim.After s (s.setEnt k x) k x e.wave v :=
  ⟨look_setEnt_same s k x, h.2.2, fun _ hj => look_setEnt_other s x hj, fun _ _ => rfl, rfl⟩

/-- A word whose effect changes nothing leaves its entity after it. -/
theorem issue_unchanged (h : Claim.Issues s k e v sh.ops sh.acc) (hc : chk (Claim.ctx s k e v) = []) (ha : act (Claim.ctx s k e v) = .done s)
    (hprog : sh.prog = false) : ∃ t, issue sh chk act s = .next t ∧ Claim.After s t k (e.retire sh.e) e.wave v := by
  have hact := issue_act (act := act) h hc
  obtain ⟨hat, -, -, -, -, hpoison⟩ := h
  rw [ha] at hact
  dsimp only at hact
  rw [cleans_self hpoison, goOn_look hat.2.1, hprog, Bool.or_false] at hact
  exact ⟨_, hact, after_setEnt hat _⟩

end

/-! ### Poison of scalars (R275) -/

theorem clean_self {s : State} {hit : Poison → Bool} (h : ∀ p ∈ s.poison, hit p = false) : s.clean hit = s := by
  have hf : s.poison.filter (fun p => !(hit p)) = s.poison := by
    rw [List.filter_eq_self]
    intro p hp
    rw [h p hp]; rfl
  unfold State.clean
  split
  · rfl
  · rw [hf]

/-- Without poisoned registers a fragment's scalars bring it none. -/
theorem copyScalarPoison_self {s : State} (h : s.poison.all (fun p => !p.inRegisters) = true) (w k f : Nat) : copyScalarPoison s w k f = s := by
  have hscalar : ∀ x y n, Poison.scalar x y n ∉ s.poison := by
    intro x y n hp
    have := List.all_eq_true.mp h _ hp
    simp [Poison.inRegisters, Poison.ofWave] at this
  have hclean : cleanScalars s w f = s := by
    apply clean_self
    intro p hp
    cases p with
    | scalar x y n => exact absurd hp (hscalar x y n)
    | _ => rfl
  unfold copyScalarPoison
  rw [hclean, List.filterMap_eq_nil_iff.mpr]
  · rfl
  · intro p hp
    cases p with
    | scalar x y n => exact absurd hp (hscalar x y n)
    | _ => rfl

/-! ### Divergence (R23, R143) -/

/-- R23: a free fetch slot is one of the entity's issue slot, and no entity stands there. -/
theorem freeFslot_some {s : State} {k f : Nat} (h : freeFslot s k = some f) : f / 8 = k / 8 ∧ look s.ents f = none := by
  unfold freeFslot at h
  split at h
  · cases h
  · have hmem := List.mem_of_find?_eq_some h
    have hfree := List.find?_some h
    obtain ⟨i, hi, rfl⟩ := List.mem_map.mp hmem
    have hi8 : i < 8 := List.mem_range.mp hi
    exact ⟨by omega, Option.isNone_iff_eq_none.mp hfree⟩

/-- R23, R143: VBR with both sides non-empty divides the entity, once its scalars have their values. -/
theorem exec_vbr_diverges {s : State} {k : Nat} {e : Entity} {v : Wave} {q : BitVec 3} {toff koff : BitVec 11} {c : Ctx} (hctx : c = Claim.ctx s k e v)
    (h : Claim.Issues s k e v [oP q] { pneg := true }) (htaken : c.lanes &&& c.pred q ≠ 0) (hother : c.lanes &&& ~~~(c.pred q) ≠ 0)
    (hpend : pendS s k = []) :
    exec (.vbr q toff koff) s = .next (diverge c (c.lanes &&& c.pred q) (c.lanes &&& ~~~(c.pred q)) (e.pc + 4 * toff.signExtend 64) (e.pc + 4)
      (e.pc + 4 * koff.signExtend 64)) := by
  subst hctx
  refine issue_left h rfl ?_
  have hready : (pendS (Claim.ctx s k e v).s (Claim.ctx s k e v).k).isEmpty = true := List.isEmpty_iff.mpr hpend
  dsimp only
  rw [if_neg htaken, if_neg hother, hready]
  rfl

/-- R23: detached mode. The larger side stays, the other side starts as a fragment in the free slot. -/
theorem diverge_detached {c : Ctx} {taken other rest : Lanes} {target fall token : Dword} {f : Nat} (hf : freeFslot c.s c.k = some f)
    (hpoison : c.s.poison.all (fun p => !p.inRegisters) = true) {larger : Bool} (hl : decide (lanesCount other < lanesCount taken) = larger)
    (hrest : c.e.own &&& ~~~(taken ||| other) = rest) :
    diverge c taken other target fall token =
      (c.s.setEnt c.k (({ c.e with
        mask := if larger then taken else other, own := (if larger then taken else other) ||| rest
        pairs := { token := token, mode := .detached f true } :: c.e.pairs } : Entity).jump (if larger then target else fall))).setEnt f
        (fragment c.e c.k token (if larger then fall else target) (if larger then other else taken) (c.e.seen ++ ownUnderWay c.s c.k c.e.wave)) := by
  simp only [diverge, hf, hl, hrest]
  exact copyScalarPoison_self (by exact hpoison) _ _ _

/-- R23: serial mode. The taken side runs, and the record keeps the other's. -/
theorem diverge_serial {c : Ctx} {taken other rest : Lanes} {target fall token : Dword} (hf : freeFslot c.s c.k = none)
    {larger : Bool} (hl : decide (lanesCount other < lanesCount taken) = larger) (hrest : c.e.own &&& ~~~(taken ||| other) = rest) :
    diverge c taken other target fall token = c.s.setEnt c.k (({ c.e with
      mask := taken, own := if larger then taken ||| rest else taken
      pairs := { token := token, mode := .serialTaken larger other (if larger then other else other ||| rest) fall c.e.snap } :: c.e.pairs } :
        Entity).jump target) := by
  simp only [diverge, hf, hl, hrest]

theorem sides_disjoint (m p : Lanes) : (m &&& p) &&& (m &&& ~~~p) = 0 := by
  apply BitVec.eq_of_getLsbD_eq
  intro i hi
  simp only [BitVec.getLsbD_and, BitVec.getLsbD_not]
  cases p.getLsbD i <;> simp

theorem sides_cover (m p : Lanes) : (m &&& p) ||| (m &&& ~~~p) = m := by
  apply BitVec.eq_of_getLsbD_eq
  intro i hi
  simp only [BitVec.getLsbD_or, BitVec.getLsbD_and, BitVec.getLsbD_not, hi]
  cases p.getLsbD i <;> simp

/-- Settles O23: the sides are the mask cut by the predicate; each mode by the state in which VBR leaves it. -/
theorem divergenceWord : Obligations.DivergenceWord := by
  unfold Obligations.DivergenceWord
  intro s k e v q toff koff c taken other rest target token larger hissues htaken hother hpend
  have hexec := exec_vbr_diverges (toff := toff) (koff := koff) (c := c) rfl hissues htaken hother hpend
  obtain ⟨hat, -, -, -, -, hpoison⟩ := hissues
  refine ⟨sides_disjoint _ _, sides_cover _ _, fun f hf => ?_, fun hf => ?_⟩
  · obtain ⟨hslot, hfree⟩ := freeFslot_some hf
    have hne : k ≠ f := by
      rintro rfl
      rw [hat.2.1] at hfree; cases hfree
    have hdetached := hexec.trans (congrArg Host.Outcome.next
      (diverge_detached (c := c) (taken := taken) (other := other) (rest := rest) (larger := larger) hf hpoison rfl rfl))
    exact ⟨_, _, _, hdetached, (look_setEnt_other _ _ hne).trans (look_setEnt_same _ _ _), look_setEnt_same _ _ _, rfl,
      fun j hjk hjf => (look_setEnt_other _ _ hjf).trans (look_setEnt_other _ _ hjk), hslot.symm, hfree,
      jump_mask _ _, jump_own _ _, jump_pc _ _, jump_pairs _ _, jump_sregs _ _, rfl, rfl, rfl, rfl, rfl, rfl, rfl⟩
  · have hserial := hexec.trans (congrArg Host.Outcome.next
      (diverge_serial (c := c) (taken := taken) (other := other) (rest := rest) (larger := larger) hf rfl rfl))
    exact ⟨_, _, hserial, after_setEnt hat _, jump_mask _ _, jump_pc _ _, jump_sregs _ _, jump_own _ _, jump_pairs _ _⟩

/-! ### Reconvergence (R25, R143) -/

@[simp] theorem resumeAt_mask (e : Entity) (pc : Dword) : (e.resumeAt pc).mask = e.mask := jump_mask e pc
@[simp] theorem resumeAt_own (e : Entity) (pc : Dword) : (e.resumeAt pc).own = e.own := jump_own e pc
@[simp] theorem resumeAt_pairs (e : Entity) (pc : Dword) : (e.resumeAt pc).pairs = e.pairs := jump_pairs e pc
@[simp] theorem resumeAt_pc (e : Entity) (pc : Dword) : (e.resumeAt pc).pc = pc := jump_pc e pc
@[simp] theorem resumeAt_sregs (e : Entity) (pc : Dword) : (e.resumeAt pc).sregs = e.sregs := jump_sregs e pc

/-- R25: the staying side has taken the other in: `x` is what it becomes, in the slot it had, and the other's slot is free. -/
theorem mergePair_ents (s : State) (k : Nat) (e : Entity) (f : Nat) (g : Entity) (after : Dword) :
    ∃ x, (mergePair s k e f g after).ents = put (erase s.ents f) k x ∧ x.mask = e.mask ||| g.mask ∧ x.own = e.own ||| g.own ∧
      x.pairs = e.pairs.tail ∧ x.pc = after ∧ x.park = .running ∧ x.sregs = e.sregs := by
  refine ⟨_, (congrArg (put · k _) (clean_ents _ _) : (mergePair s k e f g after).ents = _), ?_⟩
  exact ⟨resumeAt_mask _ _, resumeAt_own _ _, resumeAt_pairs _ _, resumeAt_pc _ _, rfl, resumeAt_sregs _ _⟩

/-- Merged, the fragment is gone, and of the entities only the staying side has changed. -/
theorem mergePair_look {s : State} {k f : Nat} (e g : Entity) (after : Dword) (hne : f ≠ k) :
    ∃ x, look (mergePair s k e f g after).ents f = none ∧ look (mergePair s k e f g after).ents k = some x ∧
      (∀ j, j ≠ k → j ≠ f → look (mergePair s k e f g after).ents j = look s.ents j) ∧
      x.mask = e.mask ||| g.mask ∧ x.own = e.own ||| g.own ∧ x.pairs = e.pairs.tail ∧ x.pc = after ∧ x.park = .running ∧ x.sregs = e.sregs := by
  obtain ⟨x, hents, hx⟩ := mergePair_ents s k e f g after
  refine ⟨x, ?_, ?_, fun j hjk hjf => ?_, hx⟩
  · rw [hents, look_put_other _ _ _ _ hne, look_erase, if_pos rfl]
  · rw [hents, look_put_same]
  · rw [hents, look_put_other _ _ _ _ hjk, look_erase, if_neg hjf]

theorem reconverge_past {c : Ctx} (h : ∀ p ∈ c.e.pairs.head?, p.token ≠ c.e.pc) : reconverge c = .done c.s := by
  unfold reconverge
  cases hp : c.e.pairs with
  | nil => rfl
  | cons p rest =>
    dsimp only
    rw [if_pos (h p (by rw [hp]; rfl))]

section
variable {c : Ctx} {p : Pair} {rest : List Pair} (hp : c.e.pairs = p :: rest) (ht : p.token = c.e.pc) (hw : pendS c.s c.k = [])
include hp ht hw

/-- R25: the first side of a detached pair waits at the token. -/
theorem reconverge_parks {f : Nat} {stays : Bool} {q : Entity} (hm : p.mode = .detached f stays) (hq : look c.s.ents f = some q)
    (hpark : q.park ≠ .rcv) : reconverge c = .left (c.parkPast .rcv) := by
  simp [reconverge, hp, ht, hw, hm, hq, hpark]

/-- R25: the second side finds the first one waiting at the token of their pair, and the staying side takes the other in. -/
theorem reconverge_merges {f : Nat} {stays y : Bool} {q : Entity} {r : List Pair} (hm : p.mode = .detached f stays) (hq : look c.s.ents f = some q)
    (hpark : q.park = .rcv) (hqp : q.pairs = { token := p.token, mode := .detached c.k y } :: r) :
    reconverge c = .left (if stays then mergePair c.s c.k c.e f q (c.e.pc + 4) else mergePair c.s f q c.k c.e (c.e.pc + 4)) := by
  cases stays <;> simp [reconverge, hp, ht, hw, hm, hq, hpark, hqp]

/-- R25: at the end of the taken side the other side runs, from the snapshot. -/
theorem reconverge_serialTaken {larger : Bool} {mask own : Lanes} {pc : Dword} {snap : Snap} (hm : p.mode = .serialTaken larger mask own pc snap) :
    reconverge c = .left (c.s.setEnt c.k { (c.e.unsnap snap).jump pc with
      mask := mask, own := own, pairs := { token := p.token, mode := .serialNot larger c.e.mask c.e.own c.e.snap } :: rest }) := by
  simp [reconverge, hp, ht, hw, hm]

/-- R25: at the end of the other side both are joined, and the state of the larger one stands. -/
theorem reconverge_serialNot {larger : Bool} {mask own : Lanes} {snap : Snap} (hm : p.mode = .serialNot larger mask own snap) :
    reconverge c = .left (c.s.setEnt c.k { (if larger then c.e.unsnap snap else c.e).jump (c.e.pc + 4) with
      mask := c.e.mask ||| mask, own := c.e.own ||| own, pairs := rest }) := by
  simp [reconverge, hp, ht, hw, hm]

end

/-- Settles O24: each row of R25's table by the effect of RCV there. -/
theorem reconvergenceWord : Obligations.ReconvergenceWord := by
  unfold Obligations.ReconvergenceWord
  intro s k e v E hissues run
  have hat : Claim.At s k e v := hissues.1
  have hleft : ∀ {t}, reconverge (Claim.ctx s k e v) = .left t → run t := fun h => issue_left (sh := { e := true, ops := [] }) hissues rfl h
  refine ⟨fun hpast => issue_unchanged (sh := { e := true, ops := [] }) hissues rfl (reconverge_past (c := Claim.ctx s k e v) hpast) rfl, ?_⟩
  intro p rest hp ht hw
  have hp' : (Claim.ctx s k e v).e.pairs = p :: rest := hp
  refine ⟨?_, ?_, ?_, ?_, ?_⟩
  · intro f stays q hm hq hpark
    exact ⟨_, _, hleft (reconverge_parks hp' ht hw hm hq hpark), after_setEnt hat _, rfl,
      jump_mask e e.chainPc, jump_own e e.chainPc, jump_sregs e e.chainPc⟩
  · intro f q y hm hne hq _ hpark hqp
    obtain ⟨x, hgone, hk, hothers, hmask, hown, hpairs, hpc, hrun, hregs⟩ := mergePair_look (s := s) (k := k) (f := f) e q (e.pc + 4) hne
    exact ⟨_, x, hleft (reconverge_merges hp' ht hw hm hq hpark hqp), hgone, hk, hothers, hmask, hown, by rw [hpairs, hp]; rfl, hpc, hrun, hregs⟩
  · intro f q y r hm hne hq _ hpark hqp
    obtain ⟨x, hgone, hf, hothers, hmask, hown, hpairs, hpc, hrun, hregs⟩ := mergePair_look (s := s) (k := f) (f := k) q e (e.pc + 4) hne.symm
    exact ⟨_, x, hleft (reconverge_merges hp' ht hw hm hq hpark hqp), hgone, hf, fun j hjk hjf => hothers j hjf hjk, hmask, hown,
      by rw [hpairs, hqp]; rfl, hpc, hrun, hregs⟩
  · intro larger mask own pc snap hm
    exact ⟨_, _, hleft (reconverge_serialTaken hp' ht hw hm), after_setEnt hat _, rfl, rfl, jump_pc (e.unsnap snap) pc,
      jump_sregs (e.unsnap snap) pc, jump_fpctl (e.unsnap snap) pc, jump_trapPc (e.unsnap snap) pc, jump_hsave (e.unsnap snap) pc, rfl⟩
  · intro larger mask own snap hm
    have hlarger : ∀ {α : Type} (f : Entity → α), f (if larger then e.unsnap snap else e) = if larger then f (e.unsnap snap) else f e := fun f =>
      apply_ite f _ _ _
    exact ⟨_, _, hleft (reconverge_serialNot hp' ht hw hm), after_setEnt hat _, rfl, rfl,
      jump_pc (if larger then e.unsnap snap else e) (e.pc + 4), (jump_sregs _ (e.pc + 4)).trans (hlarger Entity.sregs),
      (jump_fpctl _ (e.pc + 4)).trans (hlarger Entity.fpctl), rfl⟩

end Sys2Proof.Laws

/-! SUPPORT. O44 fails for a wave whose number the package has still to give out. -/

namespace Sys2Proof.Laws

open Sys2Proof Sys2Proof.Machine

/-- A child whose handler is at 16. -/
def startingChild : Child := { asid := 0, entry := 0, join := 0, payload := [], owner := .launch 0, vlimit := 8, handler := 16, pav := 0 }

/-- A child that needs more registers than a core has. -/
def roomlessChild : Child := { startingChild with entry := 4, vlimit := 4096 }

/-- The full bin of a child's entry point. -/
def fullBin (c : Child) : Bin :=
  { asid := c.asid, entry := c.entry, handler := none, children := List.replicate 96 c, packets := [], firstAt := 0, lastAt := 0, idle := false,
    due := false, relaunch := 0 }

/-- The bank's answer to a SPAWN of the two children by entity 0 of wave 1. -/
def twoChildren : Answer :=
  { ent := 0, wave := 1, block := 0, line := 0, kind := .children [(0, startingChild), (1, roomlessChild)], needs := [] }

/-- The entity that waits for the answer. -/
def spawningEntity : Entity := { Entity.start 1 0 (BitVec.allOnes 96) (BitVec.allOnes 96) [] with park := .bank }

/-- Its wave, whose handler is at 8. -/
def spawningWave : Wave := Wave.start .block 0 0 0 (.launch 0) 8 0 8 0

/-- Wave 1 stands though the last number given out is 0, so the next wave that starts takes its place. -/
def reusedNumber : State :=
  { State.reset with
    ents := [(0, spawningEntity)], waves := [(1, spawningWave)], blocks := [(0, placedBlock)], answers := [twoChildren]
    pavs := [(0, { Pavilion.fresh with bins := [(0, fullBin startingChild), (1, fullBin roomlessChild)] })] }

/-- The first child's bin starts its wave; the second child finds no room, which its lane is to raise. -/
theorem reusedNumber_overflows :
    (deliverAll deliverChild { reusedNumber with answers := [] } [(0, startingChild), (1, roomlessChild)]).2 = some 1 := by
  decide +kernel

/-- The entity enters the handler of the wave that has taken its own wave's number. -/
theorem reusedNumber_handler :
    (match execBankAnswer 0 reusedNumber with | .next t => (look t.ents 0).map (fun e => e.pc) | _ => none) = some 16 := by
  decide +kernel

/-- Refutes O44. Its clause on SPAWN_OVERFLOW has the entity enter the handler of the wave that stood when the bank's answer came, with no premise that
the wave's number is one the package has given out. A child before the one without room may fill its bin, whose wave starts at once under the next
fresh number (R30, R217). Where the entity's own wave bears that number already, the new wave stands in its place, and the entity enters the new wave's
handler: at 16 here, where the clause says 8. -/
theorem not_objectBankSteps : ¬ Obligations.ObjectBankSteps := by
  intro h
  obtain ⟨-, hanswer⟩ := h
  obtain ⟨-, hcovered⟩ := hanswer reusedNumber 0 twoChildren spawningEntity spawningWave placedBlock rfl rfl rfl rfl rfl rfl
  obtain ⟨-, -, -, -, hchildren, -⟩ := hcovered rfl
  obtain ⟨-, hoverflow⟩ := hchildren _ rfl rfl
  obtain ⟨t, hexec, hlook, -⟩ := hoverflow 1 reusedNumber_overflows (by decide) rfl
  have hpc := reusedNumber_handler
  have hexec' : execBankAnswer 0 reusedNumber = .next t := hexec
  have hlook' : look t.ents 0 = _ := hlook
  rw [hexec'] at hpc
  dsimp only at hpc
  rw [hlook'] at hpc
  exact absurd hpc (by decide)

end Sys2Proof.Laws
